-- ==== Sys2Proof/Word.lean ====
section
/-! DEFINITION. The words of the D341, its small fixed sets of names (channels, lanes, ports, keys, markers) and the
containers that hold one value for each of them. -/

namespace Sys2Proof

/-- One byte of a link frame or of an SPI frame (R158, R170). -/
abbrev Byte := BitVec 8

/-- A value of a phase accumulator: one full cycle is 2^32 (R2). -/
abbrev Phase := BitVec 32

/-- The three phase channels L1, L2, L3; link LKn carries the setpoints of channel Ln. -/
inductive Channel where
  | L1 | L2 | L3
  deriving DecidableEq, Repr

/-- The three sequencer lanes, numbered 0 to 2 (R79). -/
inductive LaneId where
  | lane0 | lane1 | lane2
  deriving DecidableEq, Repr

/-- The two control ports (R169). -/
inductive Port where
  | A | B
  deriving DecidableEq, Repr

/-- The two hold keys (R108). -/
inductive HoldKey where
  | K1 | K2
  deriving DecidableEq, Repr

/-- The two marker lines (R107). -/
inductive MarkerLine where
  | M1 | M2
  deriving DecidableEq, Repr

/-- The six orders in which three links can be taken. -/
inductive LinkOrder where
  | o123 | o132 | o213 | o231 | o312 | o321
  deriving DecidableEq, Repr

/-- One value for each channel (or for each link). -/
structure PerChannel (α : Type) where
  l1 : α
  l2 : α
  l3 : α
  deriving DecidableEq, Repr

/-- One value for each lane. -/
structure PerLane (α : Type) where
  n0 : α
  n1 : α
  n2 : α
  deriving DecidableEq, Repr

/-- One value for each control port. -/
structure PerPort (α : Type) where
  a : α
  b : α
  deriving DecidableEq, Repr

/-- A set of channels. -/
abbrev ChannelSet := PerChannel Bool

/-- A set of lanes. -/
abbrev LaneSet := PerLane Bool

/-- The value of channel `c`. -/
def PerChannel.get {α : Type} (x : PerChannel α) : Channel → α
  | .L1 => x.l1
  | .L2 => x.l2
  | .L3 => x.l3

/-- `x` with the value of channel `c` replaced. -/
def PerChannel.set {α : Type} (x : PerChannel α) (c : Channel) (v : α) : PerChannel α :=
  match c with
  | .L1 => { x with l1 := v }
  | .L2 => { x with l2 := v }
  | .L3 => { x with l3 := v }

/-- The same value for every channel. -/
def PerChannel.all {α : Type} (v : α) : PerChannel α := ⟨v, v, v⟩

/-- The value of lane `l`. -/
def PerLane.get {α : Type} (x : PerLane α) : LaneId → α
  | .lane0 => x.n0
  | .lane1 => x.n1
  | .lane2 => x.n2

/-- `x` with the value of lane `l` replaced. -/
def PerLane.set {α : Type} (x : PerLane α) (l : LaneId) (v : α) : PerLane α :=
  match l with
  | .lane0 => { x with n0 := v }
  | .lane1 => { x with n1 := v }
  | .lane2 => { x with n2 := v }

/-- The same value for every lane. -/
def PerLane.all {α : Type} (v : α) : PerLane α := ⟨v, v, v⟩

/-- The value of port `p`. -/
def PerPort.get {α : Type} (x : PerPort α) : Port → α
  | .A => x.a
  | .B => x.b

/-- `x` with the value of port `p` replaced. -/
def PerPort.set {α : Type} (x : PerPort α) (p : Port) (v : α) : PerPort α :=
  match p with
  | .A => { x with a := v }
  | .B => { x with b := v }

end Sys2Proof
end

