-- ==== Sys2Proof/Syntax.lean ====
section
/-! DEFINITION. The commands of the block: one constructor of `Instr` for each row of spec/opcode_table.json, with the
row's operands as the bytes of a frame carry them (R173, R176). -/

namespace Sys2Proof

/-- What one sample event leaves open: the order of the work that meets in it (R103, R142, R147, R155, R166). -/
structure TickOrder where
  /-- The order in which the trip unit takes the links' source changes (R147). -/
  sources : LinkOrder
  /-- The channels (and so the lanes over them) whose sample event is taken before an entry to TRIPPED that a link makes
  in this sample event (R103, R155). -/
  before : ChannelSet
  /-- The links whose setpoint frame has already started when that entry is made (R160, R166). -/
  started : ChannelSet
  /-- The links whose setpoint frame has not started yet when the next command is taken (R24, R155). -/
  waits : ChannelSet
  /-- How many of the lanes' capture starts of this sample event the engine takes before its offer (R142). -/
  startsFirst : Nat
  deriving DecidableEq, Repr

/-- The parameter set that SET_CHANNEL carries (R35). -/
structure RawParams where
  freq : Nat
  amp : Nat
  table : Nat
  overlay : Nat
  dc : Int
  level : Nat
  deriving DecidableEq, Repr

/-- One of the six term slots of WRITE_OVERLAY_SET (R176). -/
structure OverlaySlot where
  order : Nat
  amplitude : Nat
  phase : Nat
  deriving DecidableEq, Repr

/-- The step record that WRITE_STEP carries, in the order of R62 and R60; a part's presence byte stands before its
subfields, which are always sent (R173). -/
structure RawStep where
  mask : Nat
  count : Nat
  unit : Nat
  hasSync : Nat
  sync : Nat
  hasHold : Nat
  holdKey : Nat
  hasLevel : Nat
  level : Nat
  levelRamp : Nat
  hasFreq : Nat
  freq : Nat
  freqRamp : Nat
  hasJump : Nat
  jump : Int
  hasShape : Nat
  table : Nat
  overlay : Nat
  hasMarkers : Nat
  marker1 : Nat
  marker2 : Nat
  hasCapture : Nat
  descriptor : Nat
  hasWait : Nat
  waitChannel : Nat
  quantity : Nat
  relation : Nat
  threshold : Nat
  consecutive : Nat
  timeout : Nat
  onTimeout : Nat
  hasOpen : Nat
  openCount : Nat
  hasClose : Nat
  closeCount : Nat
  deriving DecidableEq, Repr

/-- The fields that WRITE_DESCRIPTOR DEFINE carries (R126). -/
structure RawDescriptor where
  source : Nat
  channel : Nat
  base : Nat
  count : Nat
  next : Nat
  decimation : Nat
  hasDeadband : Nat
  deadband : Nat
  hasMonitor : Nat
  relation : Nat
  threshold : Nat
  deriving DecidableEq, Repr

/-- The commands: one constructor per row of spec/opcode_table.json. A port command names the port whose deselect takes
it (R174); its other operands are the items of its frame body (R173). -/
inductive Instr where
  /-- RESET_N_ASSERTION (R184), with whether TRIP_N is low at the release (R143). -/
  | resetNAssertion (tripNLow : Bool)
  /-- SAMPLE_EVENT (R4). -/
  | sampleEvent (o : TickOrder)
  /-- LEVEL_RAMP_END (R13). -/
  | levelRampEnd (c : Channel) (o : TickOrder)
  /-- FREQUENCY_RAMP_END (R14). -/
  | frequencyRampEnd (c : Channel) (o : TickOrder)
  /-- LINK_LOST (R163). -/
  | linkLost (k : Channel) (o : TickOrder)
  /-- LINK_RECOVERED (R163). -/
  | linkRecovered (k : Channel) (o : TickOrder)
  /-- STATUS_FRAME (R161): the characters of a closed frame, and whether each had its stop bit. -/
  | statusFrame (k : Channel) (chars : List Byte) (stops : Bool)
  /-- TRUNCATED (R116). -/
  | truncated (c : Channel) (o : TickOrder)
  /-- MARKER_PULSE_END (R107). -/
  | markerPulseEnd (m : MarkerLine) (o : TickOrder)
  /-- DWELL_END (R90). -/
  | dwellEnd (l : LaneId) (o : TickOrder)
  /-- WAIT_MET (R92). -/
  | waitMet (l : LaneId) (o : TickOrder)
  /-- WAIT_TIMEOUT (R93). -/
  | waitTimeout (l : LaneId) (o : TickOrder)
  /-- DECIMATION_PASS (R133). -/
  | decimationPass (o : TickOrder)
  /-- CAPTURE_PASS_FULL (R136). -/
  | capturePassFull (o : TickOrder)
  /-- TRIP_N_ASSERTED (R144). -/
  | tripNAsserted
  /-- TRIP_N_RELEASED (R144). -/
  | tripNReleased
  /-- SPI_SELECT (R170). -/
  | spiSelect (p : Port)
  /-- FRAME_ERROR (R171): the deselect of port `p`, which judges the received bytes. -/
  | frameError (p : Port)
  /-- NOP (R177). -/
  | nop (p : Port)
  /-- IDENTIFY (R177). -/
  | identify (p : Port)
  /-- GET_ALERTS (R180). -/
  | getAlerts (p : Port)
  /-- SET_ALERT_MASK (R181). -/
  | setAlertMask (p : Port) (mask : Nat)
  /-- MASTER_CLEAR (R183). -/
  | masterClear (p : Port)
  /-- SET_CHANNEL (R35). -/
  | setChannel (p : Port) (ch : Nat) (r : RawParams)
  /-- GET_CHANNEL (R40). -/
  | getChannel (p : Port) (ch clear : Nat)
  /-- LINK_CHANNEL, follow (R32). -/
  | linkChannelFollow (p : Port) (ch offset : Nat)
  /-- LINK_CHANNEL, unlink (R33). -/
  | linkChannelUnlink (p : Port) (ch : Nat)
  /-- BEGIN_TABLE (R45). -/
  | beginTable (p : Port) (t : Nat)
  /-- WRITE_TABLE_CHUNK (R46). -/
  | writeTableChunk (p : Port) (t chunk : Nat) (entries : List Int)
  /-- COMMIT_TABLE (R47). -/
  | commitTable (p : Port) (t : Nat)
  /-- DISCARD_TABLE (R48). -/
  | discardTable (p : Port) (t : Nat)
  /-- READ_TABLE_CHUNK (R49). -/
  | readTableChunk (p : Port) (t chunk : Nat)
  /-- GET_TABLE_STATE (R49). -/
  | getTableState (p : Port) (t : Nat)
  /-- WRITE_OVERLAY_SET (R52). -/
  | writeOverlaySet (p : Port) (n count : Nat) (slots : List OverlaySlot)
  /-- READ_OVERLAY_SET (R53). -/
  | readOverlaySet (p : Port) (n : Nat)
  /-- WRITE_STEP (R62). -/
  | writeStep (p : Port) (n : Nat) (r : RawStep)
  /-- READ_STEP (R66). -/
  | readStep (p : Port) (n : Nat)
  /-- CLEAR_STEP (R65). -/
  | clearStep (p : Port) (n : Nat)
  /-- WRITE_PROGRAM, DEFINE (R69). -/
  | writeProgramDefine (p : Port) (n first count policy : Nat)
  /-- WRITE_PROGRAM, UNDEFINE (R69). -/
  | writeProgramUndefine (p : Port) (n : Nat)
  /-- READ_PROGRAM (R70). -/
  | readProgram (p : Port) (n : Nat)
  /-- START (R83): program number and channel bit map. -/
  | start (p : Port) (program channels : Nat)
  /-- HOLD (R98). -/
  | hold (p : Port) (lane : Nat)
  /-- RESUME (R105). -/
  | resume (p : Port) (lane : Nat)
  /-- RELEASE (R96). -/
  | release (p : Port) (lane : Nat)
  /-- ABORT (R101). -/
  | abort (p : Port) (lane : Nat)
  /-- GET_LANE (R109). -/
  | getLane (p : Port) (lane : Nat)
  /-- SET_HOLD_KEY (R108). -/
  | setHoldKey (p : Port) (key : Nat)
  /-- CLEAR_HOLD_KEY (R108). -/
  | clearHoldKey (p : Port) (key : Nat)
  /-- GET_MEASUREMENT (R122). -/
  | getMeasurement (p : Port) (ch : Nat)
  /-- WRITE_DESCRIPTOR, DEFINE (R126). -/
  | writeDescriptorDefine (p : Port) (d : Nat) (r : RawDescriptor)
  /-- WRITE_DESCRIPTOR, UNDEFINE (R126). -/
  | writeDescriptorUndefine (p : Port) (d : Nat)
  /-- READ_DESCRIPTOR (R127). -/
  | readDescriptor (p : Port) (d : Nat)
  /-- START_CAPTURE (R130). -/
  | startCapture (p : Port) (d : Nat)
  /-- STOP_CAPTURE (R138). -/
  | stopCapture (p : Port)
  /-- READ_CAPTURE (R140). -/
  | readCapture (p : Port) (address count : Nat)
  /-- GET_CAPTURE (R141). -/
  | getCapture (p : Port)
  /-- TRIP (R151). -/
  | trip (p : Port)
  /-- RESTART (R150). -/
  | restart (p : Port)
  /-- GET_TRIP (R154). -/
  | getTrip (p : Port)
  /-- GET_LINK (R167). -/
  | getLink (p : Port) (link clear : Nat)
  /-- SPI_BYTE_COMPLETED (R170). -/
  | spiByteCompleted (p : Port) (b : Byte)
  deriving DecidableEq, Repr

end Sys2Proof
end

