-- ==== Sys2Proof/Decode.lean ====
section
/-! DEFINITION. The host's question about the opcode table's bits. No row of spec/opcode_table.json gives bits (every
"fields" is empty and none has "fixed"), so no word spells a command. The frames by which a control port carries a
command are decoded in Machine/Frames.lean (R171, R173, R176). -/

namespace Sys2Proof

/-- The command that a word spells by the table's bits: none, since no row gives bits. -/
def decodeTableWord (_nbits _w : Nat) : Option Instr := none

end Sys2Proof
end

