-- ==== Sys2Proof/Config.lean ====
section
/-! DEFINITION. What this part fixes as constants: the identity of R177 and the sizes the chapters give. The spec
leaves no result value open, so there is no free value here. -/

namespace Sys2Proof.Config

/-- The sample event rate in units of 0.01 Hz (R11). -/
abbrev sampleRate : Nat := 2560000

/-- One full cycle of a phase accumulator (R2). -/
abbrev cycle : Nat := 4294967296

/-- The half-cycle point, threshold 2^31 (R25, R27). -/
abbrev halfCycle : Phase := 2147483648#32

/-- The largest setpoint, sense or table code (R21, R44). -/
abbrev maxCode : Int := 32767

/-- The divisor of the scaling, 32,767 × 1,000 × 1,000 × 1,024 (R20). -/
abbrev scaleDivisor : Int := 33553408000000

/-- The most samples one half-cycle accumulation holds (R116). -/
abbrev maxSamples : Nat := 1024

/-- The gap word of the capture memory (R124). -/
abbrev gapWord : Int := -32768

/-- The words of the capture memory (R124). -/
abbrev captureWords : Nat := 16384

/-- The limit of every saturating count (R22, R80, R129, R157). -/
abbrev saturation : Nat := 65535

/-- The byte that names a port in the identity body (R177). -/
def portByte : Port → Byte
  | .A => 0#8
  | .B => 1#8

/-- The 18 bytes of IDENTIFY and of the power-on response (R177). -/
def identityBody (p : Port) : List Byte :=
  [0x0B#8, 0x27#8, 0x03#8, 0x41#8, 1#8, portByte p, 3#8, 3#8, 16#8, 8#8, 1#8, 0#8, 8#8, 16#8, 0x40#8, 0#8, 6#8, 4#8]

end Sys2Proof.Config
end

