-- ==== Sys2Proof/Machine/Store.lean ====
section
/-! DEFINITION. Sparse tables of numbered records, and the word memories made of them, in one canonical form: numbers
strictly rising, and in a memory no word listed that equals what an unlisted address reads as, 0 (R44, R124). -/

namespace Sys2Proof.Machine

/-- Records by number, the numbers strictly rising; a number that is not listed has no record. -/
abbrev Store (α : Type) := List (Nat × α)

/-- A word memory: signed words by address, in the canonical form of `Memory.wf`. -/
abbrev Memory := List (Nat × Int)

/-- The record of number `k`. -/
def Store.get {α : Type} : Store α → Nat → Option α
  | [], _ => none
  | (i, v) :: t, k => if k = i then some v else Store.get t k

/-- Record `k` replaced or added, in its place. -/
def Store.put {α : Type} : Store α → Nat → α → Store α
  | [], k, v => [(k, v)]
  | (i, w) :: t, k, v =>
    if k < i then (k, v) :: (i, w) :: t else if k = i then (k, v) :: t else (i, w) :: Store.put t k v

/-- Record `k` removed. -/
def Store.del {α : Type} : Store α → Nat → Store α
  | [], _ => []
  | (i, w) :: t, k => if k = i then Store.del t k else (i, w) :: Store.del t k

/-- The numbers are strictly rising. -/
abbrev Store.wf {α : Type} (m : Store α) : Prop := m.Pairwise (fun x y => x.1 < y.1)

/-- The word at address `a`; an address that is not listed reads 0, the reset contents (R44, R124). -/
def Memory.read (m : Memory) (a : Nat) : Int := (Store.get m a).getD 0

/-- The word at address `a` written; a word 0 is not listed. -/
def Memory.write (m : Memory) (a : Nat) (v : Int) : Memory :=
  if v = 0 then Store.del m a else Store.put m a v

/-- Words written from address `a` up. -/
def Memory.writeList (m : Memory) (a : Nat) : List Int → Memory
  | [] => m
  | v :: vs => Memory.writeList (Memory.write m a v) (a + 1) vs

/-- `n` words from address `a` up. -/
def Memory.readList (m : Memory) (a : Nat) : Nat → List Int
  | 0 => []
  | n + 1 => Memory.read m a :: Memory.readList m (a + 1) n

/-- The canonical form: addresses strictly rising, no word 0 listed. -/
abbrev Memory.wf (m : Memory) : Prop := Store.wf m ∧ ∀ e ∈ m, e.2 ≠ 0

end Sys2Proof.Machine
end

