-- ==== Sys2Proof/Machine/State.lean ====
section
/-! DEFINITION. Everything the spec gives the D341, as plain data, and its value at reset. The record of each block is a
structure named as its chapter names it; an index to a rule stands beside every field. -/

namespace Sys2Proof.Machine

/-- The block stops nowhere: every command the spec lists has an effect in every state, a refused command included (it
is answered with a status, R174, R175). No definition raises a fault. -/
inductive Fault where
  deriving DecidableEq, Repr

/-- Why a command has no meaning. -/
inductive Refusal where
  /-- The host's word for a row without a meaning yet; no arm of `exec` uses it. Safe: the run stops. -/
  | notModelled (mnemonic : String)
  deriving DecidableEq, Repr

/-! ### Channels (R2, R34) -/

/-- A parameter set: the active set, a staged set, or a lane's snapshot (R34, R41). -/
structure ParamSet where
  /-- Frequency setting in 0.01 Hz. -/
  freq : Nat
  /-- Frequency word F, the accumulator increment per sample event; in an active set it is the channel's F (log 12). -/
  word : Int
  /-- Nominal amplitude N. -/
  amp : Nat
  /-- Waveform table. -/
  table : Nat
  /-- Overlay set. -/
  overlay : Nat
  /-- DC offset D. -/
  dc : Int
  /-- Base level in 0.1 % of nominal. -/
  level : Nat
  deriving DecidableEq, Repr

/-- A level ramp or a frequency ramp in progress (R12, R14). -/
structure Ramp where
  start : Int
  target : Int
  step : Int
  remaining : Nat
  deriving DecidableEq, Repr

/-- The synthesis state of one channel (R2). -/
structure Chan where
  /-- Phase accumulator P. -/
  phase : Phase
  /-- Unlinked (none), or follower of L1 at an offset. -/
  link : Option Phase
  /-- The active set; its `word` is the channel's F, which a frequency ramp moves. -/
  active : ParamSet
  /-- The staged set, absent or pending. -/
  staged : Option ParamSet
  /-- Envelope e, level × 1,024. -/
  env : Int
  levelRamp : Option Ramp
  freqRamp : Option Ramp
  /-- Clip counter, saturating at 65,535. -/
  clip : Nat
  deriving DecidableEq, Repr

/-! ### Waveform library (R44, R51) -/

/-- The state of a table with its owner and coverage: EMPTY has neither, READY has full coverage and no owner (R44). -/
inductive TableState where
  | empty
  | loading (owner : Port) (coverage : List Nat)
  | ready
  deriving DecidableEq, Repr

/-- One harmonic term (R51). -/
structure Term where
  order : Nat
  amplitude : Nat
  phase : Nat
  deriving DecidableEq, Repr

/-! ### Step store and program directory (R60, R68) -/

/-- A sync angle with its threshold (R60, R61). -/
structure SyncPart where
  angle : Nat
  threshold : Phase
  deriving DecidableEq, Repr

/-- A level change or ramp (R60). -/
structure LevelPart where
  target : Nat
  ramp : Nat
  deriving DecidableEq, Repr

/-- A frequency change or ramp, with its word Ft (R60, R61). -/
structure FreqPart where
  target : Nat
  word : Int
  ramp : Nat
  deriving DecidableEq, Repr

/-- A phase jump with its jump word J (R60, R61). -/
structure JumpPart where
  angle : Int
  word : Int
  deriving DecidableEq, Repr

/-- A new table and overlay set (R60). -/
structure ShapePart where
  table : Nat
  overlay : Nat
  deriving DecidableEq, Repr

/-- An action on a marker line (R60, R107). -/
inductive MarkerAction where
  | none | set | clear | pulse
  deriving DecidableEq, Repr

/-- The actions for M1 and M2 (R60). -/
structure MarkersPart where
  m1 : MarkerAction
  m2 : MarkerAction
  deriving DecidableEq, Repr

/-- The unit of a duration (R60). -/
inductive DurationUnit where
  | samples | cycles
  deriving DecidableEq, Repr

/-- A count with its unit: a duration, or what remains of one (R60, R79). -/
structure Duration where
  count : Nat
  unit : DurationUnit
  deriving DecidableEq, Repr

/-- The quantity a wait compares (R60). -/
inductive Quantity where
  | V | I
  deriving DecidableEq, Repr

/-- The relation of a wait or of a monitor (R60, R125). -/
inductive Relation where
  | below | above
  deriving DecidableEq, Repr

/-- What a wait does on its timeout (R60). -/
inductive OnTimeout where
  | continue_ | abort
  deriving DecidableEq, Repr

/-- A measured condition (R60). -/
structure WaitPart where
  channel : Channel
  quantity : Quantity
  relation : Relation
  threshold : Nat
  consecutive : Nat
  timeout : Nat
  onTimeout : OnTimeout
  deriving DecidableEq, Repr

/-- A defined step record: thirteen parts, the mask and the duration always present (R60). -/
structure StepRecord where
  mask : ChannelSet
  sync : Option SyncPart
  hold : Option HoldKey
  level : Option LevelPart
  freq : Option FreqPart
  jump : Option JumpPart
  shape : Option ShapePart
  markers : Option MarkersPart
  capture : Option Nat
  duration : Duration
  wait : Option WaitPart
  groupOpen : Option Nat
  groupClose : Option Nat
  deriving DecidableEq, Repr

/-- How a completed program hands back its channels (R68). -/
inductive ExitPolicy where
  | keep | restore
  deriving DecidableEq, Repr

/-- A defined entry of the program directory (R68). -/
structure Program where
  first : Nat
  count : Nat
  policy : ExitPolicy
  deriving DecidableEq, Repr

/-! ### Lanes (R79, R80) -/

/-- The state of a lane (R79). -/
inductive LaneState where
  | idle | aligning | dwell | waiting | held | closing
  deriving DecidableEq, Repr

/-- Why a lane is HELD (R79). -/
inductive HoldReason where
  | key1 | key2 | command
  deriving DecidableEq, Repr

/-- Where a lane was held from (R79). -/
inductive HeldFrom where
  | entry | aligning | dwell | waiting
  deriving DecidableEq, Repr

/-- An entry of a lane's group stack; 0 remaining passes means unbounded (R79). -/
structure GroupEntry where
  opening : Nat
  remaining : Nat
  deriving DecidableEq, Repr

/-- The reason in an end record; `none` before the first ending (R80). -/
inductive EndReason where
  | none | completed | abortedA | abortedB | tripped | waitTimeout | cleared
  deriving DecidableEq, Repr

/-- A lane's end record (R80). -/
structure EndRecord where
  reason : EndReason
  position : Nat
  timeouts : Nat
  missed : Bool
  deriving DecidableEq, Repr

/-- A lane record (R79). The reference channel is the lowest-numbered channel of `channels`. -/
structure Lane where
  state : LaneState
  program : Option Nat
  origin : Option Port
  channels : ChannelSet
  /-- Position of the current step in the program. -/
  position : Option Nat
  /-- Group stack, innermost last. -/
  stack : List GroupEntry
  dwell : Option Duration
  /-- Wait progress: consecutive count. -/
  consecutive : Nat
  /-- Wait progress: remaining timeout in wraps. -/
  timeout : Nat
  releasePending : Bool
  holdReason : Option HoldReason
  heldFrom : Option HeldFrom
  snapshots : PerChannel (Option ParamSet)
  reverted : ChannelSet
  ending : EndRecord
  deriving DecidableEq, Repr

/-- A marker line: its level (true is high) and its pulse-pending flag (R107). -/
structure Marker where
  high : Bool
  pulse : Bool
  deriving DecidableEq, Repr

/-! ### Sense unit (R111, R120) -/

/-- The polarity of a half cycle (R111). -/
inductive Polarity where
  | positive | negative
  deriving DecidableEq, Repr

/-- A closed measurement (R120). -/
structure Measurement where
  seq : Nat
  polarity : Polarity
  n : Nat
  missing : Nat
  limit : Nat
  rmsV : Nat
  rmsI : Nat
  incomplete : Bool
  truncated : Bool
  deriving DecidableEq, Repr

/-- The sense state of one channel (R111). -/
structure Sense where
  isOpen : Bool
  polarity : Option Polarity
  n : Nat
  missing : Nat
  limit : Nat
  sumV : Nat
  sumI : Nat
  nextSeq : Nat
  record : Option Measurement
  deriving DecidableEq, Repr

/-! ### Capture engine (R125, R129) -/

/-- What a descriptor records (R125, R128). -/
inductive Source where
  | setpoint | senseV | senseI | rmsV | rmsI
  deriving DecidableEq, Repr

/-- A descriptor's monitor (R125). -/
structure Monitor where
  relation : Relation
  threshold : Nat
  deriving DecidableEq, Repr

/-- A defined capture descriptor (R125); `next` is none for END. -/
structure Descriptor where
  source : Source
  channel : Channel
  base : Nat
  count : Nat
  next : Option Nat
  decimation : Nat
  deadband : Option Nat
  monitor : Option Monitor
  deriving DecidableEq, Repr

/-- Why a pass ended (R125). -/
inductive PassReason where
  | full | monitor | stopped
  deriving DecidableEq, Repr

/-- A completion record (R125). -/
structure Completion where
  words : Nat
  reason : PassReason
  run : Nat
  deriving DecidableEq, Repr

/-- Who started the latest run (R129). -/
inductive Originator where
  | port (p : Port)
  | lane (l : LaneId) (p : Port)
  deriving DecidableEq, Repr

/-- The capture engine's record (R129). -/
structure Engine where
  isActive : Bool
  originator : Option Originator
  run : Nat
  current : Option Nat
  writeIndex : Nat
  phase : Nat
  last : Option Int
  ends : Nat
  missed : Bool
  deriving DecidableEq, Repr

/-! ### Trip unit (R143) -/

/-- The trip state (R143). -/
inductive TripState where
  | normal | tripped
  deriving DecidableEq, Repr

/-- The output state of a channel (R148). -/
inductive OutputState where
  | driving | parked | unparking
  deriving DecidableEq, Repr

/-- A live source or a command cause (R143). -/
inductive Cause where
  | tripN | linkFault (k : Channel) | linkLoss (k : Channel) | portTrip | masterClear | powerOn
  deriving DecidableEq, Repr

/-- The set of the live sources that are active (R143). -/
structure SourceSet where
  tripN : Bool
  fault : PerChannel Bool
  loss : PerChannel Bool
  deriving DecidableEq, Repr

/-- The cause set (R143). -/
structure CauseSet where
  sources : SourceSet
  portTrip : Bool
  masterClear : Bool
  powerOn : Bool
  deriving DecidableEq, Repr

/-- The first cause, with the sending port for PORT_TRIP and MASTER_CLEAR (R143). -/
structure FirstCause where
  cause : Cause
  port : Option Port
  deriving DecidableEq, Repr

/-- The trip unit's record (R143). -/
structure TripUnit where
  state : TripState
  active : SourceSet
  causes : CauseSet
  first : FirstCause
  outputs : PerChannel OutputState
  deriving DecidableEq, Repr

/-! ### Amplifier links (R157) -/

/-- The health of a link (R157). -/
inductive Health where
  | good | lost
  deriving DecidableEq, Repr

/-- What a good status frame carries (R158, R161). -/
structure Status where
  echo : Nat
  v : Int
  i : Int
  fault : Bool
  limit : Bool
  deriving DecidableEq, Repr

/-- The five counts of rejected frames (R157). -/
structure Rejected where
  form : Nat
  crc : Nat
  late : Nat
  echo : Nat
  extra : Nat
  deriving DecidableEq, Repr

/-- The record of one link (R157), with the frame on its line. -/
structure Link where
  next : Nat
  outstanding : Option Nat
  answer : Option Status
  health : Health
  missingRun : Nat
  goodRun : Nat
  fault : Bool
  latest : Option Status
  missing : Nat
  rejected : Rejected
  /-- LKn_TX: the five bytes of the setpoint frame of the latest sample event, empty before the first (R160). -/
  tx : List Byte
  /-- The model's own: that frame has not started yet when the next command is taken (R24, R155, R160). -/
  waiting : Bool
  deriving DecidableEq, Repr

/-! ### Control ports (R169) -/

/-- The sixteen status codes (R175). -/
inductive StatusCode where
  | ok | clamped | frameError | badArgument | wrongState | busy | inUse | ownedByOther | notReady | channelBusy
  | noLane | pending | badProgram | tripped | sourceActive | notTripped
  deriving DecidableEq, Repr

/-- A set of alert kinds (R169). -/
structure AlertKinds where
  laneEnded : Bool
  laneHeld : Bool
  trip : Bool
  captureEnded : Bool
  captureMissed : Bool
  clipping : Bool
  deriving DecidableEq, Repr

/-- A pending alert set: its kinds, and the lanes and channels that three of them carry (R169). -/
structure Alerts where
  kinds : AlertKinds
  ended : LaneSet
  held : LaneSet
  clipped : ChannelSet
  deriving DecidableEq, Repr

/-- A response: status code, code echo, body; the body length is the body's (R172, R173). -/
structure Response where
  status : StatusCode
  echo : Byte
  body : List Byte
  deriving DecidableEq, Repr

/-- The record of one control port (R169), with its MISO line. -/
structure PortRecord where
  /-- Receive state: true is RECEIVING. -/
  receiving : Bool
  /-- The kept bytes of the transaction in progress. -/
  frame : List Byte
  /-- The byte count of the transaction in progress. -/
  count : Nat
  holder : Response
  alerts : Alerts
  mask : AlertKinds
  /-- MISO: high impedance (none), or the byte being shifted out (R170). -/
  miso : Option Byte
  deriving DecidableEq, Repr

/-! ### The whole block -/

/-- The state of the D341 and the queue of the commands that wait for it. -/
structure State where
  /-- The model's own: the commands that wait, first in, first out. -/
  pending : List Instr
  chans : PerChannel Chan
  /-- The states of tables 1 to 15 that are not EMPTY. -/
  tables : List (Nat × TableState)
  /-- The entries of tables 1 to 15: entry i of table t at 1,024 t + i. -/
  wave : Memory
  /-- The overlay sets 1 to 7 that were written. -/
  overlays : List (Nat × List Term)
  /-- The defined step records. -/
  steps : List (Nat × StepRecord)
  /-- The defined program entries. -/
  programs : List (Nat × Program)
  lanes : PerLane Lane
  key1 : Bool
  key2 : Bool
  marker1 : Marker
  marker2 : Marker
  sense : PerChannel Sense
  /-- The defined capture descriptors. -/
  descs : List (Nat × Descriptor)
  /-- The completion records that are present. -/
  comps : List (Nat × Completion)
  engine : Engine
  /-- The capture memory. -/
  mem : Memory
  trip : TripUnit
  links : PerChannel Link
  ports : PerPort PortRecord
  deriving DecidableEq, Repr

/-! ### Reset values -/

/-- No alert kind. -/
def AlertKinds.empty : AlertKinds := ⟨false, false, false, false, false, false⟩

/-- All six alert kinds. -/
def AlertKinds.full : AlertKinds := ⟨true, true, true, true, true, true⟩

/-- The empty pending alert set. -/
def Alerts.empty : Alerts := ⟨AlertKinds.empty, PerLane.all false, PerLane.all false, PerChannel.all false⟩

/-- No live source. -/
def SourceSet.empty : SourceSet := ⟨false, PerChannel.all false, PerChannel.all false⟩

/-- No cause. -/
def CauseSet.empty : CauseSet := ⟨SourceSet.empty, false, false, false⟩

/-- The active set after reset (R2). -/
def ParamSet.reset : ParamSet := ⟨5000, 8388608, 0, 0, 0, 0, 1000⟩

/-- A channel after reset, at its phase and link (R2). -/
def Chan.reset (phase : Phase) (link : Option Phase) : Chan :=
  { phase := phase, link := link, active := ParamSet.reset, staged := none, env := 1024000, levelRamp := none,
    freqRamp := none, clip := 0 }

/-- The end record after reset and after START (R80). -/
def EndRecord.reset : EndRecord := ⟨.none, 0, 0, false⟩

/-- A lane after reset (R79). -/
def Lane.reset : Lane :=
  { state := .idle, program := none, origin := none, channels := PerChannel.all false, position := none, stack := [],
    dwell := none, consecutive := 0, timeout := 0, releasePending := false, holdReason := none, heldFrom := none,
    snapshots := PerChannel.all none, reverted := PerChannel.all false, ending := EndRecord.reset }

/-- The sense state of a channel after reset (R111). -/
def Sense.reset : Sense :=
  { isOpen := false, polarity := none, n := 0, missing := 0, limit := 0, sumV := 0, sumI := 0, nextSeq := 0,
    record := none }

/-- The capture engine after reset (R129). -/
def Engine.reset : Engine :=
  { isActive := false, originator := none, run := 0, current := none, writeIndex := 0, phase := 0, last := none,
    ends := 0, missed := false }

/-- The trip unit after reset, with TRIP_N low or high at the release (R143). -/
def TripUnit.reset (tripNLow : Bool) : TripUnit :=
  { state := .tripped, active := { SourceSet.empty with tripN := tripNLow },
    causes := { CauseSet.empty with sources := { SourceSet.empty with tripN := tripNLow }, powerOn := true },
    first := ⟨.powerOn, none⟩, outputs := PerChannel.all .parked }

/-- A link after reset (R157). -/
def Link.reset : Link :=
  { next := 0, outstanding := none, answer := none, health := .good, missingRun := 0, goodRun := 0, fault := false,
    latest := none, missing := 0, rejected := ⟨0, 0, 0, 0, 0⟩, tx := [], waiting := false }

/-- The power-on response of a port (R177). -/
def Response.powerOn (p : Port) : Response := ⟨.ok, 0#8, Config.identityBody p⟩

/-- A port after reset (R169). -/
def PortRecord.reset (p : Port) : PortRecord :=
  { receiving := false, frame := [], count := 0, holder := Response.powerOn p,
    alerts := { Alerts.empty with kinds := { AlertKinds.empty with trip := true } }, mask := AlertKinds.full,
    miso := none }

/-- The block right after the release of RESET_N, TRIP_N low or high then, with an empty queue. -/
def State.resetWith (tripNLow : Bool) : State :=
  { pending := []
    chans := ⟨Chan.reset 0#32 none, Chan.reset 2863311531#32 (some 2863311531#32),
              Chan.reset 1431655765#32 (some 1431655765#32)⟩
    tables := [], wave := [], overlays := [], steps := [], programs := []
    lanes := PerLane.all Lane.reset
    key1 := false, key2 := false, marker1 := ⟨false, false⟩, marker2 := ⟨false, false⟩
    sense := PerChannel.all Sense.reset
    descs := [], comps := [], engine := Engine.reset, mem := []
    trip := TripUnit.reset tripNLow
    links := PerChannel.all Link.reset
    ports := ⟨PortRecord.reset .A, PortRecord.reset .B⟩ }

/-- The block right after reset, TRIP_N high at the release (DESIGN CHOICE: log 7). -/
def State.reset : State := State.resetWith false

end Sys2Proof.Machine
end

