-- ==== Sys2Proof/Machine/Encoding.lean ====
section
/-! DEFINITION. The one manner in which command bodies are decoded and response bodies encoded (R173), the status codes'
bytes (R175), and the numbers of channels, lanes and ports. Byte layouts that R173 leaves open are listed in log 15. -/

namespace Sys2Proof.Machine

/-! ### Numbers of things -/

/-- Channel Ln, or link LKn, as n (R173). -/
def channelNumber : Channel → Nat
  | .L1 => 1
  | .L2 => 2
  | .L3 => 3

/-- The channel or link of a number 1 to 3. -/
def channelOf : Nat → Option Channel
  | 1 => some .L1
  | 2 => some .L2
  | 3 => some .L3
  | _ => none

/-- The number of a lane. -/
def laneNumber : LaneId → Nat
  | .lane0 => 0
  | .lane1 => 1
  | .lane2 => 2

/-- The lane of a number 0 to 2. -/
def laneOf : Nat → Option LaneId
  | 0 => some .lane0
  | 1 => some .lane1
  | 2 => some .lane2
  | _ => none

/-- A port as a choice: A first, B second. -/
def portNumber : Port → Nat
  | .A => 0
  | .B => 1

/-! ### Items of a body (R173) -/

/-- The last `k` bytes of `n`, high byte first. -/
def numBytes : Nat → Nat → List Byte
  | 0, _ => []
  | k + 1, n => BitVec.ofNat 8 (n / 256 ^ k) :: numBytes k n

/-- A signed number in `k` bytes, two's complement, high byte first. -/
def intBytes (k : Nat) (v : Int) : List Byte := numBytes k (v % (256 ^ k : Nat)).toNat

/-- The unsigned number that bytes spell, high byte first. -/
def bytesNum (b : List Byte) : Nat := b.foldl (fun acc x => acc * 256 + x.toNat) 0

/-- The signed number that bytes spell in two's complement, high byte first. -/
def bytesInt (b : List Byte) : Int :=
  if 2 * bytesNum b < 256 ^ b.length then (bytesNum b : Int) else (bytesNum b : Int) - (256 ^ b.length : Nat)

/-- `k` bytes of 0. -/
def zeroBytes (k : Nat) : List Byte := List.replicate k 0#8

/-- One byte of a value below 256. -/
def byteItem (n : Nat) : List Byte := [BitVec.ofNat 8 n]

/-- A flag: 0 for clear or no, 1 for set or yes. -/
def flagItem (b : Bool) : List Byte := [if b then 1#8 else 0#8]

/-- An item of `k` bytes that may be none or absent: a presence byte, then the item, or zeros (R173). The subfields of an
optional part that is absent are sent as zeros too (log 15). -/
def optItem (k : Nat) : Option (List Byte) → List Byte
  | none => 0#8 :: zeroBytes k
  | some b => 1#8 :: b

/-- A list of entries: a count byte, then the entries. -/
def listItem (entries : List (List Byte)) : List Byte :=
  BitVec.ofNat 8 entries.length :: entries.flatten

/-- Bit `k` of a bit map. -/
def bitAt (k : Nat) (b : Bool) : Nat := if b then 2 ^ k else 0

/-- A set of channels as a bit map: L1 is bit 0 (R173). -/
def channelBits (s : ChannelSet) : Nat := bitAt 0 s.l1 + bitAt 1 s.l2 + bitAt 2 s.l3

/-- A set of lanes as a bit map: lane 0 is bit 0 (R173). -/
def laneBits (s : LaneSet) : Nat := bitAt 0 s.n0 + bitAt 1 s.n1 + bitAt 2 s.n2

/-- The channel set of a bit map, or none when a bit stands for no channel (R173). -/
def channelSetOf (n : Nat) : Option ChannelSet :=
  if n < 8 then some ⟨n.testBit 0, n.testBit 1, n.testBit 2⟩ else none

/-- A set of chunk numbers as a bit map of 32 bits (R173). -/
def chunkBits (cov : List Nat) : Nat := (cov.map (fun c => 2 ^ c)).sum

/-- The live sources as a bit map, in the order of R143's list. -/
def sourceBits (s : SourceSet) : Nat :=
  bitAt 0 s.tripN + bitAt 1 s.fault.l1 + bitAt 2 s.fault.l2 + bitAt 3 s.fault.l3
  + bitAt 4 s.loss.l1 + bitAt 5 s.loss.l2 + bitAt 6 s.loss.l3

/-- The causes as a bit map, in the order of R143's list. -/
def causeBits (c : CauseSet) : Nat :=
  sourceBits c.sources + bitAt 7 c.portTrip + bitAt 8 c.masterClear + bitAt 9 c.powerOn

/-- Alert kinds as the byte of R180. -/
def kindBits (k : AlertKinds) : Nat :=
  bitAt 0 k.laneEnded + bitAt 1 k.laneHeld + bitAt 2 k.trip + bitAt 3 k.captureEnded + bitAt 4 k.captureMissed
  + bitAt 5 k.clipping

/-- The alert kinds of a byte of R180 whose bits 6 and 7 are 0; none otherwise (R181). -/
def kindsOf (n : Nat) : Option AlertKinds :=
  if n < 64 then
    some ⟨n.testBit 0, n.testBit 1, n.testBit 2, n.testBit 3, n.testBit 4, n.testBit 5⟩
  else none

/-! ### Choices: the position in the list as the owning rule writes it -/

/-- The byte value of a status code (R175). -/
def statusNumber : StatusCode → Nat
  | .ok => 0
  | .clamped => 1
  | .frameError => 2
  | .badArgument => 3
  | .wrongState => 4
  | .busy => 5
  | .inUse => 6
  | .ownedByOther => 7
  | .notReady => 8
  | .channelBusy => 9
  | .noLane => 10
  | .pending => 11
  | .badProgram => 12
  | .tripped => 13
  | .sourceActive => 14
  | .notTripped => 15

/-- "DRIVING, PARKED or UNPARKING" (R40, R143). -/
def outputNumber : OutputState → Nat
  | .driving => 0
  | .parked => 1
  | .unparking => 2

/-- "EMPTY, LOADING or READY" (R44). -/
def tableStateNumber : TableState → Nat
  | .empty => 0
  | .loading _ _ => 1
  | .ready => 2

/-- "IDLE, ALIGNING, DWELL, WAITING, HELD or CLOSING" (R79). -/
def laneStateNumber : LaneState → Nat
  | .idle => 0
  | .aligning => 1
  | .dwell => 2
  | .waiting => 3
  | .held => 4
  | .closing => 5

/-- "KEY1, KEY2 or COMMAND" (R79). -/
def holdReasonNumber : HoldReason → Nat
  | .key1 => 0
  | .key2 => 1
  | .command => 2

/-- "ENTRY, ALIGNING, DWELL or WAITING" (R79). -/
def heldFromNumber : HeldFrom → Nat
  | .entry => 0
  | .aligning => 1
  | .dwell => 2
  | .waiting => 3

/-- "none, COMPLETED, ABORTED_A, ABORTED_B, TRIPPED, WAIT_TIMEOUT or CLEARED" (R80): none is a choice, the first of the
list, and has no presence byte (log 15). -/
def endReasonNumber : EndReason → Nat
  | .none => 0
  | .completed => 1
  | .abortedA => 2
  | .abortedB => 3
  | .tripped => 4
  | .waitTimeout => 5
  | .cleared => 6

/-- "SAMPLES … or CYCLES" (R60). -/
def unitNumber : DurationUnit → Nat
  | .samples => 0
  | .cycles => 1

/-- "NONE, SET, CLEAR or PULSE" (R60). -/
def markerNumber : MarkerAction → Nat
  | .none => 0
  | .set => 1
  | .clear => 2
  | .pulse => 3

/-- "V or I" (R60). -/
def quantityNumber : Quantity → Nat
  | .V => 0
  | .I => 1

/-- A wait's relation, "BELOW or ABOVE" (R60). -/
def waitRelationNumber : Relation → Nat
  | .below => 0
  | .above => 1

/-- A monitor's relation, "ABOVE or BELOW" (R125). -/
def monitorRelationNumber : Relation → Nat
  | .above => 0
  | .below => 1

/-- "CONTINUE or ABORT" (R60). -/
def onTimeoutNumber : OnTimeout → Nat
  | .continue_ => 0
  | .abort => 1

/-- "KEEP or RESTORE" (R68). -/
def policyNumber : ExitPolicy → Nat
  | .keep => 0
  | .restore => 1

/-- "POSITIVE or NEGATIVE" (R111). -/
def polarityNumber : Polarity → Nat
  | .positive => 0
  | .negative => 1

/-- "SETPOINT, SENSE_V, SENSE_I, RMS_V or RMS_I" (R125). -/
def sourceNumber : Source → Nat
  | .setpoint => 0
  | .senseV => 1
  | .senseI => 2
  | .rmsV => 3
  | .rmsI => 4

/-- "FULL, MONITOR or STOPPED" (R125). -/
def passReasonNumber : PassReason → Nat
  | .full => 0
  | .monitor => 1
  | .stopped => 2

/-- "NORMAL or TRIPPED" (R143). -/
def tripStateNumber : TripState → Nat
  | .normal => 0
  | .tripped => 1

/-- "GOOD or LOST" (R157). -/
def healthNumber : Health → Nat
  | .good => 0
  | .lost => 1

/-- "active or passive" (R157, R167). -/
def activeNumber (b : Bool) : Nat := if b then 0 else 1

/-- A marker line's level, "high or low" (R107). -/
def levelNumber (high : Bool) : Nat := if high then 0 else 1

/-- A cause, in the order of R143's list. -/
def causeNumber : Cause → Nat
  | .tripN => 0
  | .linkFault k => channelNumber k
  | .linkLoss k => 3 + channelNumber k
  | .portTrip => 7
  | .masterClear => 8
  | .powerOn => 9

/-! ### Records as items -/

/-- The seven fields of a parameter set, in the order of R40 and R41 (frequency, F, N, table, overlay set, D, level). -/
def paramItem (s : ParamSet) : List Byte :=
  numBytes 2 s.freq ++ numBytes 4 s.word.toNat ++ numBytes 2 s.amp ++ byteItem s.table ++ byteItem s.overlay
  ++ intBytes 2 s.dc ++ numBytes 2 s.level

/-- A link: 0 for unlinked, or 1, and the offset (R40, R173). -/
def linkItem (l : Option Phase) : List Byte := optItem 4 (l.map (fun o => numBytes 4 o.toNat))

/-- A first cause with its port, which may be none (R154). -/
def firstCauseItem (f : FirstCause) : List Byte :=
  byteItem (causeNumber f.cause) ++ optItem 1 (f.port.map (fun p => byteItem (portNumber p)))

/-- An originator: A, B, or a lane with its originating port (R129). -/
def originatorItem : Originator → List Byte
  | .port p => byteItem (portNumber p) ++ zeroBytes 2
  | .lane l p => byteItem 2 ++ byteItem (laneNumber l) ++ byteItem (portNumber p)

/-- A program entry: its defined flag, which is the presence byte of its fields, and the fields, zeros when undefined (R69,
R70; log 15). -/
def programItem (e : Option Program) : List Byte :=
  optItem 4 (e.map (fun q => byteItem q.first ++ numBytes 2 q.count ++ byteItem (policyNumber q.policy)))

/-- The fields of a descriptor (R125). -/
def descriptorFields (d : Descriptor) : List Byte :=
  byteItem (sourceNumber d.source) ++ byteItem (channelNumber d.channel) ++ numBytes 2 d.base ++ numBytes 2 d.count
  ++ byteItem (d.next.getD 255) ++ numBytes 2 d.decimation ++ optItem 2 (d.deadband.map (numBytes 2))
  ++ optItem 3 (d.monitor.map (fun m => byteItem (monitorRelationNumber m.relation) ++ numBytes 2 m.threshold))

/-- A descriptor: its defined flag, which is the presence byte of its fields, and the fields, zeros when undefined (R127;
log 15). -/
def descriptorItem (d : Option Descriptor) : List Byte := optItem 16 (d.map descriptorFields)

/-- A completion record (R125). -/
def completionItem (c : Option Completion) : List Byte :=
  optItem 5 (c.map (fun r => numBytes 2 r.words ++ byteItem (passReasonNumber r.reason) ++ numBytes 2 r.run))

/-- A status of a module (R157, R167). -/
def statusItem (s : Option Status) : List Byte :=
  optItem 7 (s.map (fun x => byteItem x.echo ++ intBytes 2 x.v ++ intBytes 2 x.i ++ flagItem x.fault ++ flagItem x.limit))

/-- The parts of a step record as READ_STEP returns them: the order in which WRITE_STEP carries them (R62), with T, Ft
and J beside their settings (R60, R66). -/
def stepFields (r : StepRecord) : List Byte :=
  byteItem (channelBits r.mask) ++ numBytes 3 r.duration.count ++ byteItem (unitNumber r.duration.unit)
  ++ optItem 6 (r.sync.map (fun x => numBytes 2 x.angle ++ numBytes 4 x.threshold.toNat))
  ++ optItem 1 (r.hold.map (fun k => byteItem (match k with | .K1 => 1 | .K2 => 2)))
  ++ optItem 4 (r.level.map (fun x => numBytes 2 x.target ++ numBytes 2 x.ramp))
  ++ optItem 8 (r.freq.map (fun x => numBytes 2 x.target ++ numBytes 4 x.word.toNat ++ numBytes 2 x.ramp))
  ++ optItem 7 (r.jump.map (fun x => intBytes 2 x.angle ++ intBytes 5 x.word))
  ++ optItem 2 (r.shape.map (fun x => byteItem x.table ++ byteItem x.overlay))
  ++ optItem 2 (r.markers.map (fun x => byteItem (markerNumber x.m1) ++ byteItem (markerNumber x.m2)))
  ++ optItem 1 (r.capture.map byteItem)
  ++ optItem 9 (r.wait.map (fun w =>
      byteItem (channelNumber w.channel) ++ byteItem (quantityNumber w.quantity)
      ++ byteItem (waitRelationNumber w.relation) ++ numBytes 2 w.threshold ++ byteItem w.consecutive
      ++ numBytes 2 w.timeout ++ byteItem (onTimeoutNumber w.onTimeout)))
  ++ optItem 2 (r.groupOpen.map (numBytes 2))
  ++ optItem 1 (r.groupClose.map byteItem)

/-- The bytes that `stepFields` takes. -/
abbrev stepFieldsLength : Nat := 59

/-- A response on MISO: the status code, the code echo, the body length, the body (R170, R173). -/
def Response.bytes (r : Response) : List Byte :=
  BitVec.ofNat 8 (statusNumber r.status) :: r.echo :: BitVec.ofNat 8 r.body.length :: r.body

/-! ### Link frames (R158, R159) -/

/-- One shift of the CRC register: left by one, exclusive-ORed with 07 when a 1 is shifted out (R159). -/
def crcShift (r : Byte) : Byte := if r.msb then (r <<< 1) ^^^ 7#8 else r <<< 1

/-- The CRC register after one byte: exclusive-OR, then eight shifts (R159). -/
def crcByte (r b : Byte) : Byte :=
  crcShift (crcShift (crcShift (crcShift (crcShift (crcShift (crcShift (crcShift (r ^^^ b))))))))

/-- The CRC-8 of bytes in frame order, initial value 0, no final inversion (R159). -/
def crc8 (bytes : List Byte) : Byte := bytes.foldl crcByte 0#8

/-- The setpoint frame of a sequence number, a code and a parked flag (R158, R160). -/
def setpointFrame (seq : Nat) (code : Int) (parked : Bool) : List Byte :=
  let head := byteItem seq ++ intBytes 2 code ++ flagItem parked
  head ++ [crc8 head]

end Sys2Proof.Machine
end

