-- ==== Sys2Proof/Machine/Flags.lean ====
section
/-! DEFINITION. The flags of the block: the pending alert kinds of a port, its alert line, and the counts that saturate. -/

namespace Sys2Proof.Machine

/-- An alert with what it carries (R178). -/
inductive Alert where
  | laneEnded (l : LaneId)
  | laneHeld (l : LaneId)
  | trip
  | captureEnded
  | captureMissed
  | clipping (c : Channel)
  deriving DecidableEq, Repr

/-- A pending set with an alert added: the kind once, its lane or channel once (R178). -/
def addAlert (x : Alerts) : Alert → Alerts
  | .laneEnded l => { x with kinds := { x.kinds with laneEnded := true }, ended := x.ended.set l true }
  | .laneHeld l => { x with kinds := { x.kinds with laneHeld := true }, held := x.held.set l true }
  | .trip => { x with kinds := { x.kinds with trip := true } }
  | .captureEnded => { x with kinds := { x.kinds with captureEnded := true } }
  | .captureMissed => { x with kinds := { x.kinds with captureMissed := true } }
  | .clipping c => { x with kinds := { x.kinds with clipping := true }, clipped := x.clipped.set c true }

/-- Two sets of kinds have a kind in common. -/
def kindsMeet (x y : AlertKinds) : Bool :=
  (x.laneEnded && y.laneEnded) || (x.laneHeld && y.laneHeld) || (x.trip && y.trip)
  || (x.captureEnded && y.captureEnded) || (x.captureMissed && y.captureMissed) || (x.clipping && y.clipping)

/-- A port's alert line is asserted (driven low): a pending kind is enabled by the mask (R179). -/
def alertAsserted (r : PortRecord) : Bool := kindsMeet r.alerts.kinds r.mask

/-- A count increased by one, saturating at 65,535 (R22, R80, R129, R157). -/
def bump (n : Nat) : Nat := if n < Config.saturation then n + 1 else Config.saturation

/-- A number increased by one, from 65,535 to 0 (R120, R130). -/
def next16 (n : Nat) : Nat := (n + 1) % 65536

/-- A sequence number increased by one, from 255 to 0 (R160). -/
def next8 (n : Nat) : Nat := (n + 1) % 256

end Sys2Proof.Machine
end

