-- ==== Sys2Proof/Machine/Ops.lean ====
section
/-! DEFINITION. The named operations that the blocks share: reads and writes of each record's one home, responses and
alerts, bindings and program ranges, the revert to a snapshot, the endings of lanes, and the entry to TRIPPED, which is
one operation for every cause (R146). -/

namespace Sys2Proof.Machine

/-! ### Writes of one record -/

/-- The state with the record of channel `c` replaced. -/
def State.setChan (s : State) (c : Channel) (x : Chan) : State := { s with chans := s.chans.set c x }

/-- The state with the record of lane `l` replaced. -/
def State.setLane (s : State) (l : LaneId) (x : Lane) : State := { s with lanes := s.lanes.set l x }

/-- The state with the record of link `k` replaced. -/
def State.setLink (s : State) (k : Channel) (x : Link) : State := { s with links := s.links.set k x }

/-- The state with the sense state of channel `c` replaced. -/
def State.setSense (s : State) (c : Channel) (x : Sense) : State := { s with sense := s.sense.set c x }

/-- The state with the record of port `p` replaced. -/
def State.setPort (s : State) (p : Port) (x : PortRecord) : State := { s with ports := s.ports.set p x }

/-- The state with the trip unit's record replaced. -/
def State.setTrip (s : State) (x : TripUnit) : State := { s with trip := x }

/-- The state with the capture engine's record replaced. -/
def State.setEngine (s : State) (x : Engine) : State := { s with engine := x }

/-! ### Alerts and responses -/

/-- An alert raised into the pending set of port `p` (R178). -/
def State.alert (s : State) (p : Port) (a : Alert) : State :=
  s.setPort p { s.ports.get p with alerts := addAlert (s.ports.get p).alerts a }

/-- An alert raised into the pending sets of both ports (R178). -/
def State.alertBoth (s : State) (a : Alert) : State := (s.alert .A a).alert .B a

/-- An alert raised to a lane's originating port, which every running lane has (R110). -/
def State.alertOrigin (s : State) (o : Option Port) (a : Alert) : State :=
  match o with
  | some p => s.alert p a
  | none => s

/-- A block's verdict on a command: the status and what the response carries (R174). -/
structure Reply where
  status : StatusCode
  body : List Byte
  deriving DecidableEq, Repr

/-- Taken as sent. -/
def Reply.ok (body : List Byte) : Reply := ⟨.ok, body⟩

/-- Taken, with fields adjusted when `adjusted` is true (R174). -/
def Reply.taken (adjusted : Bool) (body : List Byte) : Reply := ⟨if adjusted then .clamped else .ok, body⟩

/-- Refused, with nothing to carry (R174). -/
def Reply.refuse (c : StatusCode) : Reply := ⟨c, []⟩

/-- The deselect of port `p` that leaves a response in the holder: the receive state goes IDLE and MISO to high
impedance (R170, R172); the transaction's bytes are gone (log 9). -/
def State.hold (s : State) (p : Port) (r : Response) : State :=
  s.setPort p { s.ports.get p with receiving := false, frame := [], count := 0, miso := none, holder := r }

/-- The response to a command of code `code`, taken from port `p`, with the block's verdict (R172, R174). -/
def State.answer (p : Port) (code : Nat) (v : State × Reply) : State :=
  v.1.hold p ⟨v.2.status, BitVec.ofNat 8 code, v.2.body⟩

/-! ### Sets of channels, bindings, program ranges -/

/-- The lowest-numbered channel of a set; L1 of the empty set, which no running lane has (R79). -/
def lowest (s : ChannelSet) : Channel :=
  if s.l1 then .L1 else if s.l2 then .L2 else if s.l3 then .L3 else .L1

/-- The set has no member. -/
def noChannels (s : ChannelSet) : Bool := !s.l1 && !s.l2 && !s.l3

/-- Members of both sets. -/
def bothChannels (s t : ChannelSet) : ChannelSet := ⟨s.l1 && t.l1, s.l2 && t.l2, s.l3 && t.l3⟩

/-- A lane in any state other than IDLE is running (R79). -/
def Lane.running (x : Lane) : Bool := x.state != .idle

/-- The lane holds channel `c` bound (R81). -/
def Lane.binds (x : Lane) (c : Channel) : Bool := x.running && x.channels.get c

/-- The lane that channel `c` is bound to (R81). -/
def State.boundTo (s : State) (c : Channel) : Option LaneId :=
  if s.lanes.n0.binds c then some .lane0
  else if s.lanes.n1.binds c then some .lane1
  else if s.lanes.n2.binds c then some .lane2
  else none

/-- The directory entry of a lane's program (R79: it cannot change while the lane runs, R72). -/
def State.programOf (s : State) (x : Lane) : Option Program := x.program.bind (Store.get s.programs)

/-- Step `n` lies in the program range of lane `x`, which is running (R54, R72). -/
def State.inRange (s : State) (x : Lane) (n : Nat) : Bool :=
  x.running && match s.programOf x with
    | some q => decide (q.first ≤ n) && decide (n < q.first + q.count)
    | none => false

/-- The lanes, running, whose program range holds step `n` (R66). -/
def State.rangeHolders (s : State) (n : Nat) : LaneSet :=
  ⟨s.inRange s.lanes.n0 n, s.inRange s.lanes.n1 n, s.inRange s.lanes.n2 n⟩

/-- The lanes, running, whose program is `q` (R70). -/
def State.runners (s : State) (q : Nat) : LaneSet :=
  let f (x : Lane) : Bool := x.running && decide (x.program = some q)
  ⟨f s.lanes.n0, f s.lanes.n1, f s.lanes.n2⟩

/-- The set has a member. -/
def anyLane (s : LaneSet) : Bool := s.n0 || s.n1 || s.n2

/-- The step record at a position of a lane's program. -/
def State.stepAt (s : State) (x : Lane) (pos : Nat) : Option StepRecord :=
  (s.programOf x).bind (fun q => Store.get s.steps (q.first + pos))

/-! ### Reverts and endings of lanes -/

/-- A channel taken back to a parameter set whole: the active set, F, e, and no ramps; P, link and staged set stay
(R42, R43; the same effect on these fields as a promotion, R38, and a direct write, R37). -/
def Chan.takeSet (x : Chan) (q : ParamSet) : Chan :=
  { x with active := q, env := q.level * 1024, levelRamp := none, freqRamp := none }

/-- Channel `c` reverted to its snapshot in lane record `x` (R42, R43). -/
def State.revert (s : State) (x : Lane) (c : Channel) : State :=
  match x.snapshots.get c with
  | some q => s.setChan c ((s.chans.get c).takeSet q)
  | none => s

/-- A lane record that has returned to IDLE: the end record stays, every other field is none, empty or clear (R99, log
11). -/
def Lane.toIdle (x : Lane) : Lane := { Lane.reset with ending := x.ending }

/-- Lane `l` goes IDLE: its channels are unbound, its protections and holders end, and LANE_ENDED is raised to its
originating port (R99). -/
def State.goIdle (s : State) (l : LaneId) : State :=
  let x := s.lanes.get l
  (s.setLane l x.toIdle).alertOrigin x.origin (.laneEnded l)

/-- An end record with its reason and step position written (R80). -/
def EndRecord.close (e : EndRecord) (r : EndReason) (position : Nat) : EndRecord :=
  { e with reason := r, position := position }

/-- A lane record on entry to CLOSING with a reason (R100). -/
def Lane.toClosing (x : Lane) (r : EndReason) : Lane :=
  { x with state := .closing, ending := x.ending.close r (x.position.getD 0), stack := [], releasePending := false,
           holdReason := none, heldFrom := none, reverted := PerChannel.all false, position := none, dwell := none }

/-- Lane `l`'s program ends and the lane goes CLOSING (R100). -/
def State.goClosing (s : State) (l : LaneId) (r : EndReason) : State :=
  s.setLane l ((s.lanes.get l).toClosing r)

/-- Channel `c` of an ending lane reverted at once, unless it has reverted already (R43). -/
def State.revertUnreverted (s : State) (x : Lane) (c : Channel) : State :=
  if x.channels.get c && !x.reverted.get c then s.revert x c else s

/-- Lane `l`, when running, ended at once: a CLOSING lane keeps its reason, any other takes `r`; the unreverted channels
are reverted at once, and the lane goes IDLE (R103, R104). -/
def State.endLane (r : EndReason) (s : State) (l : LaneId) : State :=
  let x := s.lanes.get l
  if x.running then
    let e := if x.state = .closing then x.ending else x.ending.close r (x.position.getD 0)
    let s := s.setLane l { x with ending := e }
    let s := ((s.revertUnreverted x .L1).revertUnreverted x .L2).revertUnreverted x .L3
    s.goIdle l
  else s

/-- Every running lane ended at once (R103, R104). -/
def State.endLanes (s : State) (r : EndReason) : State :=
  ((s.endLane r .lane0).endLane r .lane1).endLane r .lane2

/-! ### The trip unit's shared work -/

/-- A live source is in the set. -/
def SourceSet.has (x : SourceSet) : Cause → Bool
  | .tripN => x.tripN
  | .linkFault k => x.fault.get k
  | .linkLoss k => x.loss.get k
  | .portTrip => false
  | .masterClear => false
  | .powerOn => false

/-- A live source put into the set or taken out of it; a command cause is no live source (R143). -/
def SourceSet.put (x : SourceSet) (c : Cause) (b : Bool) : SourceSet :=
  match c with
  | .tripN => { x with tripN := b }
  | .linkFault k => { x with fault := x.fault.set k b }
  | .linkLoss k => { x with loss := x.loss.set k b }
  | .portTrip => x
  | .masterClear => x
  | .powerOn => x

/-- The set has no member. -/
def SourceSet.isEmpty (x : SourceSet) : Bool :=
  !x.tripN && !x.fault.l1 && !x.fault.l2 && !x.fault.l3 && !x.loss.l1 && !x.loss.l2 && !x.loss.l3

/-- A cause added to a cause set (R147, R151, R152). -/
def CauseSet.add (x : CauseSet) (c : Cause) : CauseSet :=
  match c with
  | .tripN => { x with sources := x.sources.put .tripN true }
  | .linkFault k => { x with sources := x.sources.put (.linkFault k) true }
  | .linkLoss k => { x with sources := x.sources.put (.linkLoss k) true }
  | .portTrip => { x with portTrip := true }
  | .masterClear => { x with masterClear := true }
  | .powerOn => { x with powerOn := true }

/-- A link whose latest setpoint frame has not started yet sends it parked, at code 0 (R24, R160). -/
def Link.parkFrame (x : Link) : Link :=
  if x.waiting then { x with tx := setpointFrame (x.outstanding.getD 0) 0 true, waiting := false } else x

/-- The frames that have not started yet go out parked (R24, R155, R160). -/
def State.parkFrames (s : State) : State :=
  { s with links := ⟨s.links.l1.parkFrame, s.links.l2.parkFrame, s.links.l3.parkFrame⟩ }

/-- The entry to TRIPPED from NORMAL with its cause: the trip state, the cause set, the first cause, every output
PARKED, every running lane ended with TRIPPED and its channels reverted at once, TRIP raised to both ports (R146, R103,
R156). -/
def State.enterTripped (s : State) (c : Cause) (p : Option Port) : State :=
  let s := s.setTrip { s.trip with state := .tripped, causes := CauseSet.empty.add c, first := ⟨c, p⟩,
                                   outputs := PerChannel.all .parked }
  ((s.endLanes .tripped).parkFrames).alertBoth .trip

/-- A cause recorded while TRIPPED: it joins the cause set and nothing else changes (R147, R151, R152). -/
def State.addCause (s : State) (c : Cause) : State :=
  s.setTrip { s.trip with causes := s.trip.causes.add c }

/-- A cause taken in either trip state: an entry from NORMAL, a record while TRIPPED (R146, R147, R151, R152). -/
def State.takeCause (s : State) (c : Cause) (p : Option Port) : State :=
  if s.trip.state = .normal then s.enterTripped c p else s.addCause c

/-- A live source seen active or passive: becoming active it joins the active-source set and is taken as a cause;
becoming passive it leaves the active-source set; no change is no event (R144 to R147; log 13). -/
def State.takeSource (s : State) (c : Cause) (on : Bool) : State :=
  if on then
    if s.trip.active.has c then s
    else (s.setTrip { s.trip with active := s.trip.active.put c true }).takeCause c none
  else s.setTrip { s.trip with active := s.trip.active.put c false }

end Sys2Proof.Machine
end

