-- ==== Sys2Proof/Machine/Operands.lean ====
section
/-! DEFINITION. Every form of operand: the conversions of settings to accumulator units (R9, R11, R25), the adjustments
of numeric fields (R34, R46, R52, R63, R126), and the checks of named items (R35, R62, R69, R126, R173). -/

namespace Sys2Proof.Machine

/-! ### Conversions -/

/-- The frequency word of a setting in 0.01 Hz: round-half-up(f × 2^32 / 2,560,000) (R11). -/
def freqWord (f : Nat) : Int :=
  ((2 * f * Config.cycle + Config.sampleRate) / (2 * Config.sampleRate) : Nat)

/-- The jump word of an angle in 0.1°: the sign of a times round-half-up(|a| × 2^32 / 3,600) (R9). -/
def jumpWord (a : Int) : Int :=
  a.sign * ((2 * a.natAbs * Config.cycle + 3600) / 7200 : Nat)

/-- The threshold of an angle in 0.1°: floor(θ × 2^32 / 3,600) (R25). -/
def threshold (angle : Nat) : Phase := BitVec.ofNat 32 (angle * Config.cycle / 3600)

/-! ### Adjustments -/

/-- A value taken to the nearer end of its range. -/
def clampNat (lo hi n : Nat) : Nat := if n < lo then lo else if hi < n then hi else n

/-- A signed value taken to the nearer end of its range. -/
def clampInt (lo hi v : Int) : Int := if v < lo then lo else if hi < v then hi else v

/-- A frequency setting in its range (R11). -/
def clampFreq (f : Nat) : Nat := clampNat 4000 44000 f

/-- The parameter set of SET_CHANNEL after its adjustments, with its word (R34, R35). -/
def paramSetOf (r : RawParams) : ParamSet :=
  { freq := clampFreq r.freq, word := freqWord (clampFreq r.freq), amp := clampNat 0 32767 r.amp, table := r.table,
    overlay := r.overlay, dc := clampInt (-3276) 3276 r.dc, level := clampNat 0 2000 r.level }

/-- A field of SET_CHANNEL was adjusted (R35). -/
def paramsAdjusted (r : RawParams) : Bool :=
  clampFreq r.freq != r.freq || clampNat 0 32767 r.amp != r.amp || clampInt (-3276) 3276 r.dc != r.dc
  || clampNat 0 2000 r.level != r.level

/-- A table entry as stored: -32,768 is stored as -32,767 (R46). -/
def storedEntry (v : Int) : Int := clampInt (-32767) 32767 v

/-- A term as stored (R52). -/
def storedTerm (t : OverlaySlot) : Term := ⟨clampNat 2 40 t.order, clampNat 0 500 t.amplitude, t.phase⟩

/-- A term's field was adjusted (R52). -/
def termAdjusted (t : OverlaySlot) : Bool :=
  clampNat 2 40 t.order != t.order || clampNat 0 500 t.amplitude != t.amplitude

/-! ### Presence, flags and choices (R173) -/

/-- A flag or presence byte: 0 or 1, anything else names nothing. -/
def flagOf : Nat → Option Bool
  | 0 => some false
  | 1 => some true
  | _ => none

/-- The unit of a duration. -/
def unitOf : Nat → Option DurationUnit
  | 0 => some .samples
  | 1 => some .cycles
  | _ => none

/-- The hold key Kn of n. -/
def keyOf : Nat → Option HoldKey
  | 1 => some .K1
  | 2 => some .K2
  | _ => none

/-- A marker action. -/
def markerActionOf : Nat → Option MarkerAction
  | 0 => some .none
  | 1 => some .set
  | 2 => some .clear
  | 3 => some .pulse
  | _ => none

/-- The quantity of a wait. -/
def quantityOf : Nat → Option Quantity
  | 0 => some .V
  | 1 => some .I
  | _ => none

/-- The relation of a wait, "BELOW or ABOVE" (R60). -/
def waitRelationOf : Nat → Option Relation
  | 0 => some .below
  | 1 => some .above
  | _ => none

/-- The relation of a monitor, "ABOVE or BELOW" (R125). -/
def monitorRelationOf : Nat → Option Relation
  | 0 => some .above
  | 1 => some .below
  | _ => none

/-- What a wait does on its timeout. -/
def onTimeoutOf : Nat → Option OnTimeout
  | 0 => some .continue_
  | 1 => some .abort
  | _ => none

/-- The exit policy of a program. -/
def policyOf : Nat → Option ExitPolicy
  | 0 => some .keep
  | 1 => some .restore
  | _ => none

/-- The source of a descriptor. -/
def sourceOf : Nat → Option Source
  | 0 => some .setpoint
  | 1 => some .senseV
  | 2 => some .senseI
  | 3 => some .rmsV
  | 4 => some .rmsI
  | _ => none

/-- A descriptor's next: 0 to 15, or 255 for END; the outer none names nothing (R173). -/
def nextOf (n : Nat) : Option (Option Nat) :=
  if n < 16 then some (some n) else if n = 255 then some none else none

/-- An optional part: absent, or present with the reading of its subfields; the outer none is a presence byte or a named
item that names nothing (R62, R173). -/
def partOf {α : Type} (presence : Nat) (value : Option α) : Option (Option α) :=
  match flagOf presence with
  | some true => value.map some
  | some false => some none
  | none => none

/-! ### The step record that WRITE_STEP carries (R60 to R63) -/

/-- A duration after its adjustment (R63). -/
def durationOf (u : DurationUnit) (count : Nat) : Duration :=
  match u with
  | .samples => ⟨clampNat 1 16777215 count, .samples⟩
  | .cycles => ⟨clampNat 1 65535 count, .cycles⟩

/-- A sync part from its setting (R61, R63). -/
def syncPartOf (angle : Nat) : SyncPart := ⟨clampNat 0 3599 angle, threshold (clampNat 0 3599 angle)⟩

/-- A frequency part from its settings (R61, R63). -/
def freqPartOf (target ramp : Nat) : FreqPart := ⟨clampFreq target, freqWord (clampFreq target), ramp⟩

/-- A phase-jump part from its setting (R61, R63). -/
def jumpPartOf (a : Int) : JumpPart := ⟨clampInt (-1800) 1800 a, jumpWord (clampInt (-1800) 1800 a)⟩

/-- A shape's table and overlay set within their sets (R62). -/
def shapePartOf (table overlay : Nat) : Option ShapePart :=
  if table < 16 ∧ overlay < 8 then some ⟨table, overlay⟩ else none

/-- A wait part: its named items within their sets, its numeric fields adjusted (R62, R63). -/
def waitPartOf (r : RawStep) : Option WaitPart := do
  let channel ← channelOf r.waitChannel
  let quantity ← quantityOf r.quantity
  let relation ← waitRelationOf r.relation
  let onTimeout ← onTimeoutOf r.onTimeout
  return { channel := channel, quantity := quantity, relation := relation, threshold := clampNat 0 32767 r.threshold,
           consecutive := clampNat 1 255 r.consecutive, timeout := r.timeout, onTimeout := onTimeout }

/-- The record that WRITE_STEP would hold, or none where an item names nothing (BAD_ARGUMENT) (R62, R63, R173). -/
def stepOf (r : RawStep) : Option StepRecord := do
  let mask ← channelSetOf r.mask
  let unit ← unitOf r.unit
  let sync ← partOf r.hasSync (some (syncPartOf r.sync))
  let hold ← partOf r.hasHold (keyOf r.holdKey)
  let level ← partOf r.hasLevel (some ⟨clampNat 0 2000 r.level, r.levelRamp⟩)
  let freq ← partOf r.hasFreq (some (freqPartOf r.freq r.freqRamp))
  let jump ← partOf r.hasJump (some (jumpPartOf r.jump))
  let shape ← partOf r.hasShape (shapePartOf r.table r.overlay)
  let markers ← partOf r.hasMarkers (do
    let m1 ← markerActionOf r.marker1
    let m2 ← markerActionOf r.marker2
    return ⟨m1, m2⟩)
  let capture ← partOf r.hasCapture (if r.descriptor < 16 then some r.descriptor else none)
  let wait ← partOf r.hasWait (waitPartOf r)
  let groupOpen ← partOf r.hasOpen (some r.openCount)
  let groupClose ← partOf r.hasClose (if 1 ≤ r.closeCount ∧ r.closeCount ≤ 4 then some r.closeCount else none)
  return { mask := mask, sync := sync, hold := hold, level := level, freq := freq, jump := jump, shape := shape,
           markers := markers, capture := capture, duration := durationOf unit r.count, wait := wait,
           groupOpen := groupOpen, groupClose := groupClose }

/-- The parts that held an adjusted field, as their positions in the table of R60 and in that table's order (R62, R63; log
15): sync angle 1, level 3, frequency 4, phase jump 5, duration 9, wait 10. -/
def adjustedParts (r : RawStep) (x : StepRecord) : List Nat :=
  (if x.sync.any (fun p => p.angle != r.sync) then [1] else [])
  ++ (if x.level.any (fun p => p.target != r.level) then [3] else [])
  ++ (if x.freq.any (fun p => p.target != r.freq) then [4] else [])
  ++ (if x.jump.any (fun p => p.angle != r.jump) then [5] else [])
  ++ (if x.duration.count != r.count then [9] else [])
  ++ (if x.wait.any (fun p => p.threshold != r.threshold || p.consecutive != r.consecutive) then [10] else [])

/-! ### The descriptor that WRITE_DESCRIPTOR carries (R126) -/

/-- The word count after its adjustment, for a base already adjusted (R126). -/
def descriptorCount (base count : Nat) : Nat :=
  let c := if count = 0 then 1 else count
  if Config.captureWords < base + c then Config.captureWords - base else c

/-- The descriptor that DEFINE would hold, or none where an item names nothing (BAD_ARGUMENT) (R126, R173). -/
def descriptorOf (r : RawDescriptor) : Option Descriptor := do
  let source ← sourceOf r.source
  let channel ← channelOf r.channel
  let next ← nextOf r.next
  let deadband ← partOf r.hasDeadband (some (clampNat 0 32767 r.deadband))
  let monitor ← partOf r.hasMonitor ((monitorRelationOf r.relation).map (fun q => ⟨q, clampNat 0 32767 r.threshold⟩))
  let base := clampNat 0 16383 r.base
  return { source := source, channel := channel, base := base, count := descriptorCount base r.count, next := next,
           decimation := clampNat 1 256 r.decimation, deadband := deadband, monitor := monitor }

/-- A numeric field of the descriptor was adjusted (R126). -/
def descriptorAdjusted (r : RawDescriptor) (d : Descriptor) : Bool :=
  d.base != r.base || d.count != r.count || d.decimation != r.decimation
  || d.deadband.any (fun w => w != r.deadband) || d.monitor.any (fun m => m.threshold != r.threshold)

end Sys2Proof.Machine
end

