-- ==== Sys2Proof/Machine/Synthesis.lean ====
section
/-! DEFINITION. The arithmetic of one channel (Chapter 1) and of its angles (Chapter 2): advances and crossings, ramps,
the waveform lookup, the composite, the scaling and the clamp. -/

namespace Sys2Proof.Machine

/-! ### Advances and crossings (R26, R27) -/

/-- The pair of accumulator values before and after one sample event's phase step (R4). -/
structure Advance where
  before : Phase
  after : Phase
  deriving DecidableEq, Repr

/-- The advance crosses threshold `t`: t lies on the forward arc, before exclusive, after inclusive (R26). -/
def Advance.crosses (a : Advance) (t : Phase) : Bool :=
  decide (1 ≤ (t - a.before).toNat) && decide ((t - a.before).toNat ≤ (a.after - a.before).toNat)

/-- A wrap: the crossing of threshold 0 (R27). -/
def Advance.wraps (a : Advance) : Bool := a.crosses 0#32

/-- A half-cycle crossing: the crossing of 2^31 (R27). -/
def Advance.halves (a : Advance) : Bool := a.crosses Config.halfCycle

/-! ### Ramps (R12 to R14) -/

/-- A ramp made present: its step is (target - start) / R truncated toward zero (R12, R14). -/
def Ramp.make (start target : Int) (length : Nat) : Ramp :=
  { start := start, target := target, step := (target - start).tdiv length, remaining := length }

/-- The step of a present level ramp: the new e, and the ramp or its absence (R13). -/
def stepRamp (r : Ramp) (v : Int) : Int × Option Ramp :=
  if r.remaining ≤ 1 then (r.target, none) else (v + r.step, some { r with remaining := r.remaining - 1 })

/-- Stage 3 on the level ramp, which moves e (R13). -/
def Chan.stepLevel (x : Chan) : Chan :=
  match x.levelRamp with
  | some r => { x with env := (stepRamp r x.env).1, levelRamp := (stepRamp r x.env).2 }
  | none => x

/-- Stage 3 on the frequency ramp, which moves F (R14). -/
def Chan.stepFreq (x : Chan) : Chan :=
  match x.freqRamp with
  | some r =>
    { x with active := { x.active with word := (stepRamp r x.active.word).1 }, freqRamp := (stepRamp r x.active.word).2 }
  | none => x

/-- A step's level part taken by a channel (R12). -/
def Chan.applyLevel (x : Chan) (p : LevelPart) : Chan :=
  let target : Int := p.target * 1024
  let x := { x with active := { x.active with level := p.target } }
  if p.ramp = 0 then { x with env := target, levelRamp := none }
  else { x with levelRamp := some (Ramp.make x.env target p.ramp) }

/-- A step's frequency part taken by a channel that is not a follower (R14). -/
def Chan.applyFreq (x : Chan) (p : FreqPart) : Chan :=
  let x := { x with active := { x.active with freq := p.target } }
  if p.ramp = 0 then { x with active := { x.active with word := p.word }, freqRamp := none }
  else { x with freqRamp := some (Ramp.make x.active.word p.word p.ramp) }

/-- A step's shape part taken by a channel (R8, R88). -/
def Chan.applyShape (x : Chan) (p : ShapePart) : Chan :=
  { x with active := { x.active with table := p.table, overlay := p.overlay } }

/-- The accumulator moved by a jump word, modulo 2^32: no advance (R10, R28). -/
def Chan.jump (x : Chan) (j : Phase) : Chan := { x with phase := x.phase + j }

/-- A follower's link offset moved by a jump word; an unlinked channel has none (R10). -/
def Chan.jumpOffset (x : Chan) (j : Phase) : Chan := { x with link := x.link.map (· + j) }

/-! ### Lookup, composite, scaling, clamp (R16 to R21) -/

/-- Entry `i` of table `t` as it stands: table 0 is the fixed sine (R17, R44). -/
def State.entry (s : State) (t i : Nat) : Int :=
  if t = 0 then sineEntry i else Memory.read s.wave (1024 * t + i)

/-- The terms of overlay set `n` as they stand: set 0 is empty (R51). -/
def State.terms (s : State) (n : Nat) : List Term :=
  if n = 0 then [] else (Store.get s.overlays n).getD []

/-- The interpolated lookup of a table at a phase (R16). -/
def lookup (table : Nat → Int) (p : Phase) : Int :=
  let i := p.toNat / 4194304
  let fr := (p.toNat / 16384) % 256
  table i + ((table ((i + 1) % 1024) - table i) * fr) / 256

/-- The phase of a term: (k × P + φ × 65,536) mod 2^32 (R18). -/
def termPhase (t : Term) (p : Phase) : Phase := BitVec.ofNat 32 (t.order * p.toNat + t.phase * 65536)

/-- The composite unit value W = 1,000 × v + Σ H × s (R19). -/
def composite (table : Nat → Int) (terms : List Term) (p : Phase) : Int :=
  1000 * lookup table p + (terms.map (fun t => (t.amplitude : Int) * lookup sineEntry (termPhase t p))).sum

/-- Round half away from zero of a / b, b positive: the sign of a times floor(|a| / b + 0.5). -/
def roundHalfAway (a b : Int) : Int := a.sign * ((2 * (a.natAbs : Int) + b) / (2 * b))

/-- The setpoint value y: W × N × e scaled and rounded, plus D (R20). -/
def setpoint (w : Int) (x : Chan) : Int :=
  roundHalfAway (w * x.active.amp * x.env) Config.scaleDivisor + x.active.dc

/-- The code range's clamp (R21). -/
def clampCode (y : Int) : Int := clampInt (-Config.maxCode) Config.maxCode y

/-- The setpoint value that channel record `x` computes in the library of `s` (R16 to R20). -/
def State.compute (s : State) (x : Chan) : Int :=
  setpoint (composite (s.entry x.active.table) (s.terms x.active.overlay) x.phase) x

end Sys2Proof.Machine
end

