-- ==== Sys2Proof/Machine/Channels.lean ====
section
/-! DEFINITION. The commands of Chapter 2: SET_CHANNEL, LINK_CHANNEL and GET_CHANNEL. -/

namespace Sys2Proof.Machine

/-- The state of a table (R44): table 0 is READY in every circumstance, a table with no record is EMPTY. -/
def State.tableState (s : State) (t : Nat) : TableState :=
  if t = 0 then .ready else (Store.get s.tables t).getD .empty

/-- What SET_CHANNEL's response carries: STAGED 0 or DIRECT 1, and the frequency word (R35). -/
def setChannelBody (direct : Bool) (word : Int) : List Byte := byteItem (if direct then 1 else 0) ++ numBytes 4 word.toNat

/-- SET_CHANNEL on a channel: staged when DRIVING or UNPARKING (R36), written directly when PARKED (R37). -/
def State.writeSet (s : State) (c : Channel) (q : ParamSet) : State :=
  let x := s.chans.get c
  if s.trip.outputs.get c = .parked then s.setChan c { x.takeSet q with staged := none }
  else s.setChan c { x with staged := some q }

/-- SET_CHANNEL's checks and effect (R35 to R37). -/
def State.setChannel (s : State) (ch : Nat) (r : RawParams) : State × Reply :=
  match channelOf ch with
  | none => (s, Reply.refuse .badArgument)
  | some c =>
    if ¬ (r.table < 16 ∧ r.overlay < 8) then (s, Reply.refuse .badArgument)
    else if (s.boundTo c).isSome then (s, Reply.refuse .channelBusy)
    else if s.tableState r.table ≠ .ready then (s, Reply.refuse .notReady)
    else
      let q := paramSetOf r
      (s.writeSet c q,
       Reply.taken (paramsAdjusted r) (setChannelBody (s.trip.outputs.get c = .parked) q.word))

/-- SET_CHANNEL, taken from port `p` (R35). -/
def execSetChannel (p : Port) (ch : Nat) (r : RawParams) (s : State) : Host.Outcome State Fault Refusal :=
  .next (State.answer p 0x10 (s.setChannel ch r))

/-- What GET_CHANNEL reports, in the order of R40. -/
def State.channelBody (s : State) (c : Channel) : List Byte :=
  let x := s.chans.get c
  paramItem x.active ++ flagItem x.staged.isSome ++ byteItem (outputNumber (s.trip.outputs.get c)) ++ numBytes 2 x.clip
  ++ linkItem x.link ++ numBytes 4 x.phase.toNat ++ numBytes 3 x.env.toNat ++ flagItem x.levelRamp.isSome
  ++ flagItem x.freqRamp.isSome ++ optItem 1 ((s.boundTo c).map (fun l => byteItem (laneNumber l)))

/-- GET_CHANNEL's check and effect: the report, and the clear of the clip counter when asked for (R23, R40). -/
def State.getChannel (s : State) (ch clear : Nat) : State × Reply :=
  match channelOf ch, flagOf clear with
  | some c, some b =>
    (if b then s.setChan c { s.chans.get c with clip := 0 } else s, Reply.ok (s.channelBody c))
  | _, _ => (s, Reply.refuse .badArgument)

/-- GET_CHANNEL, taken from port `p` (R40). -/
def execGetChannel (p : Port) (ch clear : Nat) (s : State) : Host.Outcome State Fault Refusal :=
  .next (State.answer p 0x11 (s.getChannel ch clear))

/-- The refusal of a LINK_CHANNEL of channel `c`, L2 or L3, if any (R31). -/
def State.linkRefusal (s : State) (c : Channel) : Option StatusCode :=
  if c = .L1 then some .badArgument
  else if (s.boundTo .L1).isSome || (s.boundTo c).isSome then some .channelBusy
  else if s.chans.l1.staged.isSome || (s.chans.get c).staged.isSome then some .pending
  else none

/-- Channel record `x` made a follower of L1, record `y`, at an offset: P at once, no frequency ramp (R32). -/
def Chan.follow (x y : Chan) (offset : Phase) : Chan :=
  { x with link := some offset, phase := y.phase + offset, freqRamp := none }

/-- Channel record `x` unlinked from L1, record `y`, whose F and frequency field it takes; already unlinked it stays as
it is (R33). -/
def Chan.unlink (x y : Chan) : Chan :=
  match x.link with
  | some _ => { x with link := none, active := { x.active with word := y.active.word, freq := y.active.freq } }
  | none => x

/-- What LINK_CHANNEL's response carries: the channel, its link and offset, its P (R31). -/
def State.linkBody (s : State) (c : Channel) : List Byte :=
  byteItem (channelNumber c) ++ linkItem (s.chans.get c).link ++ numBytes 4 (s.chans.get c).phase.toNat

/-- LINK_CHANNEL's checks and effect, the change of the channel's record given (R31). -/
def State.relink (s : State) (ch : Nat) (change : Chan → Chan) : State × Reply :=
  match channelOf ch with
  | none => (s, Reply.refuse .badArgument)
  | some c =>
    match s.linkRefusal c with
    | some r => (s, Reply.refuse r)
    | none =>
      let t := s.setChan c (change (s.chans.get c))
      (t, Reply.ok (t.linkBody c))

/-- LINK_CHANNEL follow, taken from port `p` (R31, R32). -/
def execLinkChannelFollow (p : Port) (ch offset : Nat) (s : State) : Host.Outcome State Fault Refusal :=
  .next (State.answer p 0x12 (s.relink ch (fun x => x.follow s.chans.l1 (BitVec.ofNat 32 offset))))

/-- LINK_CHANNEL unlink, taken from port `p` (R31, R33). -/
def execLinkChannelUnlink (p : Port) (ch : Nat) (s : State) : Host.Outcome State Fault Refusal :=
  .next (State.answer p 0x12 (s.relink ch (fun x => x.unlink s.chans.l1)))

end Sys2Proof.Machine
end

