-- ==== Sys2Proof/Machine/Library.lean ====
section
/-! DEFINITION. Chapter 3: references to tables and overlay sets, the loading protocol and the reads of the library. -/

namespace Sys2Proof.Machine

/-! ### References (R54): evaluated from the holders at each command, no count is kept -/

/-- The channels whose active set names `n` in the field that `f` reads. -/
def State.activeHolders (s : State) (f : ParamSet → Nat) (n : Nat) : ChannelSet :=
  let h (x : Chan) : Bool := f x.active == n
  ⟨h s.chans.l1, h s.chans.l2, h s.chans.l3⟩

/-- The channels whose pending staged set names `n` in the field that `f` reads. -/
def State.stagedHolders (s : State) (f : ParamSet → Nat) (n : Nat) : ChannelSet :=
  let h (x : Chan) : Bool := x.staged.any (fun q => f q == n)
  ⟨h s.chans.l1, h s.chans.l2, h s.chans.l3⟩

/-- Lane `x` runs, and a step of its program range or one of its snapshots names `n` (`g` and `f` read the field). -/
def State.laneHolds (s : State) (f : ParamSet → Nat) (g : ShapePart → Nat) (n : Nat) (x : Lane) : Bool :=
  let h (q : Option ParamSet) : Bool := q.any (fun q => f q == n)
  x.running && (s.steps.any (fun e => s.inRange x e.1 && e.2.shape.any (fun p => g p == n))
                || h x.snapshots.l1 || h x.snapshots.l2 || h x.snapshots.l3)

/-- The lanes whose program steps or snapshots name `n`. -/
def State.laneHolders (s : State) (f : ParamSet → Nat) (g : ShapePart → Nat) (n : Nat) : LaneSet :=
  ⟨s.laneHolds f g n s.lanes.n0, s.laneHolds f g n s.lanes.n1, s.laneHolds f g n s.lanes.n2⟩

/-- Something names `n`: a channel's active set, a pending staged set, or a lane. -/
def State.named (s : State) (f : ParamSet → Nat) (g : ShapePart → Nat) (n : Nat) : Bool :=
  !noChannels (s.activeHolders f n) || !noChannels (s.stagedHolders f n) || anyLane (s.laneHolders f g n)

/-- Table `t` is referenced (R54). -/
def State.tableReferenced (s : State) (t : Nat) : Bool := s.named ParamSet.table ShapePart.table t

/-- Overlay set `n` is referenced (R54). -/
def State.overlayReferenced (s : State) (n : Nat) : Bool := s.named ParamSet.overlay ShapePart.overlay n

/-- Whether `n` is referenced, and its holders: active sets, staged sets, lanes (R49, R53). -/
def State.holdersBody (s : State) (f : ParamSet → Nat) (g : ShapePart → Nat) (n : Nat) : List Byte :=
  flagItem (s.named f g n) ++ byteItem (channelBits (s.activeHolders f n))
  ++ byteItem (channelBits (s.stagedHolders f n)) ++ byteItem (laneBits (s.laneHolders f g n))

/-! ### Loading (R45 to R48) -/

/-- The table can be loaded: 1 to 15. -/
def loadable (t : Nat) : Bool := decide (1 ≤ t) && decide (t ≤ 15)

/-- Table `t` put into a state; an EMPTY table has no record. -/
def State.setTable (s : State) (t : Nat) (x : TableState) : State :=
  { s with tables := if x = .empty then Store.del s.tables t else Store.put s.tables t x }

/-- The other port loads the table. -/
def TableState.ownedByOther (x : TableState) (p : Port) : Bool :=
  match x with
  | .loading q _ => q != p
  | .empty => false
  | .ready => false

/-- BEGIN_TABLE's checks and effect (R45). -/
def State.beginTable (s : State) (p : Port) (t : Nat) : State × Reply :=
  if !loadable t then (s, Reply.refuse .badArgument)
  else if (s.tableState t).ownedByOther p then (s, Reply.refuse .ownedByOther)
  else if s.tableReferenced t then (s, Reply.refuse .inUse)
  else (s.setTable t (.loading p []), Reply.ok (byteItem t ++ byteItem (tableStateNumber (.loading p []))))

/-- BEGIN_TABLE, taken from port `p` (R45). -/
def execBeginTable (p : Port) (t : Nat) (s : State) : Host.Outcome State Fault Refusal :=
  .next (State.answer p 0x20 (s.beginTable p t))

/-- A set of chunk numbers, in ascending order, with `c` in it (R46). -/
def coverChunk : List Nat → Nat → List Nat
  | [], c => [c]
  | d :: ds, c => if c < d then c :: d :: ds else if c = d then d :: ds else d :: coverChunk ds c

/-- The first address of chunk `c` of table `t`. -/
def chunkBase (t c : Nat) : Nat := 1024 * t + 32 * c

/-- WRITE_TABLE_CHUNK's checks and effect (R46). -/
def State.writeTableChunk (s : State) (p : Port) (t c : Nat) (entries : List Int) : State × Reply :=
  if !(loadable t && decide (c ≤ 31)) then (s, Reply.refuse .badArgument)
  else
    match s.tableState t with
    | .empty => (s, Reply.refuse .wrongState)
    | .ready => (s, Reply.refuse .wrongState)
    | .loading q cov =>
      if q ≠ p then (s, Reply.refuse .ownedByOther)
      else
        let cov := coverChunk cov c
        let stored := entries.map storedEntry
        ({ s.setTable t (.loading p cov) with wave := Memory.writeList s.wave (chunkBase t c) stored },
         Reply.taken (stored != entries) (byteItem cov.length))

/-- WRITE_TABLE_CHUNK, taken from port `p` (R46). -/
def execWriteTableChunk (p : Port) (t c : Nat) (entries : List Int) (s : State) : Host.Outcome State Fault Refusal :=
  .next (State.answer p 0x21 (s.writeTableChunk p t c entries))

/-- COMMIT_TABLE's checks and effect (R47). -/
def State.commitTable (s : State) (p : Port) (t : Nat) : State × Reply :=
  if !loadable t then (s, Reply.refuse .badArgument)
  else
    match s.tableState t with
    | .empty => (s, Reply.refuse .wrongState)
    | .ready => (s, Reply.refuse .wrongState)
    | .loading q cov =>
      if q ≠ p then (s, Reply.refuse .ownedByOther)
      else if cov ≠ List.range 32 then (s, ⟨.notReady, numBytes 4 (chunkBits cov)⟩)
      else (s.setTable t .ready, Reply.ok [])

/-- COMMIT_TABLE, taken from port `p` (R47). -/
def execCommitTable (p : Port) (t : Nat) (s : State) : Host.Outcome State Fault Refusal :=
  .next (State.answer p 0x22 (s.commitTable p t))

/-- DISCARD_TABLE's checks and effect (R48). -/
def State.discardTable (s : State) (t : Nat) : State × Reply :=
  if !loadable t then (s, Reply.refuse .badArgument)
  else if s.tableReferenced t then (s, Reply.refuse .inUse)
  else (s.setTable t .empty, Reply.ok [])

/-- DISCARD_TABLE, taken from port `p` (R48). -/
def execDiscardTable (p : Port) (t : Nat) (s : State) : Host.Outcome State Fault Refusal :=
  .next (State.answer p 0x23 (s.discardTable t))

/-! ### Reads (R49) -/

/-- `n` entries of table `t` from index `i` up, as they stand. -/
def State.entries (s : State) (t i : Nat) : Nat → List Int
  | 0 => []
  | n + 1 => s.entry t i :: s.entries t (i + 1) n

/-- READ_TABLE_CHUNK's check and report (R49). -/
def State.readTableChunk (s : State) (t c : Nat) : Reply :=
  if t < 16 ∧ c < 32 then
    Reply.ok (byteItem (tableStateNumber (s.tableState t)) ++ ((s.entries t (32 * c) 32).map (intBytes 2)).flatten)
  else Reply.refuse .badArgument

/-- READ_TABLE_CHUNK, taken from port `p` (R49). -/
def execReadTableChunk (p : Port) (t c : Nat) (s : State) : Host.Outcome State Fault Refusal :=
  .next (State.answer p 0x24 (s, s.readTableChunk t c))

/-- The owner of a table (R44). -/
def TableState.owner : TableState → Option Port
  | .loading p _ => some p
  | .empty => none
  | .ready => none

/-- The coverage of a table: full when READY, empty when EMPTY (R44). -/
def TableState.coverage : TableState → List Nat
  | .loading _ cov => cov
  | .empty => []
  | .ready => List.range 32

/-- GET_TABLE_STATE's check and report (R49). -/
def State.getTableState (s : State) (t : Nat) : Reply :=
  if t < 16 then
    let x := s.tableState t
    Reply.ok (byteItem (tableStateNumber x) ++ optItem 1 (x.owner.map (fun q => byteItem (portNumber q)))
      ++ numBytes 4 (chunkBits x.coverage) ++ s.holdersBody ParamSet.table ShapePart.table t)
  else Reply.refuse .badArgument

/-- GET_TABLE_STATE, taken from port `p` (R49). -/
def execGetTableState (p : Port) (t : Nat) (s : State) : Host.Outcome State Fault Refusal :=
  .next (State.answer p 0x25 (s, s.getTableState t))

/-! ### Overlay sets (R51 to R53) -/

/-- WRITE_OVERLAY_SET's checks and effect; slots beyond the count are ignored (R52, R176). -/
def State.writeOverlaySet (s : State) (n count : Nat) (slots : List OverlaySlot) : State × Reply :=
  if !(decide (1 ≤ n) && decide (n ≤ 7) && decide (count ≤ 6)) then (s, Reply.refuse .badArgument)
  else if s.overlayReferenced n then (s, Reply.refuse .inUse)
  else
    let used := slots.take count
    ({ s with overlays := Store.put s.overlays n (used.map storedTerm) }, Reply.taken (used.any termAdjusted) [])

/-- WRITE_OVERLAY_SET, taken from port `p` (R52). -/
def execWriteOverlaySet (p : Port) (n count : Nat) (slots : List OverlaySlot) (s : State) :
    Host.Outcome State Fault Refusal :=
  .next (State.answer p 0x26 (s.writeOverlaySet n count slots))

/-- A term as a reported entry (R53). -/
def termItem (t : Term) : List Byte := byteItem t.order ++ numBytes 2 t.amplitude ++ numBytes 2 t.phase

/-- READ_OVERLAY_SET's check and report (R53): one count byte is both the term count and the count of the list (log 15). -/
def State.readOverlaySet (s : State) (n : Nat) : Reply :=
  if n < 8 then
    Reply.ok (listItem ((s.terms n).map termItem) ++ s.holdersBody ParamSet.overlay ShapePart.overlay n)
  else Reply.refuse .badArgument

/-- READ_OVERLAY_SET, taken from port `p` (R53). -/
def execReadOverlaySet (p : Port) (n : Nat) (s : State) : Host.Outcome State Fault Refusal :=
  .next (State.answer p 0x27 (s, s.readOverlaySet n))

end Sys2Proof.Machine
end

