-- ==== Sys2Proof/Machine/Sense.lean ====
section
/-! DEFINITION. Chapter 6: the attribution of sense values, half-cycle accumulations, the RMS arithmetic, the measurement
record and GET_MEASUREMENT. -/

namespace Sys2Proof.Machine

/-- The verdict that a link delivers for a sample (R112, R165). -/
inductive Delivered where
  | received (v i : Int) (limit : Bool)
  | missing
  deriving DecidableEq, Repr

/-- Step 1 of R114: a verdict attributed to the open accumulation; with none open it is discarded (R112, R113). -/
def Sense.attribute (x : Sense) (d : Option Delivered) : Sense :=
  if x.isOpen then
    match d with
    | none => x
    | some .missing => { x with missing := x.missing + 1 }
    | some (.received v i limit) =>
      { x with n := x.n + 1, limit := x.limit + (if limit then 1 else 0), sumV := x.sumV + v.natAbs * v.natAbs,
               sumI := x.sumI + i.natAbs * i.natAbs }
  else x

/-- The greatest r with r² ≤ n among the numbers that `bits` more binary digits can build on `r`. -/
def sqrtBits : Nat → Nat → Nat → Nat
  | 0, r, _ => r
  | b + 1, r, n => if (r + 2 ^ b) * (r + 2 ^ b) ≤ n then sqrtBits b (r + 2 ^ b) n else sqrtBits b r n

/-- The greatest integer whose square does not exceed `n`, for `n` below 2^32 (R119). -/
def intSqrt (n : Nat) : Nat := sqrtBits 16 0 n

/-- The RMS of a sum of squares of `n` samples (R119). -/
def rmsOf (sum n : Nat) : Nat := if n = 0 then 0 else intSqrt (sum / n)

/-- The measurement that an accumulation closes with (R118 to R120). -/
def Sense.measure (x : Sense) (truncated : Bool) : Measurement :=
  { seq := x.nextSeq, polarity := x.polarity.getD .positive, n := x.n, missing := x.missing, limit := x.limit,
    rmsV := rmsOf x.sumV x.n, rmsI := rmsOf x.sumI x.n, incomplete := decide (0 < x.missing), truncated := truncated }

/-- An accumulation opened, empty, at a polarity (R114). -/
def Sense.openAt (x : Sense) (p : Option Polarity) : Sense :=
  { x with isOpen := true, polarity := p, n := 0, missing := 0, limit := 0, sumV := 0, sumI := 0 }

/-- The open accumulation closed and its measurement published, a new one opened (R114, R116, R120). -/
def Sense.close (x : Sense) (truncated : Bool) (p : Option Polarity) : Sense :=
  Sense.openAt { x with record := some (x.measure truncated), nextSeq := next16 x.nextSeq } p

/-- Steps 2 and 3 of R114: the boundary, or the truncation; with the measurement published, if any. -/
def Sense.boundary (x : Sense) (a : Advance) : Sense × Option Measurement :=
  if a.wraps || a.halves then
    let p : Option Polarity := some (if a.wraps then .positive else .negative)
    if x.isOpen then (x.close false p, some (x.measure false)) else (x.openAt p, none)
  else if x.isOpen && decide (Config.maxSamples ≤ x.n + x.missing) then
    (x.close true x.polarity, some (x.measure true))
  else (x, none)

/-- The sense work of one channel at one sample event (R114). -/
def Sense.work (x : Sense) (d : Option Delivered) (a : Advance) : Sense × Option Measurement :=
  (x.attribute d).boundary a

/-- The fields of a measurement record (R120, R122). -/
def measurementFields (m : Measurement) : List Byte :=
  numBytes 2 m.seq ++ byteItem (polarityNumber m.polarity) ++ numBytes 2 m.n ++ numBytes 2 m.missing
  ++ numBytes 2 m.limit ++ numBytes 2 m.rmsV ++ numBytes 2 m.rmsI ++ flagItem m.incomplete ++ flagItem m.truncated

/-- What GET_MEASUREMENT reports (R122). -/
def measurementBody (x : Sense) : List Byte :=
  optItem 15 (x.record.map measurementFields)
  ++ (if x.isOpen then
        flagItem true ++ byteItem ((x.polarity.map polarityNumber).getD 0) ++ numBytes 2 x.n ++ numBytes 2 x.missing
        ++ numBytes 2 x.limit
      else zeroBytes 8)
  ++ numBytes 2 x.nextSeq

/-- GET_MEASUREMENT's verdict (R122). -/
def State.getMeasurement (s : State) (ch : Nat) : Reply :=
  match channelOf ch with
  | some c => Reply.ok (measurementBody (s.sense.get c))
  | none => Reply.refuse .badArgument

/-- GET_MEASUREMENT, taken from port `p` (R122). -/
def execGetMeasurement (p : Port) (ch : Nat) (s : State) : Host.Outcome State Fault Refusal :=
  .next (State.answer p 0x50 (s, s.getMeasurement ch))

end Sys2Proof.Machine
end

