-- ==== Sys2Proof/Machine/Links.lean ====
section
/-! DEFINITION. Chapter 9: the judgement of status frames, the verdict of a window with the health it makes, the
setpoint frame of a sample event, and GET_LINK. -/

namespace Sys2Proof.Machine

/-! ### Received frames (R161) -/

/-- What a frame of seven characters carries; V or I of -32,768 is taken as -32,767 (R158, R161). -/
def statusOf (b0 v1 v0 i1 i0 flags : Byte) : Status :=
  { echo := b0.toNat, v := clampCode (bytesInt [v1, v0]), i := clampCode (bytesInt [i1, i0]),
    fault := flags.getLsbD 0, limit := flags.getLsbD 1 }

/-- Check 3 of R161 on a frame that echoes number `e`: the count it is rejected under, or none when the echo is that of
the outstanding frame. -/
def Link.echoCheck (x : Link) (e : Nat) : Option Rejected :=
  match x.outstanding with
  | none => some { x.rejected with echo := bump x.rejected.echo }
  | some q =>
    if e = q then none
    else if e = (q + 255) % 256 then some { x.rejected with late := bump x.rejected.late }
    else some { x.rejected with echo := bump x.rejected.echo }

/-- A status that has passed checks 1 and 2: checks 3 and 4 of R161, and its taking. -/
def Link.takeStatus (x : Link) (q : Status) : Link :=
  match x.echoCheck q.echo with
  | some r => { x with rejected := r }
  | none =>
    if x.answer.isSome then { x with rejected := { x.rejected with extra := bump x.rejected.extra } }
    else { x with answer := some q, latest := some q }

/-- A frame rejected FORM (R161). -/
def Link.rejectForm (x : Link) : Link := { x with rejected := { x.rejected with form := bump x.rejected.form } }

/-- A closed frame judged (R161): its characters, and whether each had its stop bit. -/
def Link.judge (x : Link) (chars : List Byte) (stops : Bool) : Link :=
  match chars with
  | [b0, v1, v0, i1, i0, flags, crc] =>
    if !stops then x.rejectForm
    else if crc ≠ crc8 [b0, v1, v0, i1, i0, flags] then
      { x with rejected := { x.rejected with crc := bump x.rejected.crc } }
    else x.takeStatus (statusOf b0 v1 v0 i1 i0 flags)
  | _ => x.rejectForm

/-- STATUS_FRAME: a frame closed on link `k` (R161). -/
def execStatusFrame (k : Channel) (chars : List Byte) (stops : Bool) (s : State) : Host.Outcome State Fault Refusal :=
  .next (s.setLink k ((s.links.get k).judge chars stops))

/-! ### Verdicts (R162 to R165) -/

/-- Move 1 of R162 for a good verdict (R163). -/
def Link.healthGood (x : Link) : Link :=
  match x.health with
  | .good => { x with missingRun := 0 }
  | .lost =>
    if x.goodRun < 15 then { x with goodRun := x.goodRun + 1 }
    else { x with goodRun := 16, health := .good, missingRun := 0 }

/-- Move 1 of R162 for a missing verdict (R163). -/
def Link.healthMissing (x : Link) : Link :=
  match x.health with
  | .good =>
    if x.missingRun < 3 then { x with missingRun := x.missingRun + 1 }
    else { x with missingRun := 4, health := .lost, goodRun := 0 }
  | .lost => { x with goodRun := 0 }

/-- The window of the outstanding frame closed: the link after moves 1 and 2 of R162, and the delivered verdict (R163 to
R165). At the first sample event after a reset no window is open and nothing is delivered. -/
def Link.verdict (x : Link) : Link × Option Delivered :=
  match x.outstanding, x.answer with
  | none, _ => (x, none)
  | some _, some q =>
    let y := { x.healthGood with fault := q.fault }
    (y, some (if y.health = .good then .received q.v q.i q.limit else .missing))
  | some _, none => ({ x.healthMissing with missing := bump x.missing }, some .missing)

/-! ### The setpoint frame (R160) -/

/-- The frame of this sample event started with a code and a parked flag; `waits` when it starts only after the next
command (log 4). -/
def Link.send (x : Link) (code : Int) (parked waits : Bool) : Link :=
  { x with tx := setpointFrame x.next code parked, outstanding := some x.next, answer := none, next := next8 x.next,
           waiting := waits }

/-! ### GET_LINK (R167) -/

/-- What GET_LINK reports (R167). -/
def linkRecordBody (x : Link) : List Byte :=
  byteItem (healthNumber x.health) ++ byteItem x.missingRun ++ byteItem x.goodRun ++ byteItem (activeNumber x.fault)
  ++ byteItem (activeNumber (x.health == .lost)) ++ byteItem x.next ++ statusItem x.latest ++ numBytes 2 x.missing
  ++ numBytes 2 x.rejected.form ++ numBytes 2 x.rejected.crc ++ numBytes 2 x.rejected.late
  ++ numBytes 2 x.rejected.echo ++ numBytes 2 x.rejected.extra

/-- The six counts set to 0 (R167). -/
def Link.clearCounts (x : Link) : Link := { x with missing := 0, rejected := ⟨0, 0, 0, 0, 0⟩ }

/-- GET_LINK's checks and effect (R167). -/
def State.getLink (s : State) (link clear : Nat) : State × Reply :=
  match channelOf link, flagOf clear with
  | some k, some b =>
    (if b then s.setLink k (s.links.get k).clearCounts else s, Reply.ok (linkRecordBody (s.links.get k)))
  | _, _ => (s, Reply.refuse .badArgument)

/-- GET_LINK, taken from port `p` (R167). -/
def execGetLink (p : Port) (link clear : Nat) (s : State) : Host.Outcome State Fault Refusal :=
  .next (State.answer p 0x80 (s.getLink link clear))

end Sys2Proof.Machine
end

