-- ==== Sys2Proof/Machine/Capture.lean ====
section
/-! DEFINITION. Chapter 7: the capture engine's runs and passes, the filters of an offer, and the capture commands. -/

namespace Sys2Proof.Machine

/-! ### Runs and passes (R130 to R132, R137) -/

/-- A pass begun by descriptor `d` (R132). -/
def Engine.beginPass (e : Engine) (d : Nat) : Engine :=
  { e with isActive := true, current := some d, writeIndex := 0, phase := 0, last := none }

/-- A run started with descriptor `d` by an originator (R130, R131). -/
def Engine.startRun (e : Engine) (o : Originator) (d : Nat) : Engine :=
  Engine.beginPass { e with run := next16 e.run, originator := some o, ends := 0, missed := false } d

/-- The port that a run's CAPTURE_ENDED goes to (R178). -/
def Originator.toPort : Originator → Port
  | .port p => p
  | .lane _ p => p

/-- The engine's current descriptor ends its pass: the completion record and the count of ends (steps 1 and 2 of R137
and of R138). -/
def State.closePass (s : State) (d : Nat) (r : PassReason) : State :=
  { s with comps := Store.put s.comps d ⟨s.engine.writeIndex, r, s.engine.run⟩
           engine := { s.engine with ends := bump s.engine.ends } }

/-- The run ends: the engine goes IDLE and raises CAPTURE_ENDED to the originator's port (R137, R138; log 14). -/
def State.endRun (s : State) : State :=
  let s := s.setEngine { s.engine with isActive := false, current := none }
  s.alertOrigin (s.engine.originator.map Originator.toPort) .captureEnded

/-- Step 3 of R137: the chain goes on to `next`, or the run ends. -/
def State.followNext (s : State) (next : Option Nat) : State :=
  match next with
  | some d => if (Store.get s.descs d).isSome then s.setEngine (s.engine.beginPass d) else s.endRun
  | none => s.endRun

/-- A pass ended with FULL or MONITOR (R137). -/
def State.endPass (s : State) (d : Nat) (x : Descriptor) (r : PassReason) : State :=
  (s.closePass d r).followNext x.next

/-- A run in progress ended STOPPED (R138, R139). -/
def State.stopRun (s : State) (d : Nat) : State := (s.closePass d .stopped).endRun

/-- A lane's capture start taken by the engine: a run of its own, or a miss, which is set in the engine and in the
lane's end record and raised to the lane's originating port (R89, R131). -/
def State.laneStart (s : State) (l : LaneId) (p : Port) (d : Nat) : State :=
  if !s.engine.isActive && (Store.get s.descs d).isSome then s.setEngine (s.engine.startRun (.lane l p) d)
  else
    let x := s.lanes.get l
    let s := s.setEngine { s.engine with missed := true }
    (s.setLane l { x with ending := { x.ending with missed := true } }).alert p .captureMissed

/-! ### Filtering and storing (R133 to R136) -/

/-- What a source offers at a sample event (R128). -/
inductive Offer where
  | value (v : Int)
  | gap
  deriving DecidableEq, Repr

/-- A value meets a monitor: strictly beyond its threshold in magnitude (R134). -/
def Monitor.met (m : Monitor) (v : Int) : Bool :=
  match m.relation with
  | .above => decide (m.threshold < v.natAbs)
  | .below => decide (v.natAbs < m.threshold)

/-- A passed value that has not met the monitor is stored (R135). -/
def deadbandPasses (width : Option Nat) (last : Option Int) (v : Int) : Bool :=
  match width, last with
  | some w, some u => decide (w < (v - u).natAbs)
  | none, _ => true
  | some _, none => true

/-- A word stored at the write index of descriptor `x`, with the last stored value after it (R136). -/
def State.storeWord (s : State) (x : Descriptor) (w : Int) (last : Option Int) : State :=
  { s with mem := Memory.write s.mem (x.base + s.engine.writeIndex) w
           engine := { s.engine with writeIndex := s.engine.writeIndex + 1, last := last } }

/-- The state after an offer, whether the offer passed the decimation, and whether the pass ended FULL. -/
structure Taken where
  st : State
  passed : Bool
  full : Bool
  deriving DecidableEq, Repr

/-- The pass ends FULL when the write index has reached the word count (R136). -/
def State.fillCheck (s : State) (d : Nat) (x : Descriptor) : Taken :=
  if x.count ≤ s.engine.writeIndex then ⟨s.endPass d x .full, true, true⟩ else ⟨s, true, false⟩

/-- An offer that has passed the decimation: the monitor, the deadband, the store (R134 to R136). -/
def State.passOffer (s : State) (d : Nat) (x : Descriptor) (o : Offer) : Taken :=
  match o with
  | .gap => (s.storeWord x Config.gapWord s.engine.last).fillCheck d x
  | .value v =>
    if x.monitor.any (fun m => m.met v) then ⟨(s.storeWord x v (some v)).endPass d x .monitor, true, false⟩
    else if deadbandPasses x.deadband s.engine.last v then (s.storeWord x v (some v)).fillCheck d x
    else ⟨s, true, false⟩

/-- An offer taken by the current descriptor `d`, whose fields are `x` (R133). -/
def State.takeOffer (s : State) (d : Nat) (x : Descriptor) (o : Offer) : Taken :=
  if s.engine.phase + 1 < x.decimation then
    ⟨s.setEngine { s.engine with phase := s.engine.phase + 1 }, false, false⟩
  else (s.setEngine { s.engine with phase := 0 }).passOffer d x o

/-! ### Commands -/

/-- WRITE_DESCRIPTOR DEFINE's checks and effect (R126): the descriptor as it now stands is answered as its defined flag
and its fields, without the completion record, which is absent then (log 15). -/
def State.defineDescriptor (s : State) (d : Nat) (r : RawDescriptor) : State × Reply :=
  match descriptorOf r with
  | none => (s, Reply.refuse .badArgument)
  | some x =>
    if ¬ d < 16 then (s, Reply.refuse .badArgument)
    else if s.engine.isActive then (s, Reply.refuse .busy)
    else
      ({ s with descs := Store.put s.descs d x, comps := Store.del s.comps d },
       Reply.taken (descriptorAdjusted r x) (descriptorItem (some x)))

/-- WRITE_DESCRIPTOR DEFINE, taken from port `p` (R126). -/
def execWriteDescriptorDefine (p : Port) (d : Nat) (r : RawDescriptor) (s : State) :
    Host.Outcome State Fault Refusal :=
  .next (State.answer p 0x60 (s.defineDescriptor d r))

/-- WRITE_DESCRIPTOR UNDEFINE's checks and effect (R126). -/
def State.undefineDescriptor (s : State) (d : Nat) : State × Reply :=
  if ¬ d < 16 then (s, Reply.refuse .badArgument)
  else if s.engine.isActive then (s, Reply.refuse .busy)
  else ({ s with descs := Store.del s.descs d, comps := Store.del s.comps d }, Reply.ok [])

/-- WRITE_DESCRIPTOR UNDEFINE, taken from port `p` (R126). -/
def execWriteDescriptorUndefine (p : Port) (d : Nat) (s : State) : Host.Outcome State Fault Refusal :=
  .next (State.answer p 0x60 (s.undefineDescriptor d))

/-- READ_DESCRIPTOR's check and report (R127). -/
def State.readDescriptor (s : State) (d : Nat) : Reply :=
  if d < 16 then
    Reply.ok (descriptorItem (Store.get s.descs d) ++ completionItem (Store.get s.comps d)
      ++ flagItem (s.engine.isActive && s.engine.current == some d))
  else Reply.refuse .badArgument

/-- READ_DESCRIPTOR, taken from port `p` (R127). -/
def execReadDescriptor (p : Port) (d : Nat) (s : State) : Host.Outcome State Fault Refusal :=
  .next (State.answer p 0x61 (s, s.readDescriptor d))

/-- START_CAPTURE's checks and effect (R130). -/
def State.startCapture (s : State) (p : Port) (d : Nat) : State × Reply :=
  if ¬ (d < 16 ∧ (Store.get s.descs d).isSome) then (s, Reply.refuse .badArgument)
  else if s.engine.isActive then
    (s, ⟨.busy, numBytes 2 s.engine.run ++ (s.engine.originator.map originatorItem).getD (zeroBytes 3)⟩)
  else
    let e := s.engine.startRun (.port p) d
    (s.setEngine e, Reply.ok (numBytes 2 e.run))

/-- START_CAPTURE, taken from port `p` (R130). -/
def execStartCapture (p : Port) (d : Nat) (s : State) : Host.Outcome State Fault Refusal :=
  .next (State.answer p 0x62 (s.startCapture p d))

/-- STOP_CAPTURE's check and effect (R138). -/
def State.stopCapture (s : State) : State × Reply :=
  match s.engine.isActive, s.engine.current with
  | true, some d =>
    (s.stopRun d, Reply.ok (numBytes 2 s.engine.run ++ byteItem d ++ numBytes 2 s.engine.writeIndex))
  | _, _ => (s, Reply.refuse .wrongState)

/-- STOP_CAPTURE, taken from port `p` (R138). -/
def execStopCapture (p : Port) (s : State) : Host.Outcome State Fault Refusal :=
  .next (State.answer p 0x63 s.stopCapture)

/-- READ_CAPTURE's check and report (R140). -/
def State.readCapture (s : State) (a c : Nat) : Reply :=
  if a < Config.captureWords ∧ 1 ≤ c ∧ c ≤ 32 ∧ a + c ≤ Config.captureWords then
    Reply.ok ((Memory.readList s.mem a c).map (intBytes 2)).flatten
  else Reply.refuse .badArgument

/-- READ_CAPTURE, taken from port `p` (R140). -/
def execReadCapture (p : Port) (a c : Nat) (s : State) : Host.Outcome State Fault Refusal :=
  .next (State.answer p 0x64 (s, s.readCapture a c))

/-- What GET_CAPTURE reports (R141). The write index and the decimation phase have a presence byte each (log 15). -/
def captureBody (e : Engine) : List Byte :=
  let shown (k : Nat) (b : Option (List Byte)) : List Byte := optItem k (if e.isActive then b else none)
  flagItem e.isActive ++ optItem 3 (e.originator.map originatorItem) ++ numBytes 2 e.run
  ++ shown 1 (e.current.map byteItem) ++ shown 2 (some (numBytes 2 e.writeIndex))
  ++ shown 1 (some (byteItem e.phase)) ++ shown 2 (e.last.map (intBytes 2)) ++ numBytes 2 e.ends ++ flagItem e.missed

/-- GET_CAPTURE, taken from port `p` (R141). -/
def execGetCapture (p : Port) (s : State) : Host.Outcome State Fault Refusal :=
  .next (State.answer p 0x65 (s, Reply.ok (captureBody s.engine)))

end Sys2Proof.Machine
end

