-- ==== Sys2Proof/Machine/StepStore.lean ====
section
/-! DEFINITION. Chapter 4: the step store, the program directory, their protection, and the validation that START
makes. -/

namespace Sys2Proof.Machine

/-! ### The step store (R62 to R66) -/

/-- WRITE_STEP's checks and effect (R62). -/
def State.writeStep (s : State) (n : Nat) (r : RawStep) : State × Reply :=
  match stepOf r with
  | none => (s, Reply.refuse .badArgument)
  | some x =>
    if ¬ n < 256 then (s, Reply.refuse .badArgument)
    else if anyLane (s.rangeHolders n) then (s, Reply.refuse .inUse)
    else
      ({ s with steps := Store.put s.steps n x },
       Reply.taken (adjustedParts r x != []) (byteItem n ++ listItem ((adjustedParts r x).map byteItem)))

/-- WRITE_STEP, taken from port `p` (R62). -/
def execWriteStep (p : Port) (n : Nat) (r : RawStep) (s : State) : Host.Outcome State Fault Refusal :=
  .next (State.answer p 0x30 (s.writeStep n r))

/-- READ_STEP's check and report (R66): the defined flag is the presence byte of the fields, and an undefined record's
fields are sent as zeros (log 15). -/
def State.readStep (s : State) (n : Nat) : Reply :=
  if n < 256 then
    Reply.ok (optItem stepFieldsLength ((Store.get s.steps n).map stepFields)
      ++ byteItem (laneBits (s.rangeHolders n)))
  else Reply.refuse .badArgument

/-- READ_STEP, taken from port `p` (R66). -/
def execReadStep (p : Port) (n : Nat) (s : State) : Host.Outcome State Fault Refusal :=
  .next (State.answer p 0x31 (s, s.readStep n))

/-- CLEAR_STEP's checks and effect (R65). -/
def State.clearStep (s : State) (n : Nat) : State × Reply :=
  if ¬ n < 256 then (s, Reply.refuse .badArgument)
  else if anyLane (s.rangeHolders n) then (s, Reply.refuse .inUse)
  else ({ s with steps := Store.del s.steps n }, Reply.ok [])

/-- CLEAR_STEP, taken from port `p` (R65). -/
def execClearStep (p : Port) (n : Nat) (s : State) : Host.Outcome State Fault Refusal :=
  .next (State.answer p 0x32 (s.clearStep n))

/-! ### The program directory (R68 to R70) -/

/-- The entry that DEFINE would hold, or none where a field is out of range (R69). -/
def programFrom (first count policy : Nat) : Option Program :=
  match policyOf policy with
  | some q =>
    if first ≤ 255 ∧ 1 ≤ count ∧ count ≤ 256 ∧ first + count ≤ 256 then some ⟨first, count, q⟩ else none
  | none => none

/-- WRITE_PROGRAM DEFINE's checks and effect (R69). -/
def State.defineProgram (s : State) (n first count policy : Nat) : State × Reply :=
  match programFrom first count policy with
  | none => (s, Reply.refuse .badArgument)
  | some q =>
    if ¬ n < 8 then (s, Reply.refuse .badArgument)
    else if anyLane (s.runners n) then (s, Reply.refuse .inUse)
    else ({ s with programs := Store.put s.programs n q }, Reply.ok (programItem (some q)))

/-- WRITE_PROGRAM DEFINE, taken from port `p` (R69). -/
def execWriteProgramDefine (p : Port) (n first count policy : Nat) (s : State) : Host.Outcome State Fault Refusal :=
  .next (State.answer p 0x33 (s.defineProgram n first count policy))

/-- WRITE_PROGRAM UNDEFINE's checks and effect (R69). -/
def State.undefineProgram (s : State) (n : Nat) : State × Reply :=
  if ¬ n < 8 then (s, Reply.refuse .badArgument)
  else if anyLane (s.runners n) then (s, Reply.refuse .inUse)
  else ({ s with programs := Store.del s.programs n }, Reply.ok (programItem none))

/-- WRITE_PROGRAM UNDEFINE, taken from port `p` (R69). -/
def execWriteProgramUndefine (p : Port) (n : Nat) (s : State) : Host.Outcome State Fault Refusal :=
  .next (State.answer p 0x33 (s.undefineProgram n))

/-- READ_PROGRAM's check and report (R70). -/
def State.readProgram (s : State) (n : Nat) : Reply :=
  if n < 8 then Reply.ok (programItem (Store.get s.programs n) ++ byteItem (laneBits (s.runners n)))
  else Reply.refuse .badArgument

/-- READ_PROGRAM, taken from port `p` (R70). -/
def execReadProgram (p : Port) (n : Nat) (s : State) : Host.Outcome State Fault Refusal :=
  .next (State.answer p 0x34 (s, s.readProgram n))

/-! ### Validation at START (R75 to R77) -/

/-- Every channel of `a` is in `b`. -/
def channelsWithin (a b : ChannelSet) : Bool := (!a.l1 || b.l1) && (!a.l2 || b.l2) && (!a.l3 || b.l3)

/-- The depth after a step's group open (R77). -/
def depthOpened (x : StepRecord) (depth : Nat) : Nat := if x.groupOpen.isSome then depth + 1 else depth

/-- The checks of one step at a depth, and whether it is the last: the reason of the first failure, or the depth after
the step (R76, R77). Reasons are numbered as the table of R76 first names them: UNDEFINED_STEP 0, MASK_OUTSIDE 1,
BAD_WAIT_CHANNEL 2, TABLE_NOT_READY 3, GROUP_DEPTH 4, UNBALANCED 5. -/
def State.checkStep (s : State) (chans : ChannelSet) (n depth : Nat) (last : Bool) : Except Nat Nat :=
  match Store.get s.steps n with
  | none => .error 0
  | some x =>
    if !channelsWithin x.mask chans then .error 1
    else if x.wait.any (fun w => !chans.get w.channel) then .error 2
    else if x.shape.any (fun p => s.tableState p.table != .ready) then .error 3
    else if 4 < depthOpened x depth then .error 4
    else if depthOpened x depth < x.groupClose.getD 0 then .error 5
    else if last && decide (0 < depthOpened x depth - x.groupClose.getD 0) then .error 5
    else .ok (depthOpened x depth - x.groupClose.getD 0)

/-- The walk over the steps from `n` up, `left` of them still to check, at a position and a depth: what a BAD_PROGRAM
response carries (step number, position, reason), or none when every step passes (R75). -/
def State.walk (s : State) (chans : ChannelSet) : Nat → Nat → Nat → Nat → Option (List Byte)
  | 0, _, _, _ => none
  | left + 1, n, pos, depth =>
    match s.checkStep chans n depth (left == 0) with
    | .error reason => some (byteItem n ++ byteItem pos ++ byteItem reason)
    | .ok depth => s.walk chans left (n + 1) (pos + 1) depth

/-- The validation of a program over a channel set (R75). -/
def State.validate (s : State) (q : Program) (chans : ChannelSet) : Option (List Byte) :=
  s.walk chans q.count q.first 0 0

end Sys2Proof.Machine
end

