-- ==== Sys2Proof/Machine/Lanes.lean ====
section
/-! DEFINITION. The commands of Chapter 5: START, HOLD, RESUME, RELEASE, ABORT, GET_LANE and the hold keys, with the
entry of a step between sample events and the group-close processing that the lanes share. -/

namespace Sys2Proof.Machine

/-! ### Hold keys and marker lines (R107, R108) -/

/-- The state of a hold key. -/
def State.keySet (s : State) : HoldKey → Bool
  | .K1 => s.key1
  | .K2 => s.key2

/-- A hold key set or cleared. -/
def State.setKey (s : State) (k : HoldKey) (b : Bool) : State :=
  match k with
  | .K1 => { s with key1 := b }
  | .K2 => { s with key2 := b }

/-- A marker line. -/
def State.marker (s : State) : MarkerLine → Marker
  | .M1 => s.marker1
  | .M2 => s.marker2

/-- A marker line replaced. -/
def State.setMarker (s : State) (m : MarkerLine) (x : Marker) : State :=
  match m with
  | .M1 => { s with marker1 := x }
  | .M2 => { s with marker2 := x }

/-! ### Entry of a step (R86) -/

/-- Move 1 of R86: the lane at position `pos`, with the step's group open pushed when the entry pushes. -/
def Lane.atStep (x : Lane) (pos : Nat) (push : Bool) (step : StepRecord) : Lane :=
  { x with
    position := some pos
    dwell := none
    stack := if push then x.stack ++ (step.groupOpen.map (fun c => ⟨pos, c⟩)).toList else x.stack }

/-- Move 2 of R86: the hold reason when the step's hold point names a key that is set. -/
def State.holdAt (s : State) (step : StepRecord) : Option HoldReason :=
  match step.hold with
  | some .K1 => if s.key1 then some .key1 else none
  | some .K2 => if s.key2 then some .key2 else none
  | none => none

/-- A lane record gone HELD (R86, R98). -/
def Lane.toHeld (x : Lane) (r : HoldReason) (f : HeldFrom) : Lane :=
  { x with state := .held, holdReason := some r, heldFrom := some f }

/-- Lane `l`, whose record is `x`, goes HELD and raises LANE_HELD to its originating port (R86, R98). -/
def State.holdLane (s : State) (l : LaneId) (x : Lane) (r : HoldReason) (f : HeldFrom) : State :=
  (s.setLane l (x.toHeld r f)).alertOrigin x.origin (.laneHeld l)

/-- Lane record `x`, to be lane `l`, enters position `pos` between sample events: HELD at a set key, ALIGNING otherwise
(moves 1 to 3 and 5 of R86). -/
def State.enterBetween (s : State) (l : LaneId) (x : Lane) (pos : Nat) (step : StepRecord) : State :=
  let y := x.atStep pos true step
  match s.holdAt step with
  | some r => s.holdLane l y r .entry
  | none => s.setLane l { y with state := .aligning }

/-- The group-close processing over the `n` innermost entries, the stack innermost first: the position looped back to,
the stack and release pending (R94). -/
def closeGroups : Nat → List GroupEntry → Bool → Option Nat × List GroupEntry × Bool
  | 0, st, r => (none, st, r)
  | _ + 1, [], r => (none, [], r)
  | n + 1, e :: es, r =>
    if e.remaining = 0 then if r then closeGroups n es false else (some e.opening, e :: es, r)
    else if 1 < e.remaining then (some e.opening, { e with remaining := e.remaining - 1 } :: es, r)
    else closeGroups n es r

/-! ### START (R82, R83) -/

/-- The lane that holds the first bound channel of a set, in channel order (R82). -/
def State.firstBusy (s : State) (chans : ChannelSet) : Option LaneId :=
  let f (c : Channel) : Option LaneId := if chans.get c then s.boundTo c else none
  (f .L1).or ((f .L2).or (f .L3))

/-- The first channel of a set with a pending staged set (R82). -/
def State.firstPending (s : State) (chans : ChannelSet) : Option Channel :=
  let f (c : Channel) : Option Channel := if chans.get c && (s.chans.get c).staged.isSome then some c else none
  (f .L1).or ((f .L2).or (f .L3))

/-- The lowest-numbered IDLE lane (R83). -/
def State.idleLane (s : State) : Option LaneId :=
  if !s.lanes.n0.running then some .lane0
  else if !s.lanes.n1.running then some .lane1
  else if !s.lanes.n2.running then some .lane2
  else none

/-- The snapshot of channel `c` for a lane over `chans` (R41). -/
def State.snapshotOf (s : State) (chans : ChannelSet) (c : Channel) : Option ParamSet :=
  if chans.get c then some (s.chans.get c).active else none

/-- The lane record of an accepted START before its entry (steps 1 to 5 of R83). -/
def State.freshLane (s : State) (p : Port) (program : Nat) (chans : ChannelSet) : Lane :=
  { Lane.reset with
    state := .aligning, program := some program, origin := some p, channels := chans,
    snapshots := ⟨s.snapshotOf chans .L1, s.snapshotOf chans .L2, s.snapshotOf chans .L3⟩ }

/-- An accepted START of program `program`, defined as `q`, on lane `l` (R83). -/
def State.launch (s : State) (p : Port) (program : Nat) (q : Program) (chans : ChannelSet) (l : LaneId) : State :=
  match Store.get s.steps q.first with
  | some step => s.enterBetween l (s.freshLane p program chans) 0 step
  | none => s

/-- Checks 4 to 7 of R82 and the acceptance, for a defined program and a non-empty set of channels. -/
def State.startOn (s : State) (p : Port) (program : Nat) (q : Program) (chans : ChannelSet) : State × Reply :=
  match s.firstBusy chans with
  | some l => (s, ⟨.channelBusy, byteItem (laneNumber l)⟩)
  | none =>
    match s.firstPending chans with
    | some c => (s, ⟨.pending, byteItem (channelNumber c)⟩)
    | none =>
      match s.validate q chans with
      | some body => (s, ⟨.badProgram, body⟩)
      | none =>
        match s.idleLane with
        | none => (s, Reply.refuse .noLane)
        | some l =>
          (s.launch p program q chans l,
           Reply.ok (byteItem (laneNumber l) ++ byteItem (channelNumber (lowest chans))))

/-- The directory entry that START names, or none: the number is 0 to 7 and the entry is defined (check 2 of R82). -/
def State.startProgram (s : State) (program : Nat) : Option Program :=
  if program < 8 then Store.get s.programs program else none

/-- START's checks and effect (R82, R83); a bit for no channel is refused at check 2 (R173). -/
def State.start (s : State) (p : Port) (program channels : Nat) : State × Reply :=
  if s.trip.state = .tripped then (s, Reply.refuse .tripped)
  else
    match s.startProgram program, channelSetOf channels with
    | some q, some chans =>
      if noChannels chans then (s, Reply.refuse .badArgument) else s.startOn p program q chans
    | _, _ => (s, Reply.refuse .badArgument)

/-- START, taken from port `p` (R82, R83). -/
def execStart (p : Port) (program channels : Nat) (s : State) : Host.Outcome State Fault Refusal :=
  .next (State.answer p 0x40 (s.start p program channels))

/-! ### HOLD, RESUME, RELEASE, ABORT -/

/-- Where HOLD finds the lane, or none where HOLD is refused (R98). -/
def LaneState.holdable : LaneState → Option HeldFrom
  | .aligning => some .aligning
  | .dwell => some .dwell
  | .waiting => some .waiting
  | .idle => none
  | .held => none
  | .closing => none

/-- HOLD's checks and effect (R98). -/
def State.holdCommand (s : State) (n : Nat) : State × Reply :=
  match laneOf n with
  | none => (s, Reply.refuse .badArgument)
  | some l =>
    match (s.lanes.get l).state.holdable with
    | some f => (s.holdLane l (s.lanes.get l) .command f, Reply.ok [])
    | none => (s, Reply.refuse .wrongState)

/-- HOLD, taken from port `p` (R98). -/
def execHold (p : Port) (lane : Nat) (s : State) : Host.Outcome State Fault Refusal :=
  .next (State.answer p 0x41 (s.holdCommand lane))

/-- The lane record after RESUME, by where it was held from (R105). -/
def Lane.resumed (x : Lane) : Lane :=
  let y := { x with holdReason := none, heldFrom := none }
  match x.heldFrom with
  | some .dwell => { y with state := .dwell }
  | some .waiting => { y with state := .waiting, consecutive := 0 }
  | some .entry => { y with state := .aligning }
  | some .aligning => { y with state := .aligning }
  | none => { y with state := .aligning }

/-- RESUME's checks and effect (R105). -/
def State.resumeCommand (s : State) (n : Nat) : State × Reply :=
  match laneOf n with
  | none => (s, Reply.refuse .badArgument)
  | some l =>
    if (s.lanes.get l).state = .held then (s.setLane l (s.lanes.get l).resumed, Reply.ok [])
    else (s, Reply.refuse .wrongState)

/-- RESUME, taken from port `p` (R105). -/
def execResume (p : Port) (lane : Nat) (s : State) : Host.Outcome State Fault Refusal :=
  .next (State.answer p 0x42 (s.resumeCommand lane))

/-- RELEASE's checks and effect (R96). -/
def State.releaseCommand (s : State) (n : Nat) : State × Reply :=
  match laneOf n with
  | none => (s, Reply.refuse .badArgument)
  | some l =>
    if (s.lanes.get l).stack.any (fun e => e.remaining == 0) then
      (s.setLane l { s.lanes.get l with releasePending := true }, Reply.ok [])
    else (s, Reply.refuse .wrongState)

/-- RELEASE, taken from port `p` (R96). -/
def execRelease (p : Port) (lane : Nat) (s : State) : Host.Outcome State Fault Refusal :=
  .next (State.answer p 0x43 (s.releaseCommand lane))

/-- The reason of an ABORT by its sender (R101). -/
def abortReason : Port → EndReason
  | .A => .abortedA
  | .B => .abortedB

/-- ABORT's checks and effect (R101). -/
def State.abortCommand (s : State) (p : Port) (n : Nat) : State × Reply :=
  match laneOf n with
  | none => (s, Reply.refuse .badArgument)
  | some l =>
    if (s.lanes.get l).state = .idle ∨ (s.lanes.get l).state = .closing then (s, Reply.refuse .wrongState)
    else (s.goClosing l (abortReason p), Reply.ok [])

/-- ABORT, taken from port `p` (R101). -/
def execAbort (p : Port) (lane : Nat) (s : State) : Host.Outcome State Fault Refusal :=
  .next (State.answer p 0x44 (s.abortCommand p lane))

/-! ### GET_LANE and the keys (R108, R109) -/

/-- The lane is in `a`, or HELD from `f` (R109). -/
def Lane.inOrHeldFrom (x : Lane) (a : LaneState) (f : HeldFrom) : Bool :=
  x.state == a || (x.state == .held && x.heldFrom == some f)

/-- The dwell remaining as reported: while DWELL or HELD from DWELL (R109). -/
def Lane.dwellItem (x : Lane) : List Byte :=
  optItem 4 (if x.inOrHeldFrom .dwell .dwell then
    x.dwell.map (fun d => numBytes 3 d.count ++ byteItem (unitNumber d.unit)) else none)

/-- The wait progress as reported: while WAITING or HELD from WAITING (R109). -/
def Lane.waitItem (x : Lane) : List Byte :=
  optItem 3 (if x.inOrHeldFrom .waiting .waiting then some (byteItem x.consecutive ++ numBytes 2 x.timeout) else none)

/-- The snapshots of a lane in channel order (R109). -/
def Lane.snapshotList (x : Lane) : List ParamSet :=
  x.snapshots.l1.toList ++ x.snapshots.l2.toList ++ x.snapshots.l3.toList

/-- The current step as reported: position and store number (R109). -/
def State.currentItem (s : State) (x : Lane) : List Byte :=
  optItem 2 (x.position.map (fun k =>
    byteItem k ++ byteItem (((s.programOf x).map (fun q => q.first + k)).getD 0)))

/-- The end record as reported (R80, R109). -/
def endItem (e : EndRecord) : List Byte :=
  byteItem (endReasonNumber e.reason) ++ byteItem e.position ++ numBytes 2 e.timeouts ++ flagItem e.missed

/-- What GET_LANE reports (R109). The current step, the dwell remaining and the wait progress have one presence byte each,
and the reverted set is a bit map in every state, with no presence byte: 0 outside CLOSING (log 15). -/
def State.laneBody (s : State) (x : Lane) : List Byte :=
  byteItem (laneStateNumber x.state) ++ optItem 1 (x.program.map byteItem)
  ++ optItem 1 (x.origin.map (fun q => byteItem (portNumber q))) ++ byteItem (channelBits x.channels)
  ++ optItem 1 (if noChannels x.channels then none else some (byteItem (channelNumber (lowest x.channels))))
  ++ s.currentItem x ++ listItem (x.stack.map (fun e => byteItem e.opening ++ numBytes 2 e.remaining))
  ++ x.dwellItem ++ x.waitItem ++ flagItem x.releasePending
  ++ optItem 1 (x.holdReason.map (fun r => byteItem (holdReasonNumber r)))
  ++ optItem 1 (x.heldFrom.map (fun f => byteItem (heldFromNumber f)))
  ++ listItem (x.snapshotList.map paramItem) ++ byteItem (channelBits x.reverted) ++ endItem x.ending
  ++ flagItem s.key1 ++ flagItem s.key2 ++ byteItem (levelNumber s.marker1.high) ++ byteItem (levelNumber s.marker2.high)

/-- GET_LANE's check and report (R109). -/
def State.getLane (s : State) (n : Nat) : Reply :=
  match laneOf n with
  | some l => Reply.ok (s.laneBody (s.lanes.get l))
  | none => Reply.refuse .badArgument

/-- GET_LANE, taken from port `p` (R109). -/
def execGetLane (p : Port) (lane : Nat) (s : State) : Host.Outcome State Fault Refusal :=
  .next (State.answer p 0x45 (s, s.getLane lane))

/-- SET_HOLD_KEY's and CLEAR_HOLD_KEY's check and effect (R108). -/
def State.changeKey (s : State) (key : Nat) (b : Bool) : State × Reply :=
  match keyOf key with
  | none => (s, Reply.refuse .badArgument)
  | some k => (s.setKey k b, Reply.ok (flagItem (s.setKey k b).key1 ++ flagItem (s.setKey k b).key2))

/-- SET_HOLD_KEY, taken from port `p` (R108). -/
def execSetHoldKey (p : Port) (key : Nat) (s : State) : Host.Outcome State Fault Refusal :=
  .next (State.answer p 0x46 (s.changeKey key true))

/-- CLEAR_HOLD_KEY, taken from port `p` (R108). -/
def execClearHoldKey (p : Port) (key : Nat) (s : State) : Host.Outcome State Fault Refusal :=
  .next (State.answer p 0x47 (s.changeKey key false))

end Sys2Proof.Machine
end

