-- ==== Sys2Proof/Machine/Ports.lean ====
section
/-! DEFINITION. Chapter 10 but for the judgement of frames: NOP, IDENTIFY, the alert commands, MASTER_CLEAR, RESET_N and
the select and bytes of a transaction. -/

namespace Sys2Proof.Machine

/-- NOP, taken from port `p` (R177). -/
def execNop (p : Port) (s : State) : Host.Outcome State Fault Refusal := .next (State.answer p 0x00 (s, Reply.ok []))

/-- IDENTIFY, taken from port `p` (R177). -/
def execIdentify (p : Port) (s : State) : Host.Outcome State Fault Refusal :=
  .next (State.answer p 0x01 (s, Reply.ok (Config.identityBody p)))

/-- What GET_ALERTS reports: the pending kinds and their sets; the set of a kind that is not pending is empty (R180). -/
def alertsBody (x : Alerts) : List Byte :=
  byteItem (kindBits x.kinds) ++ byteItem (if x.kinds.laneEnded then laneBits x.ended else 0)
  ++ byteItem (if x.kinds.laneHeld then laneBits x.held else 0)
  ++ byteItem (if x.kinds.clipping then channelBits x.clipped else 0)

/-- GET_ALERTS, taken from port `p`: the report, and the set emptied (R180). -/
def execGetAlerts (p : Port) (s : State) : Host.Outcome State Fault Refusal :=
  .next (State.answer p 0x02
    (s.setPort p { s.ports.get p with alerts := Alerts.empty }, Reply.ok (alertsBody (s.ports.get p).alerts)))

/-- SET_ALERT_MASK's check and effect (R181). -/
def State.setAlertMask (s : State) (p : Port) (mask : Nat) : State × Reply :=
  match kindsOf mask with
  | none => (s, Reply.refuse .badArgument)
  | some m =>
    (s.setPort p { s.ports.get p with mask := m },
     Reply.ok (byteItem (kindBits m) ++ byteItem (kindBits (s.ports.get p).alerts.kinds)))

/-- SET_ALERT_MASK, taken from port `p` (R181). -/
def execSetAlertMask (p : Port) (mask : Nat) (s : State) : Host.Outcome State Fault Refusal :=
  .next (State.answer p 0x03 (s.setAlertMask p mask))

/-! ### MASTER_CLEAR (R183) -/

/-- The lanes that are running. -/
def State.runningLanes (s : State) : LaneSet := ⟨s.lanes.n0.running, s.lanes.n1.running, s.lanes.n2.running⟩

/-- A run in progress ended STOPPED; an IDLE engine is left so (R139). -/
def State.stopAny (s : State) : State :=
  match s.engine.isActive, s.engine.current with
  | true, some d => s.stopRun d
  | _, _ => s

/-- A table that is LOADING. -/
def TableState.isLoading : TableState → Bool
  | .loading _ _ => true
  | .empty => false
  | .ready => false

/-- Every LOADING table made EMPTY (R58). -/
def State.emptyLoading (s : State) : State := { s with tables := s.tables.filter (fun e => !e.2.isLoading) }

/-- Both hold keys cleared, both marker lines low (R104, R107, R108). -/
def State.clearLines (s : State) : State :=
  { s with key1 := false, key2 := false, marker1 := ⟨false, false⟩, marker2 := ⟨false, false⟩ }

/-- MASTER_CLEAR's effect: the lanes end CLEARED before the entry to TRIPPED (R183, R104, R152). -/
def State.masterClear (s : State) (p : Port) : State × Reply :=
  (((((s.endLanes .cleared).takeCause .masterClear (some p)).stopAny).emptyLoading).clearLines,
   Reply.ok (byteItem (laneBits s.runningLanes) ++ flagItem s.engine.isActive ++ flagItem (s.trip.state == .normal)))

/-- MASTER_CLEAR, taken from port `p` (R183). -/
def execMasterClear (p : Port) (s : State) : Host.Outcome State Fault Refusal :=
  .next (State.answer p 0x0F (s.masterClear p))

/-! ### Reset (R184) -/

/-- RESET_N_ASSERTION: every block takes its reset values, TRIP_N low or high at the release; what waits for the block
goes on waiting (R184, R143, R168; log 8). -/
def execResetNAssertion (tripNLow : Bool) (s : State) : Host.Outcome State Fault Refusal :=
  .next { State.resetWith tripNLow with pending := s.pending }

/-! ### A transaction (R170) -/

/-- Byte `k` of the response in the holder; zeros past its end (R170). -/
def Response.byteAt (r : Response) (k : Nat) : Byte := r.bytes.getD k 0#8

/-- SPI_SELECT: the select line of port `p` falls (R170). -/
def execSpiSelect (p : Port) (s : State) : Host.Outcome State Fault Refusal :=
  let x := s.ports.get p
  .next (s.setPort p { x with receiving := true, frame := [], count := 0, miso := some (x.holder.byteAt 0) })

/-- The receive frame after a byte: kept when the frame, as its length byte tells, needs it (R170; log 10). -/
def keepByte (frame : List Byte) (count : Nat) (b : Byte) : List Byte :=
  if count < 2 ∨ count < 2 + (frame.getD 1 0#8).toNat then frame ++ [b] else frame

/-- SPI_BYTE_COMPLETED: eight rising edges of SCK complete a byte of port `p`; SCK is ignored while the port is
deselected (R170). -/
def execSpiByteCompleted (p : Port) (b : Byte) (s : State) : Host.Outcome State Fault Refusal :=
  let x := s.ports.get p
  if x.receiving then
    .next (s.setPort p { x with frame := keepByte x.frame x.count b, count := x.count + 1,
                                miso := some (x.holder.byteAt (x.count + 1)) })
  else .next s

end Sys2Proof.Machine
end

