-- ==== Sys2Proof/Machine/TripUnit.lean ====
section
/-! DEFINITION. Chapter 8: the TRIP_N events, and the commands TRIP, RESTART and GET_TRIP. The entry to TRIPPED is in
Ops.lean. -/

namespace Sys2Proof.Machine

/-- TRIP_N_ASSERTED: the source becomes active, an entry from NORMAL, a record while TRIPPED (R144, R146, R147). -/
def execTripNAsserted (s : State) : Host.Outcome State Fault Refusal := .next (s.takeSource .tripN true)

/-- TRIP_N_RELEASED: the source becomes passive and leaves the active-source set (R144, R147). -/
def execTripNReleased (s : State) : Host.Outcome State Fault Refusal := .next (s.takeSource .tripN false)

/-- TRIP, taken from port `p`: answered with the trip state after it and whether it made an entry (R151). -/
def execTrip (p : Port) (s : State) : Host.Outcome State Fault Refusal :=
  .next (State.answer p 0x70
    (s.takeCause .portTrip (some p),
     Reply.ok (byteItem (tripStateNumber .tripped) ++ flagItem (s.trip.state == .normal))))

/-- RESTART's checks and effect (R150). -/
def State.restart (s : State) : State × Reply :=
  if s.trip.state = .normal then (s, Reply.refuse .notTripped)
  else if !s.trip.active.isEmpty then (s, ⟨.sourceActive, byteItem (sourceBits s.trip.active)⟩)
  else
    (s.setTrip { s.trip with state := .normal, causes := CauseSet.empty, outputs := PerChannel.all .unparking },
     Reply.ok (firstCauseItem s.trip.first ++ numBytes 2 (causeBits s.trip.causes)))

/-- RESTART, taken from port `p` (R150). -/
def execRestart (p : Port) (s : State) : Host.Outcome State Fault Refusal :=
  .next (State.answer p 0x71 s.restart)

/-- What GET_TRIP reports (R154). -/
def tripBody (t : TripUnit) : List Byte :=
  byteItem (tripStateNumber t.state) ++ byteItem (sourceBits t.active) ++ numBytes 2 (causeBits t.causes)
  ++ firstCauseItem t.first ++ byteItem (outputNumber t.outputs.l1) ++ byteItem (outputNumber t.outputs.l2)
  ++ byteItem (outputNumber t.outputs.l3)

/-- GET_TRIP, taken from port `p` (R154). -/
def execGetTrip (p : Port) (s : State) : Host.Outcome State Fault Refusal :=
  .next (State.answer p 0x72 (s, Reply.ok (tripBody s.trip)))

end Sys2Proof.Machine
end

