-- ==== Sys2Proof/Machine/Frames.lean ====
section
/-! DEFINITION. Command frames: the bytes a command is sent in (R173, R176), the judgement of a received frame (R171),
its reading, and the deselect that takes it (R172, R174). -/

namespace Sys2Proof.Machine

/-! ### The bodies of commands (R173, R176) -/

/-- The items of a parameter set, in the order of R35. -/
def paramBody (r : RawParams) : List Byte :=
  numBytes 2 r.freq ++ numBytes 2 r.amp ++ byteItem r.table ++ byteItem r.overlay ++ intBytes 2 r.dc ++ numBytes 2 r.level

/-- The entries of a chunk. -/
def entriesBody (entries : List Int) : List Byte := (entries.map (intBytes 2)).flatten

/-- The term slots of WRITE_OVERLAY_SET. -/
def slotsBody (slots : List OverlaySlot) : List Byte :=
  (slots.map (fun t => byteItem t.order ++ numBytes 2 t.amplitude ++ numBytes 2 t.phase)).flatten

/-- The items of a step record, in the order of R62 and R60. -/
def stepBody (r : RawStep) : List Byte :=
  byteItem r.mask ++ numBytes 3 r.count ++ byteItem r.unit
  ++ (byteItem r.hasSync ++ numBytes 2 r.sync)
  ++ (byteItem r.hasHold ++ byteItem r.holdKey)
  ++ (byteItem r.hasLevel ++ numBytes 2 r.level ++ numBytes 2 r.levelRamp)
  ++ (byteItem r.hasFreq ++ numBytes 2 r.freq ++ numBytes 2 r.freqRamp)
  ++ (byteItem r.hasJump ++ intBytes 2 r.jump)
  ++ (byteItem r.hasShape ++ byteItem r.table ++ byteItem r.overlay)
  ++ (byteItem r.hasMarkers ++ byteItem r.marker1 ++ byteItem r.marker2)
  ++ (byteItem r.hasCapture ++ byteItem r.descriptor)
  ++ (byteItem r.hasWait ++ byteItem r.waitChannel ++ byteItem r.quantity ++ byteItem r.relation
      ++ numBytes 2 r.threshold ++ byteItem r.consecutive ++ numBytes 2 r.timeout ++ byteItem r.onTimeout)
  ++ (byteItem r.hasOpen ++ numBytes 2 r.openCount)
  ++ (byteItem r.hasClose ++ byteItem r.closeCount)

/-- The items of a descriptor, in the order of R126. -/
def descriptorBody (r : RawDescriptor) : List Byte :=
  byteItem r.source ++ byteItem r.channel ++ numBytes 2 r.base ++ numBytes 2 r.count ++ byteItem r.next
  ++ numBytes 2 r.decimation ++ (byteItem r.hasDeadband ++ numBytes 2 r.deadband)
  ++ (byteItem r.hasMonitor ++ byteItem r.relation ++ numBytes 2 r.threshold)

/-- The code and the body that a port command is sent in; an event of a pin or a tick is no frame (R176). -/
def commandBody : Instr → Option (Nat × List Byte)
  | .nop _ => some (0x00, [])
  | .identify _ => some (0x01, [])
  | .getAlerts _ => some (0x02, [])
  | .setAlertMask _ mask => some (0x03, byteItem mask)
  | .masterClear _ => some (0x0F, [])
  | .setChannel _ ch r => some (0x10, byteItem ch ++ paramBody r)
  | .getChannel _ ch clear => some (0x11, byteItem ch ++ byteItem clear)
  | .linkChannelFollow _ ch offset => some (0x12, byteItem ch ++ byteItem 0 ++ numBytes 4 offset)
  | .linkChannelUnlink _ ch => some (0x12, byteItem ch ++ byteItem 1 ++ zeroBytes 4)
  | .beginTable _ t => some (0x20, byteItem t)
  | .writeTableChunk _ t chunk entries => some (0x21, byteItem t ++ byteItem chunk ++ entriesBody entries)
  | .commitTable _ t => some (0x22, byteItem t)
  | .discardTable _ t => some (0x23, byteItem t)
  | .readTableChunk _ t chunk => some (0x24, byteItem t ++ byteItem chunk)
  | .getTableState _ t => some (0x25, byteItem t)
  | .writeOverlaySet _ n count slots => some (0x26, byteItem n ++ byteItem count ++ slotsBody slots)
  | .readOverlaySet _ n => some (0x27, byteItem n)
  | .writeStep _ n r => some (0x30, byteItem n ++ stepBody r)
  | .readStep _ n => some (0x31, byteItem n)
  | .clearStep _ n => some (0x32, byteItem n)
  | .writeProgramDefine _ n first count policy =>
    some (0x33, byteItem n ++ byteItem 0 ++ byteItem first ++ numBytes 2 count ++ byteItem policy)
  | .writeProgramUndefine _ n => some (0x33, byteItem n ++ byteItem 1 ++ zeroBytes 4)
  | .readProgram _ n => some (0x34, byteItem n)
  | .start _ program channels => some (0x40, byteItem program ++ byteItem channels)
  | .hold _ lane => some (0x41, byteItem lane)
  | .resume _ lane => some (0x42, byteItem lane)
  | .release _ lane => some (0x43, byteItem lane)
  | .abort _ lane => some (0x44, byteItem lane)
  | .getLane _ lane => some (0x45, byteItem lane)
  | .setHoldKey _ key => some (0x46, byteItem key)
  | .clearHoldKey _ key => some (0x47, byteItem key)
  | .getMeasurement _ ch => some (0x50, byteItem ch)
  | .writeDescriptorDefine _ d r => some (0x60, byteItem d ++ byteItem 0 ++ descriptorBody r)
  | .writeDescriptorUndefine _ d => some (0x60, byteItem d ++ byteItem 1 ++ zeroBytes 16)
  | .readDescriptor _ d => some (0x61, byteItem d)
  | .startCapture _ d => some (0x62, byteItem d)
  | .stopCapture _ => some (0x63, [])
  | .readCapture _ address count => some (0x64, numBytes 2 address ++ byteItem count)
  | .getCapture _ => some (0x65, [])
  | .trip _ => some (0x70, [])
  | .restart _ => some (0x71, [])
  | .getTrip _ => some (0x72, [])
  | .getLink _ link clear => some (0x80, byteItem link ++ byteItem clear)
  | .resetNAssertion _ => none
  | .sampleEvent _ => none
  | .levelRampEnd _ _ => none
  | .frequencyRampEnd _ _ => none
  | .linkLost _ _ => none
  | .linkRecovered _ _ => none
  | .statusFrame _ _ _ => none
  | .truncated _ _ => none
  | .markerPulseEnd _ _ => none
  | .dwellEnd _ _ => none
  | .waitMet _ _ => none
  | .waitTimeout _ _ => none
  | .decimationPass _ => none
  | .capturePassFull _ => none
  | .tripNAsserted => none
  | .tripNReleased => none
  | .spiSelect _ => none
  | .frameError _ => none
  | .spiByteCompleted _ _ => none

/-- The bytes of a command's frame: the code, the body length, the body (R172). -/
def frameOf (i : Instr) : Option (List Byte) :=
  (commandBody i).map (fun x => BitVec.ofNat 8 x.1 :: BitVec.ofNat 8 x.2.length :: x.2)

/-- The port that a port command is taken from. -/
def portOf : Instr → Option Port
  | .nop p => some p
  | .identify p => some p
  | .getAlerts p => some p
  | .setAlertMask p _ => some p
  | .masterClear p => some p
  | .setChannel p _ _ => some p
  | .getChannel p _ _ => some p
  | .linkChannelFollow p _ _ => some p
  | .linkChannelUnlink p _ => some p
  | .beginTable p _ => some p
  | .writeTableChunk p _ _ _ => some p
  | .commitTable p _ => some p
  | .discardTable p _ => some p
  | .readTableChunk p _ _ => some p
  | .getTableState p _ => some p
  | .writeOverlaySet p _ _ _ => some p
  | .readOverlaySet p _ => some p
  | .writeStep p _ _ => some p
  | .readStep p _ => some p
  | .clearStep p _ => some p
  | .writeProgramDefine p _ _ _ _ => some p
  | .writeProgramUndefine p _ => some p
  | .readProgram p _ => some p
  | .start p _ _ => some p
  | .hold p _ => some p
  | .resume p _ => some p
  | .release p _ => some p
  | .abort p _ => some p
  | .getLane p _ => some p
  | .setHoldKey p _ => some p
  | .clearHoldKey p _ => some p
  | .getMeasurement p _ => some p
  | .writeDescriptorDefine p _ _ => some p
  | .writeDescriptorUndefine p _ => some p
  | .readDescriptor p _ => some p
  | .startCapture p _ => some p
  | .stopCapture p => some p
  | .readCapture p _ _ => some p
  | .getCapture p => some p
  | .trip p => some p
  | .restart p => some p
  | .getTrip p => some p
  | .getLink p _ _ => some p
  | .resetNAssertion _ => none
  | .sampleEvent _ => none
  | .levelRampEnd _ _ => none
  | .frequencyRampEnd _ _ => none
  | .linkLost _ _ => none
  | .linkRecovered _ _ => none
  | .statusFrame _ _ _ => none
  | .truncated _ _ => none
  | .markerPulseEnd _ _ => none
  | .dwellEnd _ _ => none
  | .waitMet _ _ => none
  | .waitTimeout _ _ => none
  | .decimationPass _ => none
  | .capturePassFull _ => none
  | .tripNAsserted => none
  | .tripNReleased => none
  | .spiSelect _ => none
  | .frameError _ => none
  | .spiByteCompleted _ _ => none

/-! ### Reading a body -/

/-- The unsigned number in the `k` bytes at position `i`. -/
def numAt (b : List Byte) (i k : Nat) : Nat := bytesNum ((b.drop i).take k)

/-- The signed number in the `k` bytes at position `i`. -/
def intAt (b : List Byte) (i k : Nat) : Int := bytesInt ((b.drop i).take k)

/-- A parameter set read. -/
def readParams (b : List Byte) : RawParams :=
  { freq := numAt b 0 2, amp := numAt b 2 2, table := numAt b 4 1, overlay := numAt b 5 1, dc := intAt b 6 2,
    level := numAt b 8 2 }

/-- `n` entries of a chunk read. -/
def readEntries : Nat → List Byte → List Int
  | 0, _ => []
  | n + 1, b => intAt b 0 2 :: readEntries n (b.drop 2)

/-- `n` term slots read. -/
def readSlots : Nat → List Byte → List OverlaySlot
  | 0, _ => []
  | n + 1, b => ⟨numAt b 0 1, numAt b 1 2, numAt b 3 2⟩ :: readSlots n (b.drop 5)

/-- A step record read. -/
def readStepBody (b : List Byte) : RawStep :=
  { mask := numAt b 0 1, count := numAt b 1 3, unit := numAt b 4 1
    hasSync := numAt b 5 1, sync := numAt b 6 2
    hasHold := numAt b 8 1, holdKey := numAt b 9 1
    hasLevel := numAt b 10 1, level := numAt b 11 2, levelRamp := numAt b 13 2
    hasFreq := numAt b 15 1, freq := numAt b 16 2, freqRamp := numAt b 18 2
    hasJump := numAt b 20 1, jump := intAt b 21 2
    hasShape := numAt b 23 1, table := numAt b 24 1, overlay := numAt b 25 1
    hasMarkers := numAt b 26 1, marker1 := numAt b 27 1, marker2 := numAt b 28 1
    hasCapture := numAt b 29 1, descriptor := numAt b 30 1
    hasWait := numAt b 31 1, waitChannel := numAt b 32 1, quantity := numAt b 33 1, relation := numAt b 34 1
    threshold := numAt b 35 2, consecutive := numAt b 37 1, timeout := numAt b 38 2, onTimeout := numAt b 40 1
    hasOpen := numAt b 41 1, openCount := numAt b 42 2
    hasClose := numAt b 44 1, closeCount := numAt b 45 1 }

/-- A descriptor read. -/
def readDescriptorBody (b : List Byte) : RawDescriptor :=
  { source := numAt b 0 1, channel := numAt b 1 1, base := numAt b 2 2, count := numAt b 4 2, next := numAt b 6 1
    decimation := numAt b 7 2, hasDeadband := numAt b 9 1, deadband := numAt b 10 2
    hasMonitor := numAt b 12 1, relation := numAt b 13 1, threshold := numAt b 14 2 }

/-- The body length of a command code, or none for an unknown code (R176). -/
def commandLength : Nat → Option Nat
  | 0x00 => some 0
  | 0x01 => some 0
  | 0x02 => some 0
  | 0x03 => some 1
  | 0x0F => some 0
  | 0x10 => some 11
  | 0x11 => some 2
  | 0x12 => some 6
  | 0x20 => some 1
  | 0x21 => some 66
  | 0x22 => some 1
  | 0x23 => some 1
  | 0x24 => some 2
  | 0x25 => some 1
  | 0x26 => some 32
  | 0x27 => some 1
  | 0x30 => some 47
  | 0x31 => some 1
  | 0x32 => some 1
  | 0x33 => some 6
  | 0x34 => some 1
  | 0x40 => some 2
  | 0x41 => some 1
  | 0x42 => some 1
  | 0x43 => some 1
  | 0x44 => some 1
  | 0x45 => some 1
  | 0x46 => some 1
  | 0x47 => some 1
  | 0x50 => some 1
  | 0x60 => some 18
  | 0x61 => some 1
  | 0x62 => some 1
  | 0x63 => some 0
  | 0x64 => some 3
  | 0x65 => some 0
  | 0x70 => some 0
  | 0x71 => some 0
  | 0x72 => some 0
  | 0x80 => some 2
  | _ => none

/-- The command that a code and a body of its length spell, taken from port `p`; none where a mode or form byte names
nothing (R31, R69, R126, R176). -/
def commandOf (p : Port) (code : Nat) (b : List Byte) : Option Instr :=
  match code with
  | 0x00 => some (.nop p)
  | 0x01 => some (.identify p)
  | 0x02 => some (.getAlerts p)
  | 0x03 => some (.setAlertMask p (numAt b 0 1))
  | 0x0F => some (.masterClear p)
  | 0x10 => some (.setChannel p (numAt b 0 1) (readParams (b.drop 1)))
  | 0x11 => some (.getChannel p (numAt b 0 1) (numAt b 1 1))
  | 0x12 =>
    match numAt b 1 1 with
    | 0 => some (.linkChannelFollow p (numAt b 0 1) (numAt b 2 4))
    | 1 => some (.linkChannelUnlink p (numAt b 0 1))
    | _ => none
  | 0x20 => some (.beginTable p (numAt b 0 1))
  | 0x21 => some (.writeTableChunk p (numAt b 0 1) (numAt b 1 1) (readEntries 32 (b.drop 2)))
  | 0x22 => some (.commitTable p (numAt b 0 1))
  | 0x23 => some (.discardTable p (numAt b 0 1))
  | 0x24 => some (.readTableChunk p (numAt b 0 1) (numAt b 1 1))
  | 0x25 => some (.getTableState p (numAt b 0 1))
  | 0x26 => some (.writeOverlaySet p (numAt b 0 1) (numAt b 1 1) (readSlots 6 (b.drop 2)))
  | 0x27 => some (.readOverlaySet p (numAt b 0 1))
  | 0x30 => some (.writeStep p (numAt b 0 1) (readStepBody (b.drop 1)))
  | 0x31 => some (.readStep p (numAt b 0 1))
  | 0x32 => some (.clearStep p (numAt b 0 1))
  | 0x33 =>
    match numAt b 1 1 with
    | 0 => some (.writeProgramDefine p (numAt b 0 1) (numAt b 2 1) (numAt b 3 2) (numAt b 5 1))
    | 1 => some (.writeProgramUndefine p (numAt b 0 1))
    | _ => none
  | 0x34 => some (.readProgram p (numAt b 0 1))
  | 0x40 => some (.start p (numAt b 0 1) (numAt b 1 1))
  | 0x41 => some (.hold p (numAt b 0 1))
  | 0x42 => some (.resume p (numAt b 0 1))
  | 0x43 => some (.release p (numAt b 0 1))
  | 0x44 => some (.abort p (numAt b 0 1))
  | 0x45 => some (.getLane p (numAt b 0 1))
  | 0x46 => some (.setHoldKey p (numAt b 0 1))
  | 0x47 => some (.clearHoldKey p (numAt b 0 1))
  | 0x50 => some (.getMeasurement p (numAt b 0 1))
  | 0x60 =>
    match numAt b 1 1 with
    | 0 => some (.writeDescriptorDefine p (numAt b 0 1) (readDescriptorBody (b.drop 2)))
    | 1 => some (.writeDescriptorUndefine p (numAt b 0 1))
    | _ => none
  | 0x61 => some (.readDescriptor p (numAt b 0 1))
  | 0x62 => some (.startCapture p (numAt b 0 1))
  | 0x63 => some (.stopCapture p)
  | 0x64 => some (.readCapture p (numAt b 0 2) (numAt b 2 1))
  | 0x65 => some (.getCapture p)
  | 0x70 => some (.trip p)
  | 0x71 => some (.restart p)
  | 0x72 => some (.getTrip p)
  | 0x80 => some (.getLink p (numAt b 0 1) (numAt b 1 1))
  | _ => none

/-! ### The judgement of a frame (R171) and its taking (R174) -/

/-- The checks of R171 on the kept bytes and the byte count: the reason (SHORT 0, UNKNOWN_CODE 1, LENGTH 2), or the code
and the body. -/
def judgeFrame (frame : List Byte) (count : Nat) : Except Nat (Nat × List Byte) :=
  if count < 2 then .error 0
  else
    match commandLength (frame.getD 0 0#8).toNat with
    | none => .error 1
    | some k =>
      if (frame.getD 1 0#8).toNat ≠ k then .error 2
      else if count < k + 2 then .error 0
      else .ok ((frame.getD 0 0#8).toNat, (frame.drop 2).take k)

/-- The FRAME_ERROR response: the code echo, the reason, and the byte count saturating at 255 (R171). -/
def frameErrorResponse (frame : List Byte) (count reason : Nat) : Response :=
  ⟨.frameError, frame.getD 0 0#8, byteItem reason ++ byteItem (min count 255)⟩

/-- A command taken by the block that owns it (R174): the meaning of its row. -/
def takeCommand (i : Instr) (s : State) : Host.Outcome State Fault Refusal :=
  match i with
  | .nop p => execNop p s
  | .identify p => execIdentify p s
  | .getAlerts p => execGetAlerts p s
  | .setAlertMask p mask => execSetAlertMask p mask s
  | .masterClear p => execMasterClear p s
  | .setChannel p ch r => execSetChannel p ch r s
  | .getChannel p ch clear => execGetChannel p ch clear s
  | .linkChannelFollow p ch offset => execLinkChannelFollow p ch offset s
  | .linkChannelUnlink p ch => execLinkChannelUnlink p ch s
  | .beginTable p t => execBeginTable p t s
  | .writeTableChunk p t chunk entries => execWriteTableChunk p t chunk entries s
  | .commitTable p t => execCommitTable p t s
  | .discardTable p t => execDiscardTable p t s
  | .readTableChunk p t chunk => execReadTableChunk p t chunk s
  | .getTableState p t => execGetTableState p t s
  | .writeOverlaySet p n count slots => execWriteOverlaySet p n count slots s
  | .readOverlaySet p n => execReadOverlaySet p n s
  | .writeStep p n r => execWriteStep p n r s
  | .readStep p n => execReadStep p n s
  | .clearStep p n => execClearStep p n s
  | .writeProgramDefine p n first count policy => execWriteProgramDefine p n first count policy s
  | .writeProgramUndefine p n => execWriteProgramUndefine p n s
  | .readProgram p n => execReadProgram p n s
  | .start p program channels => execStart p program channels s
  | .hold p lane => execHold p lane s
  | .resume p lane => execResume p lane s
  | .release p lane => execRelease p lane s
  | .abort p lane => execAbort p lane s
  | .getLane p lane => execGetLane p lane s
  | .setHoldKey p key => execSetHoldKey p key s
  | .clearHoldKey p key => execClearHoldKey p key s
  | .getMeasurement p ch => execGetMeasurement p ch s
  | .writeDescriptorDefine p d r => execWriteDescriptorDefine p d r s
  | .writeDescriptorUndefine p d => execWriteDescriptorUndefine p d s
  | .readDescriptor p d => execReadDescriptor p d s
  | .startCapture p d => execStartCapture p d s
  | .stopCapture p => execStopCapture p s
  | .readCapture p address count => execReadCapture p address count s
  | .getCapture p => execGetCapture p s
  | .trip p => execTrip p s
  | .restart p => execRestart p s
  | .getTrip p => execGetTrip p s
  | .getLink p link clear => execGetLink p link clear s
  | .resetNAssertion _ => .next s
  | .sampleEvent _ => .next s
  | .levelRampEnd _ _ => .next s
  | .frequencyRampEnd _ _ => .next s
  | .linkLost _ _ => .next s
  | .linkRecovered _ _ => .next s
  | .statusFrame _ _ _ => .next s
  | .truncated _ _ => .next s
  | .markerPulseEnd _ _ => .next s
  | .dwellEnd _ _ => .next s
  | .waitMet _ _ => .next s
  | .waitTimeout _ _ => .next s
  | .decimationPass _ => .next s
  | .capturePassFull _ => .next s
  | .tripNAsserted => .next s
  | .tripNReleased => .next s
  | .spiSelect _ => .next s
  | .frameError _ => .next s
  | .spiByteCompleted _ _ => .next s

/-- FRAME_ERROR: the deselect of port `p`, which judges what it received. A frame that fails R171 leaves the FRAME_ERROR
response and nothing else; a frame that passes is taken as its command's row (R171, R172, R174; log 2). A port that is
deselected has no select line to rise. -/
def execFrameError (p : Port) (s : State) : Host.Outcome State Fault Refusal :=
  let x := s.ports.get p
  if x.receiving then
    match judgeFrame x.frame x.count with
    | .error reason => .next (s.hold p (frameErrorResponse x.frame x.count reason))
    | .ok (code, body) =>
      match commandOf p code body with
      | some i => takeCommand i s
      | none => .next (State.answer p code (s, Reply.refuse .badArgument))
  else .next s

end Sys2Proof.Machine
end

