-- ==== Sys2Proof/Machine/LaneWork.lean ====
section
/-! DEFINITION. The scratch record of one sample event, and a lane's work within it: alignment, application, dwell,
wait, the finishing of a step and the reverts of a CLOSING lane (R85 to R95, R100). -/

namespace Sys2Proof.Machine

/-- What the table lists as a row of its own and comes about inside a sample event. -/
inductive TickEvent where
  | levelRampEnd (c : Channel)
  | frequencyRampEnd (c : Channel)
  | linkLost (k : Channel)
  | linkRecovered (k : Channel)
  | truncated (c : Channel)
  | markerPulseEnd (m : MarkerLine)
  | dwellEnd (l : LaneId)
  | waitMet (l : LaneId)
  | waitTimeout (l : LaneId)
  | decimationPass
  | capturePassFull
  deriving DecidableEq, Repr

/-- The scratch record of one sample event. -/
structure Tick where
  st : State
  /-- The advances made so far (R4). -/
  adv : PerChannel (Option Advance)
  /-- The delivered verdicts (R165); none at the first sample event after a reset. -/
  verdict : PerChannel (Option Delivered)
  /-- The measurements closed at this sample event (R121). -/
  closed : PerChannel (Option Measurement)
  /-- L1's phase jump of this sample event (R10). -/
  jump1 : Phase
  /-- The channels whose level or frequency part was applied in stage 2 of this sample event (R4, stage 3). -/
  freshLevel : ChannelSet
  freshFreq : ChannelSet
  /-- The capture starts asked for, in ascending lane number (R131). -/
  starts : List (LaneId × Port × Nat)
  /-- The marker lines on which an action other than NONE was taken (R107). -/
  acted1 : Bool
  acted2 : Bool
  /-- The codes and parked flags handed off (R24). -/
  handed : PerChannel (Int × Bool)
  events : List TickEvent
  deriving DecidableEq, Repr

/-- The scratch record as a sample event begins. -/
def Tick.begin (s : State) : Tick :=
  { st := s, adv := PerChannel.all none, verdict := PerChannel.all none, closed := PerChannel.all none, jump1 := 0#32,
    freshLevel := PerChannel.all false, freshFreq := PerChannel.all false, starts := [], acted1 := false,
    acted2 := false, handed := PerChannel.all (0, true), events := [] }

/-- An event added. -/
def Tick.happens (t : Tick) (e : TickEvent) : Tick := { t with events := e :: t.events }

/-- The state within the scratch record replaced. -/
def Tick.withState (t : Tick) (s : State) : Tick := { t with st := s }

/-- The lane record replaced. -/
def Tick.setLane (t : Tick) (l : LaneId) (x : Lane) : Tick := t.withState (t.st.setLane l x)

/-- Channel `c`'s advance of this sample event wraps (R27). -/
def Tick.wraps (t : Tick) (c : Channel) : Bool := (t.adv.get c).any Advance.wraps

/-- Channel `c`'s advance of this sample event crosses a threshold (R26). -/
def Tick.crosses (t : Tick) (c : Channel) (th : Phase) : Bool := (t.adv.get c).any (fun a => a.crosses th)

/-! ### Application (R88) -/

/-- The channels on which level, shape and phase jump act (R60, R88). -/
def reached (step : StepRecord) (x : Lane) : ChannelSet :=
  if noChannels step.mask then x.channels else bothChannels step.mask x.channels

/-- A step's level, shape and frequency parts taken by channel `c` (R12, R14, R88). -/
def Tick.applyParts (t : Tick) (step : StepRecord) (x : Lane) (c : Channel) : Tick :=
  let y := t.st.chans.get c
  let level := if (reached step x).get c then step.level else none
  let shape := if (reached step x).get c then step.shape else none
  let freq := if x.channels.get c && y.link.isNone then step.freq else none
  let y := (level.map y.applyLevel).getD y
  let y := (shape.map y.applyShape).getD y
  let y := (freq.map y.applyFreq).getD y
  { t with st := t.st.setChan c y
           freshLevel := t.freshLevel.set c (t.freshLevel.get c || level.isSome)
           freshFreq := t.freshFreq.set c (t.freshFreq.get c || freq.isSome) }

/-- L1's jump carried to a follower's P, when the follower has advanced already; one that has not takes it with its
stage 1 (R10). -/
def Tick.carryJump (t : Tick) (j : Phase) (c : Channel) : Tick :=
  let y := t.st.chans.get c
  if y.link.isSome && (t.adv.get c).isSome then t.withState (t.st.setChan c (y.jump j)) else t

/-- A phase jump taken by channel `c` (R10). -/
def Tick.jump (t : Tick) (j : Phase) (c : Channel) : Tick :=
  match c with
  | .L1 =>
    let t := t.withState (t.st.setChan .L1 (t.st.chans.l1.jump j))
    (({ t with jump1 := t.jump1 + j }).carryJump j .L2).carryJump j .L3
  | .L2 => t.withState (t.st.setChan .L2 ((t.st.chans.l2.jump j).jumpOffset j))
  | .L3 => t.withState (t.st.setChan .L3 ((t.st.chans.l3.jump j).jumpOffset j))

/-- A step's phase jump taken by the channels it reaches (R10, R88). -/
def Tick.applyJump (t : Tick) (step : StepRecord) (x : Lane) : Tick :=
  match step.jump with
  | none => t
  | some p =>
    let m := reached step x
    let j := BitVec.ofInt 32 p.word
    let t := if m.l1 then t.jump j .L1 else t
    let t := if m.l2 then t.jump j .L2 else t
    if m.l3 then t.jump j .L3 else t

/-- A marker line after an action (R107). -/
def Marker.act (x : Marker) : MarkerAction → Marker
  | .none => x
  | .set => ⟨true, false⟩
  | .clear => ⟨false, false⟩
  | .pulse => ⟨true, true⟩

/-- A step's marker actions (R107). -/
def Tick.applyMarkers (t : Tick) (step : StepRecord) : Tick :=
  match step.markers with
  | none => t
  | some p =>
    { t with st := (t.st.setMarker .M1 (t.st.marker1.act p.m1)).setMarker .M2 (t.st.marker2.act p.m2)
             acted1 := t.acted1 || p.m1 != .none, acted2 := t.acted2 || p.m2 != .none }

/-- A step's capture start asked for, with the lane's originating port (R89). -/
def Tick.applyCapture (t : Tick) (step : StepRecord) (l : LaneId) (x : Lane) : Tick :=
  match step.capture, x.origin with
  | some d, some p => { t with starts := t.starts ++ [(l, p, d)] }
  | _, _ => t

/-- The current step of lane `l`, whose record is `x`, applied: its fields reach their targets and the lane goes DWELL
(R88). -/
def Tick.applyStep (t : Tick) (l : LaneId) (x : Lane) (step : StepRecord) : Tick :=
  let t := ((t.applyParts step x .L1).applyParts step x .L2).applyParts step x .L3
  let t := ((t.applyJump step x).applyMarkers step).applyCapture step l x
  t.setLane l { x with state := .dwell, dwell := some step.duration }

/-! ### Entry, alignment and finishing within a sample event (R86, R87, R94, R95) -/

/-- The application point of a step falls at this sample event (R86, R87): no sync angle, or its threshold crossed by
the reference channel's advance. -/
def Tick.due (t : Tick) (x : Lane) (step : StepRecord) : Bool :=
  match step.sync with
  | none => true
  | some p => t.crosses (lowest x.channels) p.threshold

/-- Applied when due, ALIGNING otherwise (R86, R87). -/
def Tick.align (t : Tick) (l : LaneId) (x : Lane) (step : StepRecord) : Tick :=
  if t.due x step then t.applyStep l x step else t.setLane l { x with state := .aligning }

/-- Lane record `x`, of lane `l`, enters position `pos` within the sample event (R86). -/
def Tick.enter (t : Tick) (l : LaneId) (x : Lane) (pos : Nat) (push : Bool) : Tick :=
  match t.st.stepAt x pos with
  | none => t
  | some step =>
    let y := x.atStep pos push step
    match t.st.holdAt step with
    | some r => t.withState (t.st.holdLane l y r .entry)
    | none => t.align l y step

/-- The program has ended COMPLETED: IDLE under KEEP, CLOSING under RESTORE (R95, R99, R100). -/
def Tick.complete (t : Tick) (l : LaneId) (x : Lane) (policy : ExitPolicy) : Tick :=
  match policy with
  | .keep =>
    let y := { x with ending := x.ending.close .completed (x.position.getD 0) }
    t.withState ((t.st.setLane l y).goIdle l)
  | .restore => t.setLane l (x.toClosing .completed)

/-- Lane `l`, whose record is `x`, finishes its current step: the group-close processing, then the step looped back to,
the next position, or the end of the program (R94, R95). -/
def Tick.finish (t : Tick) (l : LaneId) (x : Lane) (step : StepRecord) : Tick :=
  match closeGroups (step.groupClose.getD 0) x.stack.reverse x.releasePending, x.position, t.st.programOf x with
  | (back, stack, release), some pos, some q =>
    let y := { x with stack := stack.reverse, releasePending := release }
    match back with
    | some opening => t.enter l y opening false
    | none => if pos + 1 < q.count then t.enter l y (pos + 1) true else t.complete l y q.policy
  | _, _, _ => t

/-! ### Dwell and wait (R90 to R93) -/

/-- The duration has ended (R91): the dwell remaining is none from here on (log 11). -/
def Tick.dwellDone (t : Tick) (l : LaneId) (x : Lane) (step : StepRecord) : Tick :=
  let t := t.happens (.dwellEnd l)
  let y := { x with dwell := none }
  match step.wait with
  | some w => t.setLane l { y with state := .waiting, consecutive := 0, timeout := w.timeout }
  | none => t.finish l y step

/-- A lane in DWELL (R90). -/
def Tick.dwellWork (t : Tick) (l : LaneId) (x : Lane) (step : StepRecord) : Tick :=
  match x.dwell with
  | none => t
  | some d =>
    let counts := match d.unit with
      | .samples => true
      | .cycles => t.wraps (lowest x.channels)
    if !counts then t
    else if d.count ≤ 1 then t.dwellDone l x step
    else t.setLane l { x with dwell := some { d with count := d.count - 1 } }

/-- The value a wait compares (R92). -/
def Measurement.rms (m : Measurement) : Quantity → Nat
  | .V => m.rmsV
  | .I => m.rmsI

/-- A measurement meets a wait's relation, strictly (R92). -/
def WaitPart.metBy (w : WaitPart) (m : Measurement) : Bool :=
  match w.relation with
  | .below => decide (m.rms w.quantity < w.threshold)
  | .above => decide (w.threshold < m.rms w.quantity)

/-- The consecutive count after a closed measurement, or as it stands without one or with an INCOMPLETE one; and
whether the wait is met (R92). -/
def WaitPart.count (w : WaitPart) (consecutive : Nat) (m : Option Measurement) : Nat × Bool :=
  match m with
  | none => (consecutive, false)
  | some m =>
    if m.incomplete then (consecutive, false)
    else if w.metBy m then (consecutive + 1, decide (w.consecutive ≤ consecutive + 1))
    else (0, false)

/-- The wait has timed out (R93). -/
def Tick.timedOut (t : Tick) (l : LaneId) (x : Lane) (step : StepRecord) (w : WaitPart) : Tick :=
  let t := t.happens (.waitTimeout l)
  match w.onTimeout with
  | .continue_ => t.finish l { x with ending := { x.ending with timeouts := bump x.ending.timeouts } } step
  | .abort => t.setLane l (x.toClosing .waitTimeout)

/-- The count of the timeout, when a reference wrap falls (R93). -/
def Tick.timeoutWork (t : Tick) (l : LaneId) (x : Lane) (step : StepRecord) (w : WaitPart) : Tick :=
  if decide (0 < x.timeout) && t.wraps (lowest x.channels) then
    let y := { x with timeout := x.timeout - 1 }
    if y.timeout = 0 then t.timedOut l y step w else t.setLane l y
  else t.setLane l x

/-- A lane in WAITING: the measurement first, then the timeout (R85, R92, R93). -/
def Tick.waitWork (t : Tick) (l : LaneId) (x : Lane) (step : StepRecord) : Tick :=
  match step.wait with
  | none => t
  | some w =>
    let r := w.count x.consecutive (t.closed.get w.channel)
    let y := { x with consecutive := r.1 }
    if r.2 then (t.happens (.waitMet l)).finish l y step else t.timeoutWork l y step w

/-! ### CLOSING (R42, R100) -/

/-- Channel `c` of a CLOSING lane reverts at this sample event (R42). -/
def Tick.revertsNow (t : Tick) (x : Lane) (c : Channel) : Bool :=
  x.channels.get c && !x.reverted.get c && t.wraps c

/-- The reverts of a CLOSING lane at this sample event, and its return to IDLE after the last (R42, R100). -/
def Tick.closingWork (t : Tick) (l : LaneId) (x : Lane) : Tick :=
  let f (s : State) (c : Channel) : State := if t.revertsNow x c then s.revert x c else s
  let g (c : Channel) : Bool := x.reverted.get c || t.revertsNow x c
  let s := f (f (f t.st .L1) .L2) .L3
  let y := { x with reverted := ⟨g .L1, g .L2, g .L3⟩ }
  let s := s.setLane l y
  t.withState (if y.reverted = y.channels then s.goIdle l else s)

/-! ### A lane's work at one sample event (R85) -/

/-- The current step of a lane. -/
def State.currentStep (s : State) (x : Lane) : Option StepRecord := x.position.bind (s.stepAt x)

/-- The work of lane `l` (R85). -/
def Tick.laneWork (t : Tick) (l : LaneId) : Tick :=
  let x := t.st.lanes.get l
  match x.state, t.st.currentStep x with
  | .aligning, some step => t.align l x step
  | .dwell, some step => t.dwellWork l x step
  | .waiting, some step => t.waitWork l x step
  | .closing, _ => t.closingWork l x
  | _, _ => t

end Sys2Proof.Machine
end

