-- ==== Sys2Proof/Machine/Tick.lean ====
section
/-! DEFINITION. The sample event (R4): the links' verdicts, the trip unit's sources, the channels' five stages with the
lanes' and the sense unit's work, the setpoint frames and the capture engine's offer; and the commands that are a sample
event. -/

namespace Sys2Proof.Machine

/-! ### The links' work for the verdict of the sample event before (R162) -/

/-- The verdict of link `k` taken: its record, the delivered verdict, and the changes of health that the table lists
(R162, R163). -/
def Tick.takeVerdict (t : Tick) (k : Channel) : Tick :=
  let x := { t.st.links.get k with waiting := false }
  let y := x.verdict
  let t := { t with st := t.st.setLink k y.1, verdict := t.verdict.set k y.2 }
  if x.health = .good ∧ y.1.health = .lost then t.happens (.linkLost k)
  else if x.health = .lost ∧ y.1.health = .good then t.happens (.linkRecovered k)
  else t

/-- Link `k` holds a source active that the trip unit does not hold yet (R145, R147). -/
def State.newSource (s : State) (k : Channel) : Bool :=
  ((s.links.get k).health == .lost && !s.trip.active.loss.get k)
  || ((s.links.get k).fault && !s.trip.active.fault.get k)

/-- The trip unit takes the sources of link `k` as its verdict left them (R145 to R147). -/
def State.takeLink (s : State) (k : Channel) : State :=
  let x := s.links.get k
  (s.takeSource (.linkLoss k) (x.health == .lost)).takeSource (.linkFault k) x.fault

/-- The links in an order. -/
def linksInOrder : LinkOrder → Channel × Channel × Channel
  | .o123 => (.L1, .L2, .L3)
  | .o132 => (.L1, .L3, .L2)
  | .o213 => (.L2, .L1, .L3)
  | .o231 => (.L2, .L3, .L1)
  | .o312 => (.L3, .L1, .L2)
  | .o321 => (.L3, .L2, .L1)

/-- The trip unit takes the sources of the three links in an order (R147, R155). -/
def State.takeLinks (s : State) (o : LinkOrder) : State :=
  ((s.takeLink (linksInOrder o).1).takeLink (linksInOrder o).2.1).takeLink (linksInOrder o).2.2

/-! ### A channel's stages (R4) -/

/-- Stage 1: the advance of channel `c`, by its F or from L1's (R6, R7). A follower whose leader has already jumped in
this sample event takes the jump with it (R10). -/
def Tick.advance (t : Tick) (c : Channel) : Tick :=
  let x := t.st.chans.get c
  match (if c = .L1 then none else x.link) with
  | none =>
    let after := x.phase + BitVec.ofInt 32 x.active.word
    { t with st := t.st.setChan c { x with phase := after }, adv := t.adv.set c (some ⟨x.phase, after⟩) }
  | some offset =>
    let leader := match t.adv.l1 with
      | some a => a.after
      | none => t.st.chans.l1.phase
    { t with st := t.st.setChan c { x with phase := leader + offset + t.jump1 }
             adv := t.adv.set c (some ⟨x.phase, leader + offset⟩) }

/-- The sense unit's work for channel `c` (R114). -/
def Tick.senseWork (t : Tick) (c : Channel) : Tick :=
  match t.adv.get c with
  | none => t
  | some a =>
    let r := (t.st.sense.get c).work (t.verdict.get c) a
    let t := { t with st := t.st.setSense c r.1, closed := t.closed.set c r.2 }
    if r.2.any (fun m => m.truncated) then t.happens (.truncated c) else t

/-- Stage 2, first change: a pending staged set promoted at the channel's wrap (R38). -/
def Tick.promote (t : Tick) (c : Channel) : Tick :=
  let x := t.st.chans.get c
  match x.staged with
  | some q => if t.wraps c then t.withState (t.st.setChan c { x.takeSet q with staged := none }) else t
  | none => t

/-- The trip unit takes channel `c`'s wrap: UNPARKING becomes DRIVING (R148, R149). -/
def Tick.unpark (t : Tick) (c : Channel) : Tick :=
  if t.wraps c ∧ t.st.trip.outputs.get c = .unparking then
    t.withState (t.st.setTrip { t.st.trip with outputs := t.st.trip.outputs.set c .driving })
  else t

/-- Stage 1 and what stands on the advance alone, before the lanes. -/
def Tick.opening (t : Tick) (c : Channel) : Tick := (((t.advance c).senseWork c).promote c).unpark c

/-- Stage 3: the ramps that stage 2 did not make present (R13, R14). -/
def Tick.ramps (t : Tick) (c : Channel) : Tick :=
  let x := t.st.chans.get c
  let stepsLevel := !t.freshLevel.get c
  let stepsFreq := !t.freshFreq.get c
  let y := if stepsLevel then x.stepLevel else x
  let y := if stepsFreq then y.stepFreq else y
  let t' := t.withState (t.st.setChan c y)
  let t' := if stepsLevel && x.levelRamp.any (fun r => decide (r.remaining ≤ 1)) then t'.happens (.levelRampEnd c) else t'
  if stepsFreq && x.freqRamp.any (fun r => decide (r.remaining ≤ 1)) then t'.happens (.frequencyRampEnd c) else t'

/-- A clip counted, and CLIPPING raised to both ports when the counter leaves 0 (R22). -/
def State.countClip (s : State) (c : Channel) : State :=
  let x := s.chans.get c
  let t := s.setChan c { x with clip := bump x.clip }
  if x.clip = 0 then t.alertBoth (.clipping c) else t

/-- What a channel hands off by its output state (R24). -/
def handOff (o : OutputState) (code : Int) : Int × Bool :=
  match o with
  | .driving => (code, false)
  | .parked => (0, true)
  | .unparking => (0, true)

/-- Stages 4 and 5: compute, clamp, count, hand off (R16 to R24). -/
def Tick.emit (t : Tick) (c : Channel) : Tick :=
  let y := t.st.compute (t.st.chans.get c)
  let t := if clampCode y = y then t else t.withState (t.st.countClip c)
  { t with handed := t.handed.set c (handOff (t.st.trip.outputs.get c) (clampCode y)) }

/-- Stages 3 to 5. -/
def Tick.ending (t : Tick) (c : Channel) : Tick := (t.ramps c).emit c

/-- A piece of work done for channel `c` when it is in the group `g`. -/
def Tick.when (t : Tick) (g : ChannelSet) (work : Tick → Channel → Tick) (c : Channel) : Tick :=
  if g.get c then work t c else t

/-- A piece of work done for the channels of the group `g`, L1 first, which the followers read (R7). -/
def Tick.forChannels (t : Tick) (g : ChannelSet) (work : Tick → Channel → Tick) : Tick :=
  ((t.when g work .L1).when g work .L2).when g work .L3

/-- The work of lane `l` when its reference channel is in the group `g`. -/
def Tick.laneIn (t : Tick) (g : ChannelSet) (l : LaneId) : Tick :=
  if g.get (lowest (t.st.lanes.get l).channels) then t.laneWork l else t

/-- The sample event of the channels of the group `g`, with the sense unit's work and the lanes over them. -/
def Tick.work (t : Tick) (g : ChannelSet) : Tick :=
  let t := t.forChannels g Tick.opening
  let t := ((t.laneIn g .lane0).laneIn g .lane1).laneIn g .lane2
  t.forChannels g Tick.ending

/-! ### The order of an entry and the channels' work (R103, R155; log 4) -/

/-- The channels that work together with `c`: those of its lane, or itself alone. -/
def State.mates (s : State) (c : Channel) : ChannelSet :=
  match s.boundTo c with
  | some l => (s.lanes.get l).channels
  | none => (PerChannel.all false).set c true

/-- Channel `c` does its work before an entry to TRIPPED of this sample event: it, its lane's channels, and L1 with its
lane's channels when one of them follows L1, are all asked for. -/
def State.worksFirst (s : State) (mask : ChannelSet) (c : Channel) : Bool :=
  let m := s.mates c
  let follows := (m.l2 && s.chans.l2.link.isSome) || (m.l3 && s.chans.l3.link.isSome)
  channelsWithin m mask && (!follows || channelsWithin (s.mates .L1) mask)

/-- The channels whose work comes before the links' sources are taken: all of them when no entry is due. -/
def State.firstGroup (s : State) (mask : ChannelSet) : ChannelSet :=
  if s.trip.state = .normal ∧ (s.newSource .L1 || s.newSource .L2 || s.newSource .L3) = true then
    ⟨s.worksFirst mask .L1, s.worksFirst mask .L2, s.worksFirst mask .L3⟩
  else PerChannel.all true

/-- The other channels. -/
def otherChannels (g : ChannelSet) : ChannelSet := ⟨!g.l1, !g.l2, !g.l3⟩

/-! ### Frames, markers and capture -/

/-- The frame of link `k` had started before the entry of this sample event (R160, R166). -/
def startedFirst (entered : Bool) (o : TickOrder) (g : ChannelSet) (fresh : ChannelSet) (k : Channel) : Bool :=
  entered && o.started.get k && g.get k && !fresh.get k

/-- The setpoint frame of link `k`: parked when the channel's output state is PARKED as the frame starts, as handed off
otherwise (R160). -/
def Tick.sendFrame (t : Tick) (k : Channel) (started waits : Bool) : Tick :=
  let h := if !started && t.st.trip.outputs.get k == .parked then (0, true) else t.handed.get k
  t.withState (t.st.setLink k ((t.st.links.get k).send h.1 h.2 (waits && !started)))

/-- The end of a pulse on a marker line on which no action other than NONE was taken (R107). -/
def Tick.endPulse (t : Tick) (m : MarkerLine) (acted : Bool) : Tick :=
  if (t.st.marker m).pulse && !acted then
    (t.withState (t.st.setMarker m ⟨false, false⟩)).happens (.markerPulseEnd m)
  else t

/-- What a descriptor's source offers at this sample event (R128). -/
def Tick.offerOf (t : Tick) (x : Descriptor) : Option Offer :=
  match x.source with
  | .setpoint => some (.value (t.handed.get x.channel).1)
  | .senseV =>
    (t.verdict.get x.channel).map (fun d => match d with
      | .received v _ _ => .value v
      | .missing => .gap)
  | .senseI =>
    (t.verdict.get x.channel).map (fun d => match d with
      | .received _ i _ => .value i
      | .missing => .gap)
  | .rmsV => (t.closed.get x.channel).map (fun m => .value m.rmsV)
  | .rmsI => (t.closed.get x.channel).map (fun m => .value m.rmsI)

/-- The offer of this sample event taken by a run that was in progress as the sample event began (R132, R133). -/
def Tick.offerWork (t : Tick) (inProgress : Bool) : Tick :=
  match inProgress, t.st.engine.current with
  | true, some d =>
    match Store.get t.st.descs d with
    | some x =>
      match t.offerOf x with
      | some o =>
        let r := t.st.takeOffer d x o
        let t := t.withState r.st
        let t := if r.passed then t.happens .decimationPass else t
        if r.full then t.happens .capturePassFull else t
      | none => t
    | none => t
  | _, _ => t

/-- The lanes' capture starts taken by the engine (R131). -/
def Tick.takeStarts (t : Tick) (l : List (LaneId × Port × Nat)) : Tick :=
  t.withState (l.foldl (fun s e => s.laneStart e.1 e.2.1 e.2.2) t.st)

/-- The capture engine's work: some of the lanes' starts, its offer, the other starts (R131, R142). -/
def Tick.captureWork (t : Tick) (inProgress : Bool) (startsFirst : Nat) : Tick :=
  ((t.takeStarts (t.starts.take startsFirst)).offerWork inProgress).takeStarts (t.starts.drop startsFirst)

/-! ### The whole sample event -/

/-- The state after the links' verdicts, within the scratch record. -/
def Tick.verdicts (s : State) : Tick := ((Tick.begin s).takeVerdict .L1 |>.takeVerdict .L2).takeVerdict .L3

/-- The channels' work with the links' sources taken between the two groups (R103, R155). -/
def Tick.channelWork (t : Tick) (o : TickOrder) (g : ChannelSet) : Tick :=
  let t := t.work g
  let t := t.withState (t.st.takeLinks o.sources)
  t.work (otherChannels g)

/-- The three setpoint frames (R160). -/
def Tick.frames (t : Tick) (o : TickOrder) (started : Channel → Bool) : Tick :=
  ((t.sendFrame .L1 (started .L1) (o.waits.get .L1)).sendFrame .L2 (started .L2) (o.waits.get .L2)).sendFrame .L3
    (started .L3) (o.waits.get .L3)

/-- One sample event (R4). -/
def tick (o : TickOrder) (s : State) : Tick :=
  let t := Tick.verdicts s
  let g := t.st.firstGroup o.before
  let fresh : ChannelSet := ⟨t.st.newSource .L1, t.st.newSource .L2, t.st.newSource .L3⟩
  let t := t.channelWork o g
  let entered := s.trip.state == .normal && t.st.trip.state == .tripped
  let t := t.frames o (startedFirst entered o g fresh)
  let t := (t.endPulse .M1 t.acted1).endPulse .M2 t.acted2
  t.captureWork s.engine.isActive o.startsFirst

/-- The sample event at which `e` comes about; a state in which it does not come about is left as it is (log 3). -/
def tickWhen (e : TickEvent) (o : TickOrder) (s : State) : State :=
  if e ∈ (tick o s).events then (tick o s).st else s

/-- SAMPLE_EVENT (R4). -/
def execSampleEvent (o : TickOrder) (s : State) : Host.Outcome State Fault Refusal := .next (tick o s).st

/-- LEVEL_RAMP_END (R13). -/
def execLevelRampEnd (c : Channel) (o : TickOrder) (s : State) : Host.Outcome State Fault Refusal :=
  .next (tickWhen (.levelRampEnd c) o s)

/-- FREQUENCY_RAMP_END (R14). -/
def execFrequencyRampEnd (c : Channel) (o : TickOrder) (s : State) : Host.Outcome State Fault Refusal :=
  .next (tickWhen (.frequencyRampEnd c) o s)

/-- LINK_LOST (R163). -/
def execLinkLost (k : Channel) (o : TickOrder) (s : State) : Host.Outcome State Fault Refusal :=
  .next (tickWhen (.linkLost k) o s)

/-- LINK_RECOVERED (R163). -/
def execLinkRecovered (k : Channel) (o : TickOrder) (s : State) : Host.Outcome State Fault Refusal :=
  .next (tickWhen (.linkRecovered k) o s)

/-- TRUNCATED (R116). -/
def execTruncated (c : Channel) (o : TickOrder) (s : State) : Host.Outcome State Fault Refusal :=
  .next (tickWhen (.truncated c) o s)

/-- MARKER_PULSE_END (R107). -/
def execMarkerPulseEnd (m : MarkerLine) (o : TickOrder) (s : State) : Host.Outcome State Fault Refusal :=
  .next (tickWhen (.markerPulseEnd m) o s)

/-- DWELL_END (R90). -/
def execDwellEnd (l : LaneId) (o : TickOrder) (s : State) : Host.Outcome State Fault Refusal :=
  .next (tickWhen (.dwellEnd l) o s)

/-- WAIT_MET (R92). -/
def execWaitMet (l : LaneId) (o : TickOrder) (s : State) : Host.Outcome State Fault Refusal :=
  .next (tickWhen (.waitMet l) o s)

/-- WAIT_TIMEOUT (R93). -/
def execWaitTimeout (l : LaneId) (o : TickOrder) (s : State) : Host.Outcome State Fault Refusal :=
  .next (tickWhen (.waitTimeout l) o s)

/-- DECIMATION_PASS (R133). -/
def execDecimationPass (o : TickOrder) (s : State) : Host.Outcome State Fault Refusal :=
  .next (tickWhen .decimationPass o s)

/-- CAPTURE_PASS_FULL (R136). -/
def execCapturePassFull (o : TickOrder) (s : State) : Host.Outcome State Fault Refusal :=
  .next (tickWhen .capturePassFull o s)

end Sys2Proof.Machine
end

