-- ==== Sys2Proof/Machine/Dispatch.lean ====
section
/-! DEFINITION. One arm per command: the call of its meaning. -/

namespace Sys2Proof.Machine

/-- The effect of a command on everything but the queue. -/
def exec (i : Instr) (s : State) : Host.Outcome State Fault Refusal :=
  match i with
  | .resetNAssertion tripNLow => Sys2Proof.Machine.execResetNAssertion tripNLow s
  | .sampleEvent o => Sys2Proof.Machine.execSampleEvent o s
  | .levelRampEnd c o => Sys2Proof.Machine.execLevelRampEnd c o s
  | .frequencyRampEnd c o => Sys2Proof.Machine.execFrequencyRampEnd c o s
  | .linkLost k o => Sys2Proof.Machine.execLinkLost k o s
  | .linkRecovered k o => Sys2Proof.Machine.execLinkRecovered k o s
  | .statusFrame k chars stops => Sys2Proof.Machine.execStatusFrame k chars stops s
  | .truncated c o => Sys2Proof.Machine.execTruncated c o s
  | .markerPulseEnd m o => Sys2Proof.Machine.execMarkerPulseEnd m o s
  | .dwellEnd l o => Sys2Proof.Machine.execDwellEnd l o s
  | .waitMet l o => Sys2Proof.Machine.execWaitMet l o s
  | .waitTimeout l o => Sys2Proof.Machine.execWaitTimeout l o s
  | .decimationPass o => Sys2Proof.Machine.execDecimationPass o s
  | .capturePassFull o => Sys2Proof.Machine.execCapturePassFull o s
  | .tripNAsserted => Sys2Proof.Machine.execTripNAsserted s
  | .tripNReleased => Sys2Proof.Machine.execTripNReleased s
  | .spiSelect p => Sys2Proof.Machine.execSpiSelect p s
  | .frameError p => Sys2Proof.Machine.execFrameError p s
  | .nop p => Sys2Proof.Machine.execNop p s
  | .identify p => Sys2Proof.Machine.execIdentify p s
  | .getAlerts p => Sys2Proof.Machine.execGetAlerts p s
  | .setAlertMask p mask => Sys2Proof.Machine.execSetAlertMask p mask s
  | .masterClear p => Sys2Proof.Machine.execMasterClear p s
  | .setChannel p ch r => Sys2Proof.Machine.execSetChannel p ch r s
  | .getChannel p ch clear => Sys2Proof.Machine.execGetChannel p ch clear s
  | .linkChannelFollow p ch offset => Sys2Proof.Machine.execLinkChannelFollow p ch offset s
  | .linkChannelUnlink p ch => Sys2Proof.Machine.execLinkChannelUnlink p ch s
  | .beginTable p t => Sys2Proof.Machine.execBeginTable p t s
  | .writeTableChunk p t chunk entries => Sys2Proof.Machine.execWriteTableChunk p t chunk entries s
  | .commitTable p t => Sys2Proof.Machine.execCommitTable p t s
  | .discardTable p t => Sys2Proof.Machine.execDiscardTable p t s
  | .readTableChunk p t chunk => Sys2Proof.Machine.execReadTableChunk p t chunk s
  | .getTableState p t => Sys2Proof.Machine.execGetTableState p t s
  | .writeOverlaySet p n count slots => Sys2Proof.Machine.execWriteOverlaySet p n count slots s
  | .readOverlaySet p n => Sys2Proof.Machine.execReadOverlaySet p n s
  | .writeStep p n r => Sys2Proof.Machine.execWriteStep p n r s
  | .readStep p n => Sys2Proof.Machine.execReadStep p n s
  | .clearStep p n => Sys2Proof.Machine.execClearStep p n s
  | .writeProgramDefine p n first count policy => Sys2Proof.Machine.execWriteProgramDefine p n first count policy s
  | .writeProgramUndefine p n => Sys2Proof.Machine.execWriteProgramUndefine p n s
  | .readProgram p n => Sys2Proof.Machine.execReadProgram p n s
  | .start p program channels => Sys2Proof.Machine.execStart p program channels s
  | .hold p lane => Sys2Proof.Machine.execHold p lane s
  | .resume p lane => Sys2Proof.Machine.execResume p lane s
  | .release p lane => Sys2Proof.Machine.execRelease p lane s
  | .abort p lane => Sys2Proof.Machine.execAbort p lane s
  | .getLane p lane => Sys2Proof.Machine.execGetLane p lane s
  | .setHoldKey p key => Sys2Proof.Machine.execSetHoldKey p key s
  | .clearHoldKey p key => Sys2Proof.Machine.execClearHoldKey p key s
  | .getMeasurement p ch => Sys2Proof.Machine.execGetMeasurement p ch s
  | .writeDescriptorDefine p d r => Sys2Proof.Machine.execWriteDescriptorDefine p d r s
  | .writeDescriptorUndefine p d => Sys2Proof.Machine.execWriteDescriptorUndefine p d s
  | .readDescriptor p d => Sys2Proof.Machine.execReadDescriptor p d s
  | .startCapture p d => Sys2Proof.Machine.execStartCapture p d s
  | .stopCapture p => Sys2Proof.Machine.execStopCapture p s
  | .readCapture p address count => Sys2Proof.Machine.execReadCapture p address count s
  | .getCapture p => Sys2Proof.Machine.execGetCapture p s
  | .trip p => Sys2Proof.Machine.execTrip p s
  | .restart p => Sys2Proof.Machine.execRestart p s
  | .getTrip p => Sys2Proof.Machine.execGetTrip p s
  | .getLink p link clear => Sys2Proof.Machine.execGetLink p link clear s
  | .spiByteCompleted p b => Sys2Proof.Machine.execSpiByteCompleted p b s

end Sys2Proof.Machine
end

