-- ==== Sys2Proof/Safety.lean ====
section
/-! DEFINITION. What the rules say holds in every state that a run reaches: the invariants that the statements name, and
the conditions of a sample event that they take as premises. -/

namespace Sys2Proof.Machine

/-! ### Forms that the statements use -/

/-- The state with a response to a command of code `code` left in the holder of port `p` (R172). -/
def State.answered (s : State) (p : Port) (code : Nat) (st : StatusCode) (body : List Byte) : State :=
  s.hold p ⟨st, BitVec.ofNat 8 code, body⟩

/-- The library, the store, the directory, the keys, the markers, the sense unit, the capture engine and the queue stand
as they were. -/
def State.restKept (s t : State) : Prop :=
  t.tables = s.tables ∧ t.wave = s.wave ∧ t.overlays = s.overlays ∧ t.steps = s.steps ∧ t.programs = s.programs
  ∧ t.key1 = s.key1 ∧ t.key2 = s.key2 ∧ t.marker1 = s.marker1 ∧ t.marker2 = s.marker2 ∧ t.sense = s.sense
  ∧ t.descs = s.descs ∧ t.comps = s.comps ∧ t.engine = s.engine ∧ t.mem = s.mem ∧ t.pending = s.pending

/-- The port records of `t` are those of `s` but for the alerts of an entry to TRIPPED: TRIP in both pending sets, and
LANE_ENDED with its lanes in the sets of the ports that had started them (R146, R103, R156, R178). -/
def State.entryAlerted (s t : State) : Prop :=
  ∀ q : Port, ∃ (laneEnded : Bool) (lanes : LaneSet),
    t.ports.get q = { s.ports.get q with alerts := { (s.ports.get q).alerts with
        kinds := { (s.ports.get q).alerts.kinds with trip := true, laneEnded := laneEnded }, ended := lanes } }
    ∧ (laneEnded = true ↔ (s.ports.get q).alerts.kinds.laneEnded = true
        ∨ ∃ l : LaneId, (s.lanes.get l).state ≠ .idle ∧ (s.lanes.get l).origin = some q)
    ∧ (∀ l : LaneId, lanes.get l = true ↔ (s.ports.get q).alerts.ended.get l = true
        ∨ ((s.lanes.get l).state ≠ .idle ∧ (s.lanes.get l).origin = some q))

/-- What no sample event changes: the library, the store, the directory, the descriptors, the keys and the queue. -/
def State.tickKept (s t : State) : Prop :=
  t.tables = s.tables ∧ t.wave = s.wave ∧ t.overlays = s.overlays ∧ t.steps = s.steps ∧ t.programs = s.programs
  ∧ t.descs = s.descs ∧ t.key1 = s.key1 ∧ t.key2 = s.key2 ∧ t.pending = s.pending

/-! ### Conditions of a sample event -/

/-- The advance that channel `c` makes at a sample event before which no lane is ended: by its own F, or derived from
L1's advance and the link offset (R6, R7). -/
def State.advanceOf (s : State) (c : Channel) : Advance :=
  let lead := s.chans.l1.phase + BitVec.ofInt 32 s.chans.l1.active.word
  match c, (s.chans.get c).link with
  | .L1, _ => ⟨s.chans.l1.phase, lead⟩
  | .L2, some offset => ⟨s.chans.l2.phase, lead + offset⟩
  | .L3, some offset => ⟨s.chans.l3.phase, lead + offset⟩
  | .L2, none => ⟨s.chans.l2.phase, s.chans.l2.phase + BitVec.ofInt 32 s.chans.l2.active.word⟩
  | .L3, none => ⟨s.chans.l3.phase, s.chans.l3.phase + BitVec.ofInt 32 s.chans.l3.active.word⟩

/-- The link as its verdict at the next sample event leaves it (R162). -/
def State.afterVerdict (s : State) (k : Channel) : Link := (s.links.get k).verdict.1

/-- No link's verdict makes the trip unit enter TRIPPED at the next sample event (R145, R146). -/
def State.noEntryDue (s : State) : Prop :=
  s.trip.state = .tripped ∨ ∀ k : Channel,
    ((s.afterVerdict k).health = .lost → s.trip.active.loss.get k = true)
    ∧ ((s.afterVerdict k).fault = true → s.trip.active.fault.get k = true)

/-- Every lane is IDLE. -/
def State.lanesIdle (s : State) : Prop := ∀ l : LaneId, (s.lanes.get l).state = .idle

/-- The measurement that channel `c` closes at a sample event without an entry, if any (R114). -/
def State.closes (s : State) (c : Channel) : Option Measurement :=
  ((s.sense.get c).work (s.links.get c).verdict.2 (s.advanceOf c)).2

/-- The application point of `step` falls at the next sample event for lane record `x`: the step has no sync angle, or
the reference channel's advance crosses its threshold (R86, R87). -/
def State.dueNext (s : State) (x : Lane) (step : StepRecord) : Prop :=
  ∀ p ∈ step.sync, (s.advanceOf (lowest x.channels)).crosses p.threshold = true

/-- The mask of `step` reaches channel `c`: it names it, or it is empty (R60, R88). -/
def StepRecord.masks (step : StepRecord) (c : Channel) : Prop :=
  noChannels step.mask = true ∨ step.mask.get c = true

/-- The level part of a step reaches channel `c` (R88). -/
def StepRecord.levels (c : Channel) (step : StepRecord) : Prop := step.level ≠ none ∧ step.masks c

/-- The frequency part of a step: it reaches every channel of its lane that is not a follower (R88). -/
def StepRecord.tunes (step : StepRecord) : Prop := step.freq ≠ none

/-- A lane record but for its capture-missed flag, which the capture engine's answer may set in the same sample event
(R89, R131). -/
def Lane.butMissed (x : Lane) : Lane := { x with ending := { x.ending with missed := false } }

/-- At the next sample event lane record `x` takes no step part that `part` picks to channel `c` of its set, and does not
revert it: it is HELD, counts or waits on, aligns on, applies a step without the part, or has no such step in its range;
or it is CLOSING and `c` has reverted already or does not wrap (R85 to R93, R42). -/
def State.laneSpares (s : State) (x : Lane) (c : Channel) (part : StepRecord → Prop) : Prop :=
  let wrap : Bool := (s.advanceOf (lowest x.channels)).wraps
  x.state = .held
  ∨ (x.state = .closing ∧ (x.reverted.get c = true ∨ (s.advanceOf c).wraps = false))
  ∨ (x.state = .aligning ∧ ∀ step ∈ s.currentStep x, ¬ s.dueNext x step ∨ ¬ part step)
  ∨ (x.state = .dwell ∧ ∀ d ∈ x.dwell, 1 < d.count ∨ (d.unit = .cycles ∧ wrap = false))
  ∨ (x.state = .dwell ∧ ∀ step ∈ s.currentStep x, step.wait ≠ none)
  ∨ (x.state = .waiting ∧ (x.timeout = 0 ∨ 1 < x.timeout ∨ wrap = false)
      ∧ ∀ step ∈ s.currentStep x, ∀ w ∈ step.wait, s.closes w.channel = none)
  ∨ (x.state ≠ .closing ∧ ∀ (k : Nat) (step : StepRecord), s.stepAt x k = some step → ¬ part step)

/-- Channel `c` takes no promotion at the next sample event (R38): no staged set is pending, or its advance does not wrap.
The advance of a follower is the one that `advanceOf` gives unless an entry first reverts L1 to a snapshot's F (R43). -/
def State.notPromoted (s : State) (c : Channel) : Prop :=
  (s.chans.get c).staged = none
  ∨ ((s.advanceOf c).wraps = false
      ∧ ((s.chans.get c).link.isSome = true → (s.boundTo .L1).isSome = true → s.noEntryDue))

/-- Channel `c` takes no promotion, no step part that `part` picks, and no revert at the next sample event (R8). -/
def State.spared (s : State) (c : Channel) (part : StepRecord → Prop) : Prop :=
  s.notPromoted c
  ∧ ∀ l : LaneId, (s.lanes.get l).binds c = true → s.noEntryDue ∧ s.laneSpares (s.lanes.get l) c part

/-- No lane asks the capture engine for a run at the next sample event: it applies no step, or no step of its range carries
a capture start (R85, R89). -/
def State.noCaptureStart (s : State) : Prop :=
  ∀ l : LaneId, (s.lanes.get l).state = .idle ∨ (s.lanes.get l).state = .held ∨ (s.lanes.get l).state = .closing
    ∨ ∀ (k : Nat) (step : StepRecord), s.stepAt (s.lanes.get l) k = some step → step.capture = none

/-- Lane record `y`, up to its capture-missed flag, is record `x` entered at position `k`, whose step is `step`, within
the next sample event: the group open pushed when the entry pushes, then HELD from ENTRY at a set key, applied when due,
ALIGNING otherwise (R86, R88). An entered step has no dwell remaining until it is applied (log 11). -/
def State.enteredAs (s : State) (x : Lane) (k : Nat) (push : Bool) (step : StepRecord) (y : Lane) : Prop :=
  let z : Lane := { x with
    position := some k, dwell := none
    stack := if push then x.stack ++ (step.groupOpen.map (fun passes => ⟨k, passes⟩)).toList else x.stack }
  (∀ r ∈ s.holdAt step, y.butMissed = { z with state := .held, holdReason := some r, heldFrom := some .entry }.butMissed)
  ∧ (s.holdAt step = none → s.dueNext x step →
      y.butMissed = { z with state := .dwell, dwell := some step.duration }.butMissed)
  ∧ (s.holdAt step = none → ¬ s.dueNext x step → y.butMissed = { z with state := .aligning }.butMissed)

/-- Lane record `y` is record `x` after the end of its program at position `k` under an exit policy: IDLE with its end
record alone, or CLOSING with its channels bound (R95, R99, R100; log 11). -/
def Lane.completedAs (x : Lane) (k : Nat) (policy : ExitPolicy) (y : Lane) : Prop :=
  let e : EndRecord := { x.ending with reason := .completed, position := k }
  (policy = .keep → y = { Lane.reset with ending := e })
  ∧ (policy = .restore → y = { x with
      state := .closing, ending := e, stack := [], releasePending := false, holdReason := none, heldFrom := none
      reverted := ⟨false, false, false⟩, position := none, dwell := none })

/-- Lane record `y` is record `x` after it has finished `step` at position `k` of program `q`, its group-close processing
having answered `closed`: the step looped back to, entered without a push; the next step, entered with one; or the end of
the program (R94, R95). -/
def State.finishedAs (s : State) (x : Lane) (q : Program) (k : Nat) (closed : Option Nat × List GroupEntry × Bool)
    (y : Lane) : Prop :=
  let z : Lane := { x with stack := closed.2.1.reverse, releasePending := closed.2.2 }
  (∀ opening ∈ closed.1, ∀ step ∈ Store.get s.steps (q.first + opening), s.enteredAs z opening false step y)
  ∧ (closed.1 = none → k + 1 < q.count → ∀ step ∈ Store.get s.steps (q.first + (k + 1)),
      s.enteredAs z (k + 1) true step y)
  ∧ (closed.1 = none → k + 1 = q.count → z.completedAs k q.policy y)

/-! ### Memories and stores -/

/-- Every memory and store of the block is in its canonical form. -/
def State.canonical (s : State) : Prop :=
  Memory.wf s.mem ∧ Memory.wf s.wave ∧ Store.wf s.tables ∧ Store.wf s.overlays ∧ Store.wf s.steps
  ∧ Store.wf s.programs ∧ Store.wf s.descs ∧ Store.wf s.comps

/-! ### Channels -/

/-- L1 is unlinked, and a follower's accumulator equals L1's plus the link offset (R7, R30). -/
def State.phaseLocked (s : State) : Prop :=
  s.chans.l1.link = none
  ∧ (∀ offset ∈ s.chans.l2.link, s.chans.l2.phase = s.chans.l1.phase + offset)
  ∧ (∀ offset ∈ s.chans.l3.link, s.chans.l3.phase = s.chans.l1.phase + offset)

/-- A frequency word in its range (R6, R11). -/
def wordInRange (w : Int) : Prop := 6710886 ≤ w ∧ w ≤ 73819750

/-- A parameter set whose word and level lie in their ranges (R34). -/
def ParamSet.inRange (q : ParamSet) : Prop := wordInRange q.word ∧ q.level ≤ 2000

/-- A value between two others, inclusive, whichever is the greater. -/
def between (a b v : Int) : Prop := (a ≤ v ∧ v ≤ b) ∨ (b ≤ v ∧ v ≤ a)

/-- A ramp in progress with its present value: some number of steps of (target - start) / R truncated toward zero have
been made of its R, and at least one sample event is left (R12 to R14). -/
def Ramp.sound (r : Ramp) (v : Int) : Prop :=
  ∃ made : Nat, 1 ≤ r.remaining ∧ r.step = (r.target - r.start).tdiv ((made + r.remaining : Nat) : Int)
    ∧ v = r.start + made * r.step

/-- A channel's envelope and frequency word lie in their ranges, and while a ramp is in progress it is sound, between a
start and a target in range; a follower carries no frequency ramp (R13, R14). -/
def Chan.bounded (x : Chan) : Prop :=
  0 ≤ x.env ∧ x.env ≤ 2048000 ∧ ParamSet.inRange x.active ∧ (∀ q ∈ x.staged, ParamSet.inRange q)
  ∧ (∀ r ∈ x.levelRamp, Ramp.sound r x.env ∧ between r.start r.target x.env
      ∧ 0 ≤ r.start ∧ r.start ≤ 2048000 ∧ 0 ≤ r.target ∧ r.target ≤ 2048000)
  ∧ (∀ r ∈ x.freqRamp, Ramp.sound r x.active.word ∧ between r.start r.target x.active.word
      ∧ wordInRange r.start ∧ wordInRange r.target)
  ∧ (x.link.isSome = true → x.freqRamp = none)

/-- Every channel is bounded, and so are the sources of its values: snapshots and step records. -/
def State.synthesisBounded (s : State) : Prop :=
  (∀ c : Channel, Chan.bounded (s.chans.get c))
  ∧ s.chans.l1.link = none
  ∧ (∀ l : LaneId, ∀ c : Channel, ∀ q ∈ (s.lanes.get l).snapshots.get c, ParamSet.inRange q)
  ∧ (∀ n : Nat, ∀ x ∈ Store.get s.steps n,
      (∀ p ∈ x.level, p.target ≤ 2000) ∧ (∀ p ∈ x.freq, wordInRange p.word))

/-! ### Trip unit -/

/-- NORMAL has no active source, no cause and no PARKED output; TRIPPED has every output PARKED and no running lane; the
link sources are what the links report (R145, R146, R148, R150, R103). -/
def State.tripSound (s : State) : Prop :=
  (s.trip.state = .normal → s.trip.active = SourceSet.empty ∧ s.trip.causes = CauseSet.empty
    ∧ ∀ c : Channel, s.trip.outputs.get c ≠ .parked)
  ∧ (s.trip.state = .tripped → (∀ c : Channel, s.trip.outputs.get c = .parked) ∧ s.lanesIdle)
  ∧ (∀ k : Channel, s.trip.active.loss.get k = ((s.links.get k).health == .lost)
      ∧ s.trip.active.fault.get k = (s.links.get k).fault)

/-! ### Lanes -/

/-- No channel is bound to two lanes (R81), and an IDLE lane holds nothing but its end record (R79, R94, R99). -/
def State.lanesSound (s : State) : Prop :=
  (∀ l m : LaneId, ∀ c : Channel, (s.lanes.get l).binds c = true → (s.lanes.get m).binds c = true → l = m)
  ∧ (∀ l : LaneId, (s.lanes.get l).state = .idle → s.lanes.get l = (s.lanes.get l).toIdle)

/-- A running lane runs a defined program, at a position of its range (none in CLOSING), and its group stack names
positions of the range (R79, R72). -/
def State.laneHasProgram (s : State) (x : Lane) : Prop :=
  x.running = true → ∃ q : Program, s.programOf x = some q
    ∧ (x.state ≠ .closing → ∃ k : Nat, x.position = some k ∧ k < q.count)
    ∧ (∀ e ∈ x.stack, e.opening < q.count)

/-! ### Library -/

/-- A coverage is a set of chunk numbers, listed in ascending order (R44). -/
def coverageSound (cov : List Nat) : Prop := cov.Pairwise (· < ·) ∧ ∀ c ∈ cov, c < 32

/-- Every table that a holder names is READY (R56); the step store is in its canonical form, no program is empty (R69),
and the coverage of a LOADING table is a set of chunk numbers (R44). -/
def State.tablesReady (s : State) : Prop :=
  Store.wf s.steps
  ∧ (∀ (n : Nat) (p : Port) (cov : List Nat), Store.get s.tables n = some (.loading p cov) → coverageSound cov)
  ∧ (∀ n : Nat, ∀ q ∈ Store.get s.programs n, 1 ≤ q.count)
  ∧ (∀ l : LaneId, s.laneHasProgram (s.lanes.get l))
  ∧ ∀ t : Nat, s.tableReferenced t = true → s.tableState t = .ready

/-! ### Sense unit -/

/-- A code of a received frame (R112). -/
def codeInRange (v : Int) : Prop := -32767 ≤ v ∧ v ≤ 32767

/-- A channel's accumulation within its bounds between sample events, and its record (R111, R113, R116, R120). -/
def Sense.bounded (x : Sense) : Prop :=
  (x.isOpen = true → x.n + x.missing < 1024 ∧ x.limit ≤ x.n ∧ x.sumV ≤ x.n * 1073676289
    ∧ x.sumI ≤ x.n * 1073676289)
  ∧ x.nextSeq < 65536
  ∧ (∀ m ∈ x.record, m.n + m.missing ≤ 1024 ∧ m.limit ≤ m.n ∧ m.rmsV ≤ 32767 ∧ m.rmsI ≤ 32767
      ∧ (m.incomplete = true ↔ 0 < m.missing))

/-- The sense unit and the values that the links keep for it are within their bounds. -/
def State.senseBounded (s : State) : Prop :=
  (∀ c : Channel, Sense.bounded (s.sense.get c))
  ∧ (∀ k : Channel, ∀ q ∈ (s.links.get k).answer, codeInRange q.v ∧ codeInRange q.i)

/-! ### Capture engine -/

/-- A descriptor's buffer lies in the capture memory (R125). -/
def Descriptor.inMemory (x : Descriptor) : Prop :=
  1 ≤ x.count ∧ x.base + x.count ≤ 16384 ∧ 1 ≤ x.decimation ∧ x.decimation ≤ 256

/-- The engine fills the buffer of a defined descriptor, no completion record counts more words than its descriptor
holds, and no word lies past the memory (R125, R129, R136). -/
def State.captureSound (s : State) : Prop :=
  (∀ d : Nat, ∀ x ∈ Store.get s.descs d, Descriptor.inMemory x)
  ∧ (s.engine.isActive = true → ∃ d : Nat, ∃ x : Descriptor, s.engine.current = some d ∧ Store.get s.descs d = some x
      ∧ s.engine.writeIndex < x.count ∧ s.engine.phase < x.decimation)
  ∧ (∀ d : Nat, ∀ r ∈ Store.get s.comps d, ∃ x : Descriptor, Store.get s.descs d = some x ∧ r.words ≤ x.count)
  ∧ (∀ a : Nat, 16384 ≤ a → Memory.read s.mem a = 0)

end Sys2Proof.Machine
end

