-- ==== Sys2Proof/WellFormed.lean ====
section
/-! DEFINITION. Well-formed commands: every carried operand lies in the range its bytes can carry (R173, R176; the
carried ranges of R63, R126). A value inside the carried range but outside the field's own range is well formed: the
owning block clamps it or refuses it. -/

namespace Sys2Proof

/-- A one-byte item. -/
abbrev fitsByte (n : Nat) : Bool := decide (n < 256)

/-- A two-byte item. -/
abbrev fitsWord (n : Nat) : Bool := decide (n < 65536)

/-- A two-byte signed item. -/
abbrev fitsCode (v : Int) : Bool := decide (-32768 ≤ v) && decide (v ≤ 32767)

/-- SET_CHANNEL's items (R35). -/
def RawParams.wf (r : RawParams) : Bool :=
  fitsWord r.freq && fitsWord r.amp && fitsByte r.table && fitsByte r.overlay && fitsCode r.dc && fitsWord r.level

/-- A term slot's items (R176). -/
def OverlaySlot.wf (t : OverlaySlot) : Bool :=
  fitsByte t.order && fitsWord t.amplitude && fitsWord t.phase

/-- WRITE_STEP's items (R62, carried ranges of R63). -/
def RawStep.wf (r : RawStep) : Bool :=
  fitsByte r.mask && decide (r.count < 16777216) && fitsByte r.unit
  && (fitsByte r.hasSync && fitsWord r.sync)
  && (fitsByte r.hasHold && fitsByte r.holdKey)
  && (fitsByte r.hasLevel && fitsWord r.level && fitsWord r.levelRamp)
  && (fitsByte r.hasFreq && fitsWord r.freq && fitsWord r.freqRamp)
  && (fitsByte r.hasJump && fitsCode r.jump)
  && (fitsByte r.hasShape && fitsByte r.table && fitsByte r.overlay)
  && (fitsByte r.hasMarkers && fitsByte r.marker1 && fitsByte r.marker2)
  && (fitsByte r.hasCapture && fitsByte r.descriptor)
  && (fitsByte r.hasWait && fitsByte r.waitChannel && fitsByte r.quantity && fitsByte r.relation
      && fitsWord r.threshold && fitsByte r.consecutive && fitsWord r.timeout && fitsByte r.onTimeout)
  && (fitsByte r.hasOpen && fitsWord r.openCount)
  && (fitsByte r.hasClose && fitsByte r.closeCount)

/-- WRITE_DESCRIPTOR's items (R126). -/
def RawDescriptor.wf (r : RawDescriptor) : Bool :=
  fitsByte r.source && fitsByte r.channel && fitsWord r.base && fitsWord r.count && fitsByte r.next
  && fitsWord r.decimation && fitsByte r.hasDeadband && fitsWord r.deadband
  && fitsByte r.hasMonitor && fitsByte r.relation && fitsWord r.threshold

/-- Every operand of the command lies in the range its bytes carry. Events and ticks have operands of exact types. -/
def Instr.wf : Instr → Bool
  | .resetNAssertion _ => true
  | .sampleEvent _ => true
  | .levelRampEnd _ _ => true
  | .frequencyRampEnd _ _ => true
  | .linkLost _ _ => true
  | .linkRecovered _ _ => true
  | .statusFrame _ _ _ => true
  | .truncated _ _ => true
  | .markerPulseEnd _ _ => true
  | .dwellEnd _ _ => true
  | .waitMet _ _ => true
  | .waitTimeout _ _ => true
  | .decimationPass _ => true
  | .capturePassFull _ => true
  | .tripNAsserted => true
  | .tripNReleased => true
  | .spiSelect _ => true
  | .frameError _ => true
  | .nop _ => true
  | .identify _ => true
  | .getAlerts _ => true
  | .setAlertMask _ mask => fitsByte mask
  | .masterClear _ => true
  | .setChannel _ ch r => fitsByte ch && r.wf
  | .getChannel _ ch clear => fitsByte ch && fitsByte clear
  | .linkChannelFollow _ ch offset => fitsByte ch && decide (offset < 4294967296)
  | .linkChannelUnlink _ ch => fitsByte ch
  | .beginTable _ t => fitsByte t
  | .writeTableChunk _ t chunk entries =>
      fitsByte t && fitsByte chunk && decide (entries.length = 32) && entries.all fitsCode
  | .commitTable _ t => fitsByte t
  | .discardTable _ t => fitsByte t
  | .readTableChunk _ t chunk => fitsByte t && fitsByte chunk
  | .getTableState _ t => fitsByte t
  | .writeOverlaySet _ n count slots =>
      fitsByte n && fitsByte count && decide (slots.length = 6) && slots.all OverlaySlot.wf
  | .readOverlaySet _ n => fitsByte n
  | .writeStep _ n r => fitsByte n && r.wf
  | .readStep _ n => fitsByte n
  | .clearStep _ n => fitsByte n
  | .writeProgramDefine _ n first count policy =>
      fitsByte n && fitsByte first && fitsWord count && fitsByte policy
  | .writeProgramUndefine _ n => fitsByte n
  | .readProgram _ n => fitsByte n
  | .start _ program channels => fitsByte program && fitsByte channels
  | .hold _ lane => fitsByte lane
  | .resume _ lane => fitsByte lane
  | .release _ lane => fitsByte lane
  | .abort _ lane => fitsByte lane
  | .getLane _ lane => fitsByte lane
  | .setHoldKey _ key => fitsByte key
  | .clearHoldKey _ key => fitsByte key
  | .getMeasurement _ ch => fitsByte ch
  | .writeDescriptorDefine _ d r => fitsByte d && r.wf
  | .writeDescriptorUndefine _ d => fitsByte d
  | .readDescriptor _ d => fitsByte d
  | .startCapture _ d => fitsByte d
  | .stopCapture _ => true
  | .readCapture _ address count => fitsWord address && fitsByte count
  | .getCapture _ => true
  | .trip _ => true
  | .restart _ => true
  | .getTrip _ => true
  | .getLink _ link clear => fitsByte link && fitsByte clear
  | .spiByteCompleted _ _ => true

end Sys2Proof
end

