-- ==== Sys2Proof/Certificates/Slice0/Obligations.lean ====
section
/-! DEFINITION. The statements for the provers. A response is named by `State.answered`: what the deselect leaves in the
port (its own statement is `Obligations.DeselectReplacesHolder`); an equation `exec i s = .next u` says all that the
command changes, and so its frame. -/

open Sys2Proof Sys2Proof.Machine

/-! ### The queue -/

/-- A step takes the command at the front of the queue and runs it on the rest; on an empty queue the block idles (log
5). -/
def Obligations.StepTakesFrontCommand : Prop :=
  (∀ (s : State) (i : Instr) (rest : List Instr),
    step { s with pending := i :: rest } = exec i { s with pending := rest })
  ∧ (∀ s : State, s.pending = [] → step s = .next s)

/-- Every command answers a next state, and leaves the queue as it is. The queue is the model's (log 5, and log 8 for
RESET_N), and so is what a command means on operands that no frame carries (log 19). -/
def Obligations.EveryCommandAnswersNext : Prop :=
  ∀ (i : Instr) (s : State), ∃ t : State, exec i s = .next t ∧ t.pending = s.pending

/-! ### Reset -/

/-- RESET_N gives every channel the values of R2, parks it, and the code it computes is 0. -/
def Obligations.ResetGivesChannelValues : Prop :=
  ∀ (low : Bool) (s : State), ∃ t : State,
    exec (.resetNAssertion low) s = .next t
    ∧ t.chans.l1 = { phase := 0#32, link := none, active := ⟨5000, 8388608, 0, 0, 0, 0, 1000⟩, staged := none,
                     env := 1024000, levelRamp := none, freqRamp := none, clip := 0 }
    ∧ t.chans.l2 = { phase := 2863311531#32, link := some 2863311531#32,
                     active := ⟨5000, 8388608, 0, 0, 0, 0, 1000⟩, staged := none,
                     env := 1024000, levelRamp := none, freqRamp := none, clip := 0 }
    ∧ t.chans.l3 = { phase := 1431655765#32, link := some 1431655765#32,
                     active := ⟨5000, 8388608, 0, 0, 0, 0, 1000⟩, staged := none,
                     env := 1024000, levelRamp := none, freqRamp := none, clip := 0 }
    ∧ ∀ c : Channel, t.trip.outputs.get c = .parked ∧ t.compute (t.chans.get c) = 0

/-- RESET_N gives the other blocks the values of their reset columns. What waits in
the queue is another statement (log 8). -/
def Obligations.ResetGivesOtherBlocksValues : Prop :=
  ∀ (low : Bool) (s : State), ∃ t : State,
    exec (.resetNAssertion low) s = .next t
    ∧ t.tableState 0 = .ready
    ∧ (∀ n : Nat, 0 < n → t.tableState n = .empty ∧ ∀ i : Nat, t.entry n i = 0)
    ∧ (∀ n : Nat, t.terms n = [] ∧ Store.get t.steps n = none ∧ Store.get t.programs n = none
        ∧ Store.get t.descs n = none ∧ Store.get t.comps n = none ∧ Memory.read t.mem n = 0)
    ∧ (∀ l : LaneId, (t.lanes.get l).state = .idle ∧ (t.lanes.get l).program = none ∧ (t.lanes.get l).origin = none
        ∧ noChannels (t.lanes.get l).channels = true ∧ (t.lanes.get l).position = none ∧ (t.lanes.get l).stack = []
        ∧ (t.lanes.get l).dwell = none ∧ (t.lanes.get l).consecutive = 0 ∧ (t.lanes.get l).timeout = 0
        ∧ (t.lanes.get l).releasePending = false ∧ (t.lanes.get l).holdReason = none
        ∧ (t.lanes.get l).heldFrom = none ∧ (∀ c : Channel, (t.lanes.get l).snapshots.get c = none)
        ∧ noChannels (t.lanes.get l).reverted = true ∧ (t.lanes.get l).ending = ⟨.none, 0, 0, false⟩)
    ∧ t.key1 = false ∧ t.key2 = false ∧ t.marker1 = ⟨false, false⟩ ∧ t.marker2 = ⟨false, false⟩
    ∧ (∀ c : Channel, t.sense.get c = { isOpen := false, polarity := none, n := 0, missing := 0, limit := 0, sumV := 0,
                                         sumI := 0, nextSeq := 0, record := none })
    ∧ t.engine = { isActive := false, originator := none, run := 0, current := none, writeIndex := 0, phase := 0,
                   last := none, ends := 0, missed := false }
    ∧ t.trip.state = .tripped ∧ t.trip.first = ⟨.powerOn, none⟩
    ∧ t.trip.active = { SourceSet.empty with tripN := low }
    ∧ t.trip.causes = { CauseSet.empty with sources := { SourceSet.empty with tripN := low }, powerOn := true }
    ∧ (∀ k : Channel, (t.links.get k).next = 0 ∧ (t.links.get k).outstanding = none ∧ (t.links.get k).answer = none
        ∧ (t.links.get k).health = .good ∧ (t.links.get k).missingRun = 0 ∧ (t.links.get k).goodRun = 0
        ∧ (t.links.get k).fault = false ∧ (t.links.get k).latest = none ∧ (t.links.get k).missing = 0
        ∧ (t.links.get k).rejected = ⟨0, 0, 0, 0, 0⟩)
    ∧ (∀ p : Port, (t.ports.get p).receiving = false ∧ (t.ports.get p).frame = [] ∧ (t.ports.get p).count = 0
        ∧ (t.ports.get p).miso = none
        ∧ (t.ports.get p).holder = ⟨.ok, 0#8, Config.identityBody p⟩
        ∧ (t.ports.get p).alerts = { Alerts.empty with kinds := { AlertKinds.empty with trip := true } }
        ∧ (t.ports.get p).mask = ⟨true, true, true, true, true, true⟩
        ∧ alertAsserted (t.ports.get p) = true)

/-! ### Control ports -/

/-- The deselect of a port: its record takes the response, goes IDLE with MISO at high impedance, and nothing else of the
block changes. The
emptied frame and count are the model's (log 9). -/
def Obligations.DeselectReplacesHolder : Prop :=
  ∀ (s : State) (p : Port) (r : Response),
    (s.hold p r).ports.get p = { s.ports.get p with receiving := false, frame := [], count := 0, miso := none,
                                                    holder := r }
    ∧ (∀ q : Port, q ≠ p → (s.hold p r).ports.get q = s.ports.get q)
    ∧ { s.hold p r with ports := s.ports } = s

/-- A transaction: select empties the frame and shows byte 0 of the held response; each byte is counted, kept while the
frame needs it (log 10), and answered by the next byte of the response, zeros past its end; a deselected port ignores its
clock. -/
def Obligations.TransactionShiftsFrameAndResponse : Prop :=
  ∀ (p : Port) (s : State),
    exec (.spiSelect p) s
      = .next (s.setPort p { s.ports.get p with
          receiving := true, frame := [], count := 0,
          miso := some (BitVec.ofNat 8 (statusNumber (s.ports.get p).holder.status)) })
    ∧ ∀ b : Byte,
      ((s.ports.get p).receiving = false → exec (.spiByteCompleted p b) s = .next s)
      ∧ ((s.ports.get p).receiving = true → ∃ f : List Byte,
          exec (.spiByteCompleted p b) s
            = .next (s.setPort p { s.ports.get p with
                frame := f, count := (s.ports.get p).count + 1,
                miso := some ((s.ports.get p).holder.bytes.getD ((s.ports.get p).count + 1) 0#8) })
          ∧ ((s.ports.get p).count < 2 → f = (s.ports.get p).frame ++ [b])
          ∧ ((s.ports.get p).count < 2 + ((s.ports.get p).frame.getD 1 0#8).toNat → f = (s.ports.get p).frame ++ [b])
          ∧ (2 + ((s.ports.get p).frame.getD 1 0#8).toNat ≤ (s.ports.get p).count → 2 ≤ (s.ports.get p).count →
              f = (s.ports.get p).frame))

/-- The codes and body lengths of R176. -/
def commandTable : List (Nat × Nat) :=
  [(0x00, 0), (0x01, 0), (0x02, 0), (0x03, 1), (0x0F, 0), (0x10, 11), (0x11, 2), (0x12, 6), (0x20, 1), (0x21, 66),
   (0x22, 1), (0x23, 1), (0x24, 2), (0x25, 1), (0x26, 32), (0x27, 1), (0x30, 47), (0x31, 1), (0x32, 1), (0x33, 6),
   (0x34, 1), (0x40, 2), (0x41, 1), (0x42, 1), (0x43, 1), (0x44, 1)]
  ++ [(0x45, 1), (0x46, 1), (0x47, 1), (0x50, 1), (0x60, 18), (0x61, 1), (0x62, 1), (0x63, 0), (0x64, 3), (0x65, 0),
   (0x70, 0), (0x71, 0), (0x72, 0), (0x80, 2)]

/-- The judgement of a received frame at the deselect: the four checks in order, with the code of byte 0 and the length
of byte 1 against the command table. A rejected frame leaves its FRAME_ERROR response and nothing else; a frame that
passes is taken, as the command it spells; one whose mode or form byte names nothing is answered BAD_ARGUMENT and changes
nothing else (log 16). The row FRAME_ERROR is the deselect in general (log 2). A rising select edge of a port that is not
RECEIVING judges nothing and leaves everything as it stands (R170). -/
def Obligations.DeselectJudgesFrame : Prop :=
  ∀ (p : Port) (s : State),
    ((s.ports.get p).receiving = false → exec (.frameError p) s = .next s)
    ∧ ((s.ports.get p).receiving = true →
        let frame := (s.ports.get p).frame
        let n := (s.ports.get p).count
        let code := (frame.getD 0 0#8).toNat
        let sent := (frame.getD 1 0#8).toNat
        let rejected (reason : Nat) : Host.Outcome State Fault Refusal :=
          .next (s.hold p ⟨.frameError, frame.getD 0 0#8, [BitVec.ofNat 8 reason, BitVec.ofNat 8 (min n 255)]⟩)
        (n < 2 → exec (.frameError p) s = rejected 0)
        ∧ (2 ≤ n → commandTable.lookup code = none → exec (.frameError p) s = rejected 1)
        ∧ (∀ k : Nat, 2 ≤ n → commandTable.lookup code = some k →
            (sent ≠ k → exec (.frameError p) s = rejected 2)
            ∧ (sent = k → n < k + 2 → exec (.frameError p) s = rejected 0)
            ∧ (sent = k → k + 2 ≤ n → ∀ i : Instr, commandOf p code ((frame.drop 2).take k) = some i →
                exec (.frameError p) s = exec i s)
            ∧ (sent = k → k + 2 ≤ n → (code = 0x12 ∨ code = 0x33 ∨ code = 0x60) → 1 < (frame.getD 3 0#8).toNat →
                exec (.frameError p) s = .next (s.answered p code .badArgument []))
            ∧ (sent = k → k + 2 ≤ n → (code ≠ 0x12 ∧ code ≠ 0x33 ∧ code ≠ 0x60) ∨ (frame.getD 3 0#8).toNat ≤ 1 →
                ∃ i : Instr, commandOf p code ((frame.drop 2).take k) = some i)))

/-- The bits of a command's body are read back as the command: every operand at every value its bytes carry. Where R173 leaves the
place of a byte open, it is log 15's. -/
def Obligations.CommandBodyReadsBack : Prop :=
  ∀ (i : Instr) (p : Port) (code : Nat) (body : List Byte),
    i.wf = true → portOf i = some p → commandBody i = some (code, body) →
    commandLength code = some body.length ∧ commandOf p code body = some i

/-- A deselect that finds a command's frame, with any number of further bytes counted, runs that command. That the row
FRAME_ERROR stands for the deselect in general, and so runs a well-formed command too, is log 2's. -/
def Obligations.DeselectRunsTheCommandSent : Prop :=
  ∀ (i : Instr) (p : Port) (frame : List Byte) (s : State),
    i.wf = true → portOf i = some p → frameOf i = some frame →
    (s.ports.get p).receiving = true → (s.ports.get p).frame = frame → frame.length ≤ (s.ports.get p).count →
    exec (.frameError p) s = exec i s

/-- NOP changes nothing and is answered with an empty body; IDENTIFY answers the 18 bytes; the power-on response is OK,
echo 00, with those bytes for its port. -/
def Obligations.NopAndIdentify : Prop :=
  ∀ p : Port,
    let bytes : List Byte := [0x0B#8, 0x27#8, 0x03#8, 0x41#8, 1#8, (match p with | .A => 0#8 | .B => 1#8), 3#8, 3#8,
      16#8, 8#8, 0x01#8, 0x00#8, 8#8, 16#8, 0x40#8, 0x00#8, 6#8, 4#8]
    (∀ s : State, exec (.nop p) s = .next (s.answered p 0x00 .ok []))
    ∧ (∀ s : State, exec (.identify p) s = .next (s.answered p 0x01 .ok bytes))
    ∧ (∀ (low : Bool) (s : State), ∃ t : State, exec (.resetNAssertion low) s = .next t
        ∧ (t.ports.get p).holder = ⟨.ok, 0x00#8, bytes⟩)

/-- GET_ALERTS reports the pending set bit by bit and empties it; SET_ALERT_MASK refuses bits 6 and 7, else sets the mask
and reports the mask and the pending kinds, which stay. -/
def Obligations.AlertCommands : Prop :=
  ∀ (p : Port) (s : State),
    let x := s.ports.get p
    (∃ k e h c : Byte,
      exec (.getAlerts p) s = .next ((s.setPort p { x with alerts := Alerts.empty }).answered p 0x02 .ok [k, e, h, c])
      ∧ k.getLsbD 0 = x.alerts.kinds.laneEnded ∧ k.getLsbD 1 = x.alerts.kinds.laneHeld
      ∧ k.getLsbD 2 = x.alerts.kinds.trip ∧ k.getLsbD 3 = x.alerts.kinds.captureEnded
      ∧ k.getLsbD 4 = x.alerts.kinds.captureMissed ∧ k.getLsbD 5 = x.alerts.kinds.clipping
      ∧ k.getLsbD 6 = false ∧ k.getLsbD 7 = false
      ∧ e.toNat = (if x.alerts.kinds.laneEnded then laneBits x.alerts.ended else 0)
      ∧ h.toNat = (if x.alerts.kinds.laneHeld then laneBits x.alerts.held else 0)
      ∧ c.toNat = (if x.alerts.kinds.clipping then channelBits x.alerts.clipped else 0)
      ∧ alertAsserted { x with alerts := Alerts.empty } = false)
    ∧ ∀ mask : Nat, mask < 256 →
      (64 ≤ mask → exec (.setAlertMask p mask) s = .next (s.answered p 0x03 .badArgument []))
      ∧ (mask = 0 → alertAsserted { x with mask := ⟨mask.testBit 0, mask.testBit 1, mask.testBit 2, mask.testBit 3,
                                                    mask.testBit 4, mask.testBit 5⟩ } = false)
      ∧ (mask < 64 → ∃ pend : Byte, pend.toNat = kindBits x.alerts.kinds
          ∧ exec (.setAlertMask p mask) s
            = .next ((s.setPort p { x with mask := ⟨mask.testBit 0, mask.testBit 1, mask.testBit 2, mask.testBit 3,
                                                    mask.testBit 4, mask.testBit 5⟩ }).answered p 0x03 .ok
                [BitVec.ofNat 8 mask, pend]))

/-- A port's alert line is asserted exactly when a kind is both pending and enabled by the mask; an empty pending set or
an empty mask holds it high. -/
def Obligations.AlertLineFollowsPendingAndMask : Prop :=
  ∀ r : PortRecord,
    (alertAsserted r = true ↔ ∃ kind ∈ [AlertKinds.laneEnded, AlertKinds.laneHeld, AlertKinds.trip,
        AlertKinds.captureEnded, AlertKinds.captureMissed, AlertKinds.clipping],
      kind r.alerts.kinds = true ∧ kind r.mask = true)
    ∧ alertAsserted { r with alerts := Alerts.empty } = false
    ∧ alertAsserted { r with mask := AlertKinds.empty } = false

/-- A port command answered with a refusal changes nothing but the response holder of its port. -/
def Obligations.RefusedCommandChangesNothing : Prop :=
  ∀ (i : Instr) (p : Port) (s t : State),
    portOf i = some p → exec i s = .next t →
    (t.ports.get p).holder.status ≠ .ok → (t.ports.get p).holder.status ≠ .clamped →
    t = s.hold p (t.ports.get p).holder

/-! ### Channel commands -/

/-- An accepted SET_CHANNEL: the fields are adjusted to their ranges, CLAMPED when one was; the set is staged on a
DRIVING or UNPARKING channel, and written directly, with e at the base level × 1,024 and no ramp, on a PARKED one. -/
def Obligations.SetChannelStagesOrWrites : Prop :=
  ∀ (p : Port) (c : Channel) (r : RawParams) (s : State),
    r.table < 16 → r.overlay < 8 → s.boundTo c = none → s.tableState r.table = .ready →
    ∃ (q : ParamSet) (st : StatusCode),
      q.freq = max 4000 (min 44000 r.freq)
      ∧ q.word = (((2 * q.freq * 4294967296 + 2560000) / 5120000 : Nat) : Int) ∧ q.amp = min r.amp 32767
      ∧ q.table = r.table ∧ q.overlay = r.overlay ∧ q.dc = max (-3276) (min 3276 r.dc) ∧ q.level = min r.level 2000
      ∧ st = (if q.freq = r.freq ∧ q.amp = r.amp ∧ q.dc = r.dc ∧ q.level = r.level then .ok else .clamped)
      ∧ (s.trip.outputs.get c ≠ .parked →
          exec (.setChannel p (channelNumber c) r) s
            = .next ((s.setChan c { s.chans.get c with staged := some q }).answered p 0x10 st
                (0#8 :: numBytes 4 q.word.toNat)))
      ∧ (s.trip.outputs.get c = .parked →
          exec (.setChannel p (channelNumber c) r) s
            = .next ((s.setChan c { s.chans.get c with
                active := q, env := q.level * 1024, levelRamp := none, freqRamp := none, staged := none }).answered p
                0x10 st (1#8 :: numBytes 4 q.word.toNat)))

/-- SET_CHANNEL's refusals, in the order of its checks. -/
def Obligations.SetChannelRefusals : Prop :=
  ∀ (p : Port) (n : Nat) (r : RawParams) (s : State),
    (n = 0 ∨ 3 < n ∨ 15 < r.table ∨ 7 < r.overlay →
      exec (.setChannel p n r) s = .next (s.answered p 0x10 .badArgument []))
    ∧ (∀ c : Channel, n = channelNumber c → r.table ≤ 15 → r.overlay ≤ 7 →
        ((∃ l : LaneId, (s.lanes.get l).state ≠ .idle ∧ (s.lanes.get l).channels.get c = true) →
          exec (.setChannel p n r) s = .next (s.answered p 0x10 .channelBusy []))
        ∧ ((∀ l : LaneId, (s.lanes.get l).state = .idle ∨ (s.lanes.get l).channels.get c = false) →
            s.tableState r.table ≠ .ready → exec (.setChannel p n r) s = .next (s.answered p 0x10 .notReady [])))

/-- The seven fields of an active set or of a snapshot (R34, R40, R41). -/
def snapshotReport (q : ParamSet) : List Byte :=
  numBytes 2 q.freq ++ numBytes 4 q.word.toNat ++ numBytes 2 q.amp ++ byteItem q.table ++ byteItem q.overlay
  ++ intBytes 2 q.dc ++ numBytes 2 q.level

/-- The contents of GET_CHANNEL for channel record `x`, its output state and the lane that holds it, row by row of R40. -/
def channelReport (x : Chan) (output : OutputState) (binding : Option LaneId) : List Byte :=
  snapshotReport x.active ++ flagItem x.staged.isSome
  ++ byteItem (match output with | .driving => 0 | .parked => 1 | .unparking => 2) ++ numBytes 2 x.clip
  ++ (match x.link with | none => List.replicate 5 0#8 | some offset => 1#8 :: numBytes 4 offset.toNat)
  ++ numBytes 4 x.phase.toNat ++ numBytes 3 x.env.toNat
  ++ flagItem x.levelRamp.isSome ++ flagItem x.freqRamp.isSome
  ++ (match binding with
      | none => [0#8, 0#8] | some .lane0 => [1#8, 0#8] | some .lane1 => [1#8, 1#8] | some .lane2 => [1#8, 2#8])

/-- The contents of GET_LINK for link record `x`, row by row of R167. -/
def linkReport (x : Link) : List Byte :=
  byteItem (match x.health with | .good => 0 | .lost => 1) ++ byteItem x.missingRun ++ byteItem x.goodRun
  ++ byteItem (if x.fault then 0 else 1) ++ byteItem (match x.health with | .good => 1 | .lost => 0) ++ byteItem x.next
  ++ (match x.latest with
      | none => List.replicate 8 0#8
      | some q => 1#8 :: byteItem q.echo ++ intBytes 2 q.v ++ intBytes 2 q.i ++ flagItem q.fault ++ flagItem q.limit)
  ++ numBytes 2 x.missing ++ numBytes 2 x.rejected.form ++ numBytes 2 x.rejected.crc ++ numBytes 2 x.rejected.late
  ++ numBytes 2 x.rejected.echo ++ numBytes 2 x.rejected.extra

/-- GET_CHANNEL and GET_LINK with their clear flags: each reports the fields that its rule names as they stand, the
binding being the running lane that holds the channel, and the clear sets the clip counter, or the six link counts, to 0
and changes nothing else. The layouts of the bodies are R173's, and where it leaves a byte open log 15's. -/
def Obligations.ClearingReads : Prop :=
  ∀ (p : Port) (c : Channel) (s : State),
    (∃ binding : Option LaneId,
      (∀ l : LaneId, binding = some l → (s.lanes.get l).state ≠ .idle ∧ (s.lanes.get l).channels.get c = true)
      ∧ (binding = none → ∀ l : LaneId, (s.lanes.get l).state = .idle ∨ (s.lanes.get l).channels.get c = false)
      ∧ exec (.getChannel p (channelNumber c) 0) s
          = .next (s.answered p 0x11 .ok (channelReport (s.chans.get c) (s.trip.outputs.get c) binding))
      ∧ exec (.getChannel p (channelNumber c) 1) s
          = .next ((s.setChan c { s.chans.get c with clip := 0 }).answered p 0x11 .ok
              (channelReport (s.chans.get c) (s.trip.outputs.get c) binding)))
    ∧ exec (.getLink p (channelNumber c) 0) s = .next (s.answered p 0x80 .ok (linkReport (s.links.get c)))
    ∧ exec (.getLink p (channelNumber c) 1) s
        = .next ((s.setLink c { s.links.get c with missing := 0, rejected := ⟨0, 0, 0, 0, 0⟩ }).answered p 0x80 .ok
            (linkReport (s.links.get c)))
    ∧ ∀ n clear : Nat, (n = 0 ∨ 3 < n ∨ 1 < clear) →
        exec (.getChannel p n clear) s = .next (s.answered p 0x11 .badArgument [])
        ∧ exec (.getLink p n clear) s = .next (s.answered p 0x80 .badArgument [])

/-- LINK_CHANNEL: the checks in order; follow sets the link and P at once and cancels the frequency ramp; unlink gives
the channel L1's F and frequency field and keeps P, and changes nothing on an unlinked channel. That the link is answered
as a presence byte and a four-byte offset is log 15's. -/
def Obligations.LinkChannelFollowsAndUnlinks : Prop :=
  ∀ (p : Port) (offset : Nat) (s : State),
    (∀ n : Nat, n ≠ 2 → n ≠ 3 →
      exec (.linkChannelFollow p n offset) s = .next (s.answered p 0x12 .badArgument [])
      ∧ exec (.linkChannelUnlink p n) s = .next (s.answered p 0x12 .badArgument []))
    ∧ ∀ c : Channel, c ≠ .L1 →
      (((s.boundTo .L1).isSome ∨ (s.boundTo c).isSome) →
        exec (.linkChannelFollow p (channelNumber c) offset) s = .next (s.answered p 0x12 .channelBusy [])
        ∧ exec (.linkChannelUnlink p (channelNumber c)) s = .next (s.answered p 0x12 .channelBusy []))
      ∧ (s.boundTo .L1 = none → s.boundTo c = none →
          (s.chans.l1.staged.isSome ∨ (s.chans.get c).staged.isSome →
            exec (.linkChannelFollow p (channelNumber c) offset) s = .next (s.answered p 0x12 .pending [])
            ∧ exec (.linkChannelUnlink p (channelNumber c)) s = .next (s.answered p 0x12 .pending []))
          ∧ (s.chans.l1.staged = none → (s.chans.get c).staged = none →
              (let o := BitVec.ofNat 32 offset
               let x : Chan := { s.chans.get c with link := some o, phase := s.chans.l1.phase + o, freqRamp := none }
               exec (.linkChannelFollow p (channelNumber c) offset) s
                 = .next ((s.setChan c x).answered p 0x12 .ok
                     (BitVec.ofNat 8 (channelNumber c) :: 1#8 :: numBytes 4 o.toNat ++ numBytes 4 x.phase.toNat)))
              ∧ (let y : Chan := { s.chans.get c with
                     link := none
                     active := { (s.chans.get c).active with word := s.chans.l1.active.word,
                                                             freq := s.chans.l1.active.freq } }
                 let x : Chan := if (s.chans.get c).link.isSome then y else s.chans.get c
                 exec (.linkChannelUnlink p (channelNumber c)) s
                   = .next ((s.setChan c x).answered p 0x12 .ok
                       (BitVec.ofNat 8 (channelNumber c) :: 0#8 :: [0#8, 0#8, 0#8, 0#8]
                         ++ numBytes 4 x.phase.toNat)))))

/-! ### The library -/

/-- A table or an overlay set is referenced exactly when a holder of R54 names it: an active set, a pending staged set, a
step in the program range of a running lane, or a running lane's snapshot. -/
def Obligations.ReferencesAreTheirHolders : Prop :=
  ∀ (s : State) (k : Nat),
    let held (f : ParamSet → Nat) (g : ShapePart → Nat) : Prop :=
      (∃ c : Channel, f (s.chans.get c).active = k)
      ∨ (∃ (c : Channel) (q : ParamSet), (s.chans.get c).staged = some q ∧ f q = k)
      ∨ (∃ l : LaneId, (s.lanes.get l).state ≠ .idle ∧
          ((∃ (q : Program) (n : Nat) (x : StepRecord) (h : ShapePart), s.programOf (s.lanes.get l) = some q
              ∧ q.first ≤ n ∧ n < q.first + q.count ∧ (n, x) ∈ s.steps ∧ x.shape = some h ∧ g h = k)
            ∨ ∃ (c : Channel) (q : ParamSet), (s.lanes.get l).snapshots.get c = some q ∧ f q = k))
    (s.tableReferenced k = true ↔ held ParamSet.table ShapePart.table)
    ∧ (s.overlayReferenced k = true ↔ held ParamSet.overlay ShapePart.overlay)

/-- BEGIN_TABLE: the checks in order; an accepted one makes the table LOADING for the caller with empty coverage, from
any of its states, and clears no entry. -/
def Obligations.BeginTableStartsLoad : Prop :=
  ∀ (p : Port) (t : Nat) (s : State),
    (t = 0 ∨ 15 < t → exec (.beginTable p t) s = .next (s.answered p 0x20 .badArgument []))
    ∧ (0 < t → t ≤ 15 →
        (∀ (q : Port) (cov : List Nat), q ≠ p → s.tableState t = .loading q cov →
          exec (.beginTable p t) s = .next (s.answered p 0x20 .ownedByOther []))
        ∧ ((∀ (q : Port) (cov : List Nat), s.tableState t = .loading q cov → q = p) →
            (s.tableReferenced t = true → exec (.beginTable p t) s = .next (s.answered p 0x20 .inUse []))
            ∧ (s.tableReferenced t = false → ∃ tb : List (Nat × TableState),
                exec (.beginTable p t) s
                  = .next (({ s with tables := tb }).answered p 0x20 .ok [BitVec.ofNat 8 t, 1#8])
                ∧ Store.get tb t = some (.loading p []) ∧ ∀ u : Nat, u ≠ t → Store.get tb u = Store.get s.tables u)))

/-- WRITE_TABLE_CHUNK of the owner: the 32 entries are stored at their addresses, -32,768 as -32,767 (CLAMPED), the chunk
joins the coverage, a chunk already covered stays covered once, the number of chunks covered is answered, and no other
entry or table changes; the refusals in order. -/
def Obligations.ChunkWriteStoresItsEntries : Prop :=
  ∀ (p : Port) (t c : Nat) (entries : List Int) (s : State),
    entries.length = 32 → (∀ v ∈ entries, -32768 ≤ v ∧ v ≤ 32767) →
    (t = 0 ∨ 15 < t ∨ 31 < c →
      exec (.writeTableChunk p t c entries) s = .next (s.answered p 0x21 .badArgument []))
    ∧ (0 < t → t ≤ 15 → c ≤ 31 →
        ((s.tableState t = .empty ∨ s.tableState t = .ready) →
          exec (.writeTableChunk p t c entries) s = .next (s.answered p 0x21 .wrongState []))
        ∧ (∀ (q : Port) (cov : List Nat), q ≠ p → s.tableState t = .loading q cov →
            exec (.writeTableChunk p t c entries) s = .next (s.answered p 0x21 .ownedByOther []))
        ∧ (∀ cov : List Nat, s.tableState t = .loading p cov →
            ∃ (tb : List (Nat × TableState)) (w : Memory) (cov' : List Nat),
              exec (.writeTableChunk p t c entries) s
                = .next (({ s with tables := tb, wave := w }).answered p 0x21
                    (if ∀ v ∈ entries, -32767 ≤ v then .ok else .clamped) [BitVec.ofNat 8 cov'.length])
              ∧ Store.get tb t = some (.loading p cov') ∧ (∀ d : Nat, d ∈ cov' ↔ d ∈ cov ∨ d = c)
              ∧ (coverageSound cov → coverageSound cov'
                  ∧ cov'.length = (if c ∈ cov then cov.length else cov.length + 1)
                  ∧ 1 ≤ cov'.length ∧ cov'.length ≤ 32)
              ∧ (∀ u : Nat, u ≠ t → Store.get tb u = Store.get s.tables u)
              ∧ (∀ (i : Nat) (v : Int), entries[i]? = some v →
                  Memory.read w (1024 * t + 32 * c + i) = max (-32767) v)
              ∧ (∀ a : Nat, a < 1024 * t + 32 * c ∨ 1024 * t + 32 * c + 32 ≤ a →
                  Memory.read w a = Memory.read s.wave a)))

/-- COMMIT_TABLE and DISCARD_TABLE: the refusals in order, READY on full coverage, EMPTY on a discard of a table that
nothing names; no entry changes. A coverage lists its chunks in ascending order, as `Obligations.StepKeepsReferencedTablesReady`
keeps it. -/
def Obligations.CommitAndDiscard : Prop :=
  ∀ (p : Port) (t : Nat) (s : State),
    (t = 0 ∨ 15 < t →
      exec (.commitTable p t) s = .next (s.answered p 0x22 .badArgument [])
      ∧ exec (.discardTable p t) s = .next (s.answered p 0x23 .badArgument []))
    ∧ (0 < t → t ≤ 15 →
        ((s.tableState t = .empty ∨ s.tableState t = .ready) →
          exec (.commitTable p t) s = .next (s.answered p 0x22 .wrongState []))
        ∧ (∀ (q : Port) (cov : List Nat), q ≠ p → s.tableState t = .loading q cov →
            exec (.commitTable p t) s = .next (s.answered p 0x22 .ownedByOther []))
        ∧ (∀ cov : List Nat, s.tableState t = .loading p cov → (∃ d : Nat, d < 32 ∧ d ∉ cov) →
            exec (.commitTable p t) s = .next (s.answered p 0x22 .notReady (numBytes 4 (chunkBits cov))))
        ∧ (∀ cov : List Nat, s.tableState t = .loading p cov → coverageSound cov → (∀ d : Nat, d < 32 → d ∈ cov) →
            ∃ tb : List (Nat × TableState),
              exec (.commitTable p t) s = .next (({ s with tables := tb }).answered p 0x22 .ok [])
              ∧ Store.get tb t = some .ready ∧ ∀ u : Nat, u ≠ t → Store.get tb u = Store.get s.tables u)
        ∧ (s.tableReferenced t = true → exec (.discardTable p t) s = .next (s.answered p 0x23 .inUse []))
        ∧ (s.tableReferenced t = false → ∃ tb : List (Nat × TableState),
            exec (.discardTable p t) s = .next (({ s with tables := tb }).answered p 0x23 .ok [])
            ∧ Store.get tb t = none ∧ ∀ u : Nat, u ≠ t → Store.get tb u = Store.get s.tables u))

/-- WRITE_OVERLAY_SET: the refusals in order; the set becomes the terms carried, in order, each adjusted to its ranges;
slots beyond the count are ignored. -/
def Obligations.OverlaySetReplaced : Prop :=
  ∀ (p : Port) (n count : Nat) (slots : List OverlaySlot) (s : State),
    (n = 0 ∨ 7 < n ∨ 6 < count →
      exec (.writeOverlaySet p n count slots) s = .next (s.answered p 0x26 .badArgument []))
    ∧ (0 < n → n ≤ 7 → count ≤ 6 →
        (s.overlayReferenced n = true →
          exec (.writeOverlaySet p n count slots) s = .next (s.answered p 0x26 .inUse []))
        ∧ (s.overlayReferenced n = false → ∃ (ov : List (Nat × List Term)) (st : StatusCode),
            exec (.writeOverlaySet p n count slots) s = .next (({ s with overlays := ov }).answered p 0x26 st [])
            ∧ Store.get ov n = some ((slots.take count).map
                (fun x => ⟨max 2 (min 40 x.order), min x.amplitude 500, x.phase⟩))
            ∧ (∀ m : Nat, m ≠ n → Store.get ov m = Store.get s.overlays m)
            ∧ st = (if ∀ x ∈ slots.take count, 2 ≤ x.order ∧ x.order ≤ 40 ∧ x.amplitude ≤ 500 then .ok else .clamped)))

/-! ### The step store and the directory -/

/-- The check of R62 on the named items of a WRITE_STEP, with R173's on its presence bytes and on the bits of its mask. -/
def stepNamesExist (r : RawStep) : Prop :=
  r.mask ≤ 7 ∧ r.unit ≤ 1
  ∧ r.hasSync ≤ 1 ∧ r.hasHold ≤ 1 ∧ r.hasLevel ≤ 1 ∧ r.hasFreq ≤ 1 ∧ r.hasJump ≤ 1 ∧ r.hasShape ≤ 1
  ∧ r.hasMarkers ≤ 1 ∧ r.hasCapture ≤ 1 ∧ r.hasWait ≤ 1 ∧ r.hasOpen ≤ 1 ∧ r.hasClose ≤ 1
  ∧ (r.hasHold = 1 → r.holdKey = 1 ∨ r.holdKey = 2)
  ∧ (r.hasShape = 1 → r.table ≤ 15 ∧ r.overlay ≤ 7)
  ∧ (r.hasMarkers = 1 → r.marker1 ≤ 3 ∧ r.marker2 ≤ 3)
  ∧ (r.hasCapture = 1 → r.descriptor ≤ 15)
  ∧ (r.hasWait = 1 → 1 ≤ r.waitChannel ∧ r.waitChannel ≤ 3 ∧ r.quantity ≤ 1 ∧ r.relation ≤ 1 ∧ r.onTimeout ≤ 1)
  ∧ (r.hasClose = 1 → 1 ≤ r.closeCount ∧ r.closeCount ≤ 4)

/-- The record that an accepted WRITE_STEP holds: the parts it carries (R62), each numeric field adjusted (R63), with T,
Ft and J beside their settings (R61). -/
def stepHeld (r : RawStep) : StepRecord :=
  let action (n : Nat) : MarkerAction := [MarkerAction.none, .set, .clear, .pulse].getD n .none
  let word (f : Nat) : Int := ((2 * f * 4294967296 + 2560000) / 5120000 : Nat)
  let jump (a : Int) : Int := a.sign * (((2 * a.natAbs * 4294967296 + 3600) / 7200 : Nat) : Int)
  { mask := ⟨r.mask.testBit 0, r.mask.testBit 1, r.mask.testBit 2⟩
    sync := if r.hasSync = 0 then none
      else some ⟨min r.sync 3599, BitVec.ofNat 32 (min r.sync 3599 * 4294967296 / 3600)⟩
    hold := if r.hasHold = 0 then none else some (if r.holdKey = 1 then .K1 else .K2)
    level := if r.hasLevel = 0 then none else some ⟨min r.level 2000, r.levelRamp⟩
    freq := if r.hasFreq = 0 then none
      else some ⟨max 4000 (min 44000 r.freq), word (max 4000 (min 44000 r.freq)), r.freqRamp⟩
    jump := if r.hasJump = 0 then none
      else some ⟨max (-1800) (min 1800 r.jump), jump (max (-1800) (min 1800 r.jump))⟩
    shape := if r.hasShape = 0 then none else some ⟨r.table, r.overlay⟩
    markers := if r.hasMarkers = 0 then none else some ⟨action r.marker1, action r.marker2⟩
    capture := if r.hasCapture = 0 then none else some r.descriptor
    duration := if r.unit = 0 then ⟨max 1 (min 16777215 r.count), .samples⟩ else ⟨max 1 (min 65535 r.count), .cycles⟩
    wait := if r.hasWait = 0 then none
      else some { channel := if r.waitChannel = 1 then .L1 else if r.waitChannel = 2 then .L2 else .L3
                  quantity := if r.quantity = 0 then .V else .I
                  relation := if r.relation = 0 then .below else .above
                  threshold := min r.threshold 32767, consecutive := max 1 (min 255 r.consecutive)
                  timeout := r.timeout, onTimeout := if r.onTimeout = 0 then .continue_ else .abort }
    groupOpen := if r.hasOpen = 0 then none else some r.openCount
    groupClose := if r.hasClose = 0 then none else some r.closeCount }

/-- WRITE_STEP: BAD_ARGUMENT for a number past 255 or a named item outside its set, IN_USE for a step in the range of a
running lane; else the record carried, part by part, its numeric fields adjusted and with its converted values, replaces
the one at its number and no other, and the response names the adjusted parts. That a part is named by its position in
the table of R60, that the parts come in that table's order, and a choice by its position in its list, is log 15's. -/
def Obligations.WriteStepReplacesRecord : Prop :=
  ∀ (p : Port) (n : Nat) (r : RawStep) (s : State),
    (255 < n ∨ ¬ stepNamesExist r → exec (.writeStep p n r) s = .next (s.answered p 0x30 .badArgument []))
    ∧ (n ≤ 255 → stepNamesExist r →
        ((∃ l : LaneId, s.inRange (s.lanes.get l) n = true) →
          exec (.writeStep p n r) s = .next (s.answered p 0x30 .inUse []))
        ∧ ((∀ l : LaneId, s.inRange (s.lanes.get l) n = false) →
            ∃ (st : List (Nat × StepRecord)) (parts : List Nat),
              exec (.writeStep p n r) s
                = .next (({ s with steps := st }).answered p 0x30 (if parts = [] then .ok else .clamped)
                    (BitVec.ofNat 8 n :: BitVec.ofNat 8 parts.length :: parts.map (BitVec.ofNat 8)))
              ∧ Store.get st n = some (stepHeld r) ∧ (∀ m : Nat, m ≠ n → Store.get st m = Store.get s.steps m)
              ∧ parts.Pairwise (· < ·)
              ∧ (∀ k : Nat, k ∈ parts ↔
                  (k = 1 ∧ r.hasSync = 1 ∧ 3599 < r.sync) ∨ (k = 3 ∧ r.hasLevel = 1 ∧ 2000 < r.level)
                  ∨ (k = 4 ∧ r.hasFreq = 1 ∧ (r.freq < 4000 ∨ 44000 < r.freq))
                  ∨ (k = 5 ∧ r.hasJump = 1 ∧ (r.jump < -1800 ∨ 1800 < r.jump))
                  ∨ (k = 9 ∧ (r.count = 0 ∨ 16777215 < r.count ∨ (r.unit = 1 ∧ 65535 < r.count)))
                  ∨ (k = 10 ∧ r.hasWait = 1 ∧ (32767 < r.threshold ∨ r.consecutive = 0 ∨ 255 < r.consecutive)))))

/-- CLEAR_STEP and WRITE_PROGRAM: the checks in order, and the one entry changed. WRITE_PROGRAM answers the entry as it
now stands (R69); that its defined flag is the presence byte of its fields, and that an undefined entry's fields are
zeros, is log 15's. -/
def Obligations.StoreAndDirectoryWrites : Prop :=
  ∀ (p : Port) (n : Nat) (s : State),
    (255 < n → exec (.clearStep p n) s = .next (s.answered p 0x32 .badArgument []))
    ∧ (n ≤ 255 → (∃ l : LaneId, s.inRange (s.lanes.get l) n = true) →
        exec (.clearStep p n) s = .next (s.answered p 0x32 .inUse []))
    ∧ (n ≤ 255 → (∀ l : LaneId, s.inRange (s.lanes.get l) n = false) → ∃ st : List (Nat × StepRecord),
        exec (.clearStep p n) s = .next (({ s with steps := st }).answered p 0x32 .ok [])
        ∧ Store.get st n = none ∧ ∀ m : Nat, m ≠ n → Store.get st m = Store.get s.steps m)
    ∧ (∀ first count policy : Nat,
        (7 < n ∨ 255 < first ∨ count = 0 ∨ 256 < first + count ∨ 1 < policy →
          exec (.writeProgramDefine p n first count policy) s = .next (s.answered p 0x33 .badArgument []))
        ∧ (n ≤ 7 → first ≤ 255 → 0 < count → first + count ≤ 256 → policy ≤ 1 →
            ((∃ l : LaneId, (s.lanes.get l).state ≠ .idle ∧ (s.lanes.get l).program = some n) →
              exec (.writeProgramDefine p n first count policy) s = .next (s.answered p 0x33 .inUse []))
            ∧ ((∀ l : LaneId, (s.lanes.get l).state = .idle ∨ (s.lanes.get l).program ≠ some n) →
                ∃ pr : List (Nat × Program),
                  exec (.writeProgramDefine p n first count policy) s
                    = .next (({ s with programs := pr }).answered p 0x33 .ok
                        (1#8 :: BitVec.ofNat 8 first :: numBytes 2 count ++ [BitVec.ofNat 8 policy]))
                  ∧ Store.get pr n = some ⟨first, count, if policy = 0 then .keep else .restore⟩
                  ∧ ∀ m : Nat, m ≠ n → Store.get pr m = Store.get s.programs m)))
    ∧ (7 < n → exec (.writeProgramUndefine p n) s = .next (s.answered p 0x33 .badArgument []))
    ∧ (n ≤ 7 → (∃ l : LaneId, (s.lanes.get l).state ≠ .idle ∧ (s.lanes.get l).program = some n) →
        exec (.writeProgramUndefine p n) s = .next (s.answered p 0x33 .inUse []))
    ∧ (n ≤ 7 → (∀ l : LaneId, (s.lanes.get l).state = .idle ∨ (s.lanes.get l).program ≠ some n) →
        ∃ pr : List (Nat × Program),
          exec (.writeProgramUndefine p n) s
            = .next (({ s with programs := pr }).answered p 0x33 .ok [0#8, 0#8, 0#8, 0#8, 0#8])
          ∧ Store.get pr n = none ∧ ∀ m : Nat, m ≠ n → Store.get pr m = Store.get s.programs m)

/-- No step record in the program range of a running lane, and no entry of its program, changes while it runs. -/
def Obligations.RunningProgramIsProtected : Prop :=
  ∀ (i : Instr) (s t : State) (l : LaneId), exec i s = .next t →
    (s.lanes.get l).state ≠ .idle → (t.lanes.get l).state ≠ .idle →
    (∀ n : Nat, s.inRange (s.lanes.get l) n = true → Store.get t.steps n = Store.get s.steps n)
    ∧ (∀ n : Nat, (s.lanes.get l).program = some n → Store.get t.programs n = Store.get s.programs n)

/-! ### Lanes -/

/-- An accepted START: the lowest IDLE lane takes the program, the port and the set, each channel its snapshot, the end
record is cleared, and the lane enters step 0: HELD on a set key, ALIGNING otherwise. Nothing else changes but the
LANE_HELD alert of a hold. The fields that the spec gives no value here are none or empty (log 11). -/
def Obligations.StartTakesLowestIdleLane : Prop :=
  ∀ (p : Port) (n m : Nat) (chans : ChannelSet) (q : Program) (step : StepRecord) (l : LaneId) (s : State),
    s.trip.state = .normal → n < 8 → Store.get s.programs n = some q → channelSetOf m = some chans →
    noChannels chans = false → (∀ c : Channel, chans.get c = true → s.boundTo c = none ∧ (s.chans.get c).staged = none) →
    s.validate q chans = none → Store.get s.steps q.first = some step →
    (s.lanes.get l).state = .idle → (∀ l' : LaneId, laneNumber l' < laneNumber l → (s.lanes.get l').state ≠ .idle) →
    ∃ t : State,
      exec (.start p n m) s
        = .next (t.answered p 0x40 .ok [BitVec.ofNat 8 (laneNumber l), BitVec.ofNat 8 (channelNumber (lowest chans))])
      ∧ t.lanes.get l = { Lane.reset with
          state := if (s.holdAt step).isSome then .held else .aligning, program := some n, origin := some p,
          channels := chans, position := some 0,
          stack := (step.groupOpen.map (fun c => ⟨0, c⟩)).toList,
          holdReason := s.holdAt step, heldFrom := if (s.holdAt step).isSome then some .entry else none,
          snapshots := ⟨if chans.l1 then some s.chans.l1.active else none,
                        if chans.l2 then some s.chans.l2.active else none,
                        if chans.l3 then some s.chans.l3.active else none⟩ }
      ∧ (∀ l' : LaneId, l' ≠ l → t.lanes.get l' = s.lanes.get l')
      ∧ t.chans = s.chans ∧ t.trip = s.trip ∧ t.links = s.links ∧ s.restKept t
      ∧ (s.holdAt step = none → t.ports = s.ports)
      ∧ ((s.holdAt step).isSome → t.ports = (s.alert p (.laneHeld l)).ports)

/-- The groups open before position `k` of a program: opens counted before closes, step by step (R77). -/
def groupsOpen (s : State) (q : Program) : Nat → Nat
  | 0 => 0
  | k + 1 =>
    match Store.get s.steps (q.first + k) with
    | none => groupsOpen s q k
    | some x => groupsOpen s q k + (if x.groupOpen.isSome then 1 else 0) - x.groupClose.getD 0

/-- The reasons of the checks of R76 that position `k` of a program fails over a channel set, in their order:
UNDEFINED_STEP 0, MASK_OUTSIDE 1, BAD_WAIT_CHANNEL 2, TABLE_NOT_READY 3, GROUP_DEPTH 4, UNBALANCED 5 (numbered by log
15). -/
def checksFailed (s : State) (q : Program) (chans : ChannelSet) (k : Nat) : List Nat :=
  match Store.get s.steps (q.first + k) with
  | none => [0]
  | some x =>
    let opened := groupsOpen s q k + (if x.groupOpen.isSome then 1 else 0)
    let close := x.groupClose.getD 0
    (if (x.mask.l1 ∧ ¬ chans.l1) ∨ (x.mask.l2 ∧ ¬ chans.l2) ∨ (x.mask.l3 ∧ ¬ chans.l3) then [1] else [])
    ++ (if x.wait.any (fun w => !chans.get w.channel) then [2] else [])
    ++ (if x.shape.any (fun h => s.tableState h.table != .ready) then [3] else [])
    ++ (if 4 < opened then [4] else [])
    ++ (if opened < close then [5] else [])
    ++ (if k + 1 = q.count ∧ close < opened then [5] else [])

/-- START's refusals, in the order of its checks. The steps of the program are checked one after another: BAD_PROGRAM
carries the store number, the position and the reason of the first check that the first failing step fails, and a program
of which no step fails validates. The numbers of the reasons are log 15's. -/
def Obligations.StartRefusals : Prop :=
  ∀ (p : Port) (n m : Nat) (s : State),
    (s.trip.state = .tripped → exec (.start p n m) s = .next (s.answered p 0x40 .tripped []))
    ∧ (s.trip.state = .normal →
        (7 < n ∨ Store.get s.programs n = none ∨ m = 0 ∨ 7 < m →
          exec (.start p n m) s = .next (s.answered p 0x40 .badArgument []))
        ∧ (∀ (q : Program) (chans : ChannelSet), n < 8 → Store.get s.programs n = some q →
            channelSetOf m = some chans → noChannels chans = false →
            (∀ (c : Channel) (l : LaneId), chans.get c = true → s.boundTo c = some l →
              (∀ c' : Channel, channelNumber c' < channelNumber c → chans.get c' = true → s.boundTo c' = none) →
              exec (.start p n m) s = .next (s.answered p 0x40 .channelBusy [BitVec.ofNat 8 (laneNumber l)]))
            ∧ ((∀ c : Channel, chans.get c = true → s.boundTo c = none) →
                (∀ c : Channel, chans.get c = true → (s.chans.get c).staged.isSome →
                  (∀ c' : Channel, channelNumber c' < channelNumber c → chans.get c' = true →
                    (s.chans.get c').staged = none) →
                  exec (.start p n m) s = .next (s.answered p 0x40 .pending [BitVec.ofNat 8 (channelNumber c)]))
                ∧ ((∀ c : Channel, chans.get c = true → (s.chans.get c).staged = none) →
                    (∀ k reason : Nat, k < q.count → (∀ j : Nat, j < k → checksFailed s q chans j = []) →
                      (checksFailed s q chans k).head? = some reason →
                      exec (.start p n m) s = .next (s.answered p 0x40 .badProgram
                        [BitVec.ofNat 8 (q.first + k), BitVec.ofNat 8 k, BitVec.ofNat 8 reason]))
                    ∧ ((∀ k : Nat, k < q.count → checksFailed s q chans k = []) →
                        s.validate q chans = none
                        ∧ ((∀ l : LaneId, (s.lanes.get l).state ≠ .idle) →
                            exec (.start p n m) s = .next (s.answered p 0x40 .noLane [])))
                    ∧ (s.validate q chans = none →
                        (∀ k : Nat, k < q.count → ∃ x : StepRecord, Store.get s.steps (q.first + k) = some x
                          ∧ channelsWithin x.mask chans = true ∧ (∀ w ∈ x.wait, chans.get w.channel = true)
                          ∧ (∀ h ∈ x.shape, s.tableState h.table = .ready)
                          ∧ checksFailed s q chans k = [])
                        ∧ groupsOpen s q q.count = 0)))))

/-- HOLD and RESUME: which states each accepts, what the lane becomes, LANE_HELD to the originating port, and the
refusals. -/
def Obligations.HoldAndResume : Prop :=
  ∀ (p : Port) (n : Nat) (s : State),
    (2 < n → exec (.hold p n) s = .next (s.answered p 0x41 .badArgument [])
      ∧ exec (.resume p n) s = .next (s.answered p 0x42 .badArgument []))
    ∧ ∀ l : LaneId, n = laneNumber l →
      let x := s.lanes.get l
      ((x.state = .idle ∨ x.state = .held ∨ x.state = .closing) →
        exec (.hold p n) s = .next (s.answered p 0x41 .wrongState []))
      ∧ (∀ f : HeldFrom, (x.state = .aligning ∧ f = .aligning) ∨ (x.state = .dwell ∧ f = .dwell)
          ∨ (x.state = .waiting ∧ f = .waiting) →
          exec (.hold p n) s
            = .next (((s.setLane l { x with state := .held, holdReason := some .command, heldFrom := some f }).alertOrigin
                x.origin (.laneHeld l)).answered p 0x41 .ok []))
      ∧ (x.state ≠ .held → exec (.resume p n) s = .next (s.answered p 0x42 .wrongState []))
      ∧ (x.state = .held → (x.heldFrom = some .entry ∨ x.heldFrom = some .aligning) →
          exec (.resume p n) s = .next ((s.setLane l { x with
            state := .aligning, holdReason := none, heldFrom := none }).answered p 0x42 .ok []))
      ∧ (x.state = .held → x.heldFrom = some .dwell →
          exec (.resume p n) s = .next ((s.setLane l { x with
            state := .dwell, holdReason := none, heldFrom := none }).answered p 0x42 .ok []))
      ∧ (x.state = .held → x.heldFrom = some .waiting →
          exec (.resume p n) s = .next ((s.setLane l { x with
            state := .waiting, holdReason := none, heldFrom := none, consecutive := 0 }).answered p 0x42 .ok []))

/-- RELEASE and ABORT: which lanes each accepts, what the lane becomes, and the refusals. That a CLOSING lane
reports no step and no dwell is log 11's. -/
def Obligations.ReleaseAndAbort : Prop :=
  ∀ (p : Port) (n : Nat) (s : State),
    (2 < n → exec (.release p n) s = .next (s.answered p 0x43 .badArgument [])
      ∧ exec (.abort p n) s = .next (s.answered p 0x44 .badArgument []))
    ∧ ∀ l : LaneId, n = laneNumber l →
      let x := s.lanes.get l
      ((∀ e ∈ x.stack, e.remaining ≠ 0) → exec (.release p n) s = .next (s.answered p 0x43 .wrongState []))
      ∧ ((∃ e ∈ x.stack, e.remaining = 0) →
          exec (.release p n) s = .next ((s.setLane l { x with releasePending := true }).answered p 0x43 .ok []))
      ∧ ((x.state = .idle ∨ x.state = .closing) → exec (.abort p n) s = .next (s.answered p 0x44 .wrongState []))
      ∧ (x.state ≠ .idle → x.state ≠ .closing →
          exec (.abort p n) s = .next ((s.setLane l { x with
            state := .closing
            ending := { x.ending with reason := (match p with | .A => .abortedA | .B => .abortedB),
                                      position := x.position.getD 0 }
            stack := [], releasePending := false, holdReason := none, heldFrom := none,
            reverted := ⟨false, false, false⟩, position := none, dwell := none }).answered p 0x44 .ok []))

/-- SET_HOLD_KEY and CLEAR_HOLD_KEY: the key named is set or cleared, the answer gives both keys, and another number is
refused. -/
def Obligations.HoldKeyCommands : Prop :=
  ∀ (p : Port) (s : State),
    exec (.setHoldKey p 1) s
      = .next (({ s with key1 := true }).answered p 0x46 .ok [1#8, if s.key2 then 1#8 else 0#8])
    ∧ exec (.setHoldKey p 2) s
        = .next (({ s with key2 := true }).answered p 0x46 .ok [if s.key1 then 1#8 else 0#8, 1#8])
    ∧ exec (.clearHoldKey p 1) s
        = .next (({ s with key1 := false }).answered p 0x47 .ok [0#8, if s.key2 then 1#8 else 0#8])
    ∧ exec (.clearHoldKey p 2) s
        = .next (({ s with key2 := false }).answered p 0x47 .ok [if s.key1 then 1#8 else 0#8, 0#8])
    ∧ ∀ n : Nat, n ≠ 1 → n ≠ 2 →
        exec (.setHoldKey p n) s = .next (s.answered p 0x46 .badArgument [])
        ∧ exec (.clearHoldKey p n) s = .next (s.answered p 0x47 .badArgument [])

/-- What R49 and R53 report of the references to `k`: `named` says whether there is one; `a` and `b` are the channels
whose active and whose pending staged set names it, `l` the lanes whose program steps or snapshots do (R54). -/
def holdersAre (s : State) (f : ParamSet → Nat) (g : ShapePart → Nat) (k : Nat) (named : Bool) (a b : ChannelSet)
    (l : LaneSet) : Prop :=
  (∀ c : Channel, a.get c = true ↔ f (s.chans.get c).active = k)
  ∧ (∀ c : Channel, b.get c = true ↔ ∃ q : ParamSet, (s.chans.get c).staged = some q ∧ f q = k)
  ∧ (∀ i : LaneId, l.get i = true ↔ (s.lanes.get i).state ≠ .idle ∧
      ((∃ (n : Nat) (x : StepRecord) (h : ShapePart), s.inRange (s.lanes.get i) n = true ∧ (n, x) ∈ s.steps
          ∧ x.shape = some h ∧ g h = k)
        ∨ ∃ (c : Channel) (q : ParamSet), (s.lanes.get i).snapshots.get c = some q ∧ f q = k))
  ∧ (named = true ↔ (∃ c : Channel, a.get c = true ∨ b.get c = true) ∨ ∃ i : LaneId, l.get i = true)

/-- The parts of a step record in the order in which WRITE_STEP carries them, T, Ft and J beside their settings (R66);
an absent part is a presence byte 0 and zeros (log 15). -/
def stepReport (x : StepRecord) : List Byte :=
  byteItem (channelBits x.mask) ++ numBytes 3 x.duration.count
  ++ byteItem (match x.duration.unit with | .samples => 0 | .cycles => 1)
  ++ optItem 6 (x.sync.map (fun q => numBytes 2 q.angle ++ numBytes 4 q.threshold.toNat))
  ++ optItem 1 (x.hold.map (fun k => byteItem (match k with | .K1 => 1 | .K2 => 2)))
  ++ optItem 4 (x.level.map (fun q => numBytes 2 q.target ++ numBytes 2 q.ramp))
  ++ optItem 8 (x.freq.map (fun q => numBytes 2 q.target ++ numBytes 4 q.word.toNat ++ numBytes 2 q.ramp))
  ++ optItem 7 (x.jump.map (fun q => intBytes 2 q.angle ++ intBytes 5 q.word))
  ++ optItem 2 (x.shape.map (fun q => byteItem q.table ++ byteItem q.overlay))
  ++ optItem 2 (x.markers.map (fun q => byteItem (markerNumber q.m1) ++ byteItem (markerNumber q.m2)))
  ++ optItem 1 (x.capture.map byteItem)
  ++ optItem 9 (x.wait.map (fun w => byteItem (channelNumber w.channel)
      ++ byteItem (match w.quantity with | .V => 0 | .I => 1)
      ++ byteItem (match w.relation with | .below => 0 | .above => 1)
      ++ numBytes 2 w.threshold ++ byteItem w.consecutive ++ numBytes 2 w.timeout
      ++ byteItem (match w.onTimeout with | .continue_ => 0 | .abort => 1)))
  ++ optItem 2 (x.groupOpen.map (numBytes 2)) ++ optItem 1 (x.groupClose.map byteItem)

/-- The contents of GET_LANE for lane record `x`, row by row of R109. -/
def laneReport (s : State) (x : Lane) : List Byte :=
  let dwelling : Bool := x.state == .dwell || (x.state == .held && x.heldFrom == some .dwell)
  let waiting : Bool := x.state == .waiting || (x.state == .held && x.heldFrom == some .waiting)
  let taken : List ParamSet := x.snapshots.l1.toList ++ x.snapshots.l2.toList ++ x.snapshots.l3.toList
  byteItem (laneStateNumber x.state) ++ optItem 1 (x.program.map byteItem)
  ++ optItem 1 (x.origin.map (fun p => byteItem (portNumber p))) ++ byteItem (channelBits x.channels)
  ++ optItem 1 (if noChannels x.channels then none else some (byteItem (channelNumber (lowest x.channels))))
  ++ optItem 2 (x.position.map (fun k => byteItem k ++ byteItem (((s.programOf x).map (fun q => q.first + k)).getD 0)))
  ++ listItem (x.stack.map (fun e => byteItem e.opening ++ numBytes 2 e.remaining))
  ++ optItem 4 (if dwelling then x.dwell.map (fun d => numBytes 3 d.count
      ++ byteItem (match d.unit with | .samples => 0 | .cycles => 1)) else none)
  ++ optItem 3 (if waiting then some (byteItem x.consecutive ++ numBytes 2 x.timeout) else none)
  ++ flagItem x.releasePending ++ optItem 1 (x.holdReason.map (fun r => byteItem (holdReasonNumber r)))
  ++ optItem 1 (x.heldFrom.map (fun f => byteItem (heldFromNumber f)))
  ++ listItem (taken.map snapshotReport) ++ byteItem (channelBits x.reverted)
  ++ byteItem (endReasonNumber x.ending.reason) ++ byteItem x.ending.position ++ numBytes 2 x.ending.timeouts
  ++ flagItem x.ending.missed ++ flagItem s.key1 ++ flagItem s.key2
  ++ byteItem (if s.marker1.high then 0 else 1) ++ byteItem (if s.marker2.high then 0 else 1)

/-- The contents of GET_MEASUREMENT, row by row of R122: the record with the fields of R120, the open accumulation without
its sums, the next sequence number. -/
def measurementReport (x : Sense) : List Byte :=
  let polarity (p : Polarity) : List Byte := byteItem (match p with | .positive => 0 | .negative => 1)
  (match x.record with
    | none => List.replicate 16 0#8
    | some m => 1#8 :: numBytes 2 m.seq ++ polarity m.polarity ++ numBytes 2 m.n ++ numBytes 2 m.missing
        ++ numBytes 2 m.limit ++ numBytes 2 m.rmsV ++ numBytes 2 m.rmsI ++ flagItem m.incomplete ++ flagItem m.truncated)
  ++ (if x.isOpen then 1#8 :: polarity (x.polarity.getD .positive) ++ numBytes 2 x.n ++ numBytes 2 x.missing
        ++ numBytes 2 x.limit else List.replicate 8 0#8)
  ++ numBytes 2 x.nextSeq

/-- A descriptor as READ_DESCRIPTOR and WRITE_DESCRIPTOR answer it: its defined flag and the fields of R125. -/
def descriptorReport (d : Option Descriptor) : List Byte :=
  match d with
  | none => List.replicate 17 0#8
  | some x => 1#8 :: byteItem (sourceNumber x.source) ++ byteItem (channelNumber x.channel) ++ numBytes 2 x.base
      ++ numBytes 2 x.count ++ byteItem (match x.next with | some n => n | none => 255) ++ numBytes 2 x.decimation
      ++ optItem 2 (x.deadband.map (numBytes 2))
      ++ optItem 3 (x.monitor.map (fun m => byteItem (match m.relation with | .above => 0 | .below => 1)
          ++ numBytes 2 m.threshold))

/-- The contents of GET_CAPTURE, row by row of R141. -/
def captureReport (e : Engine) : List Byte :=
  flagItem e.isActive ++ optItem 3 (e.originator.map originatorItem) ++ numBytes 2 e.run
  ++ (if e.isActive then optItem 1 (e.current.map byteItem) ++ 1#8 :: numBytes 2 e.writeIndex ++ 1#8 :: byteItem e.phase
        ++ optItem 2 (e.last.map (intBytes 2)) else List.replicate 10 0#8)
  ++ numBytes 2 e.ends ++ flagItem e.missed

/-- The contents of GET_TRIP, row by row of R154. -/
def tripReport (t : TripUnit) : List Byte :=
  let output (o : OutputState) : List Byte := byteItem (match o with | .driving => 0 | .parked => 1 | .unparking => 2)
  byteItem (match t.state with | .normal => 0 | .tripped => 1) ++ byteItem (sourceBits t.active)
  ++ numBytes 2 (causeBits t.causes) ++ byteItem (causeNumber t.first.cause)
  ++ optItem 1 (t.first.port.map (fun p => byteItem (portNumber p)))
  ++ output t.outputs.l1 ++ output t.outputs.l2 ++ output t.outputs.l3

/-- The reading commands: each is answered OK in its range, with its report of the fields that its rule names as they
stand (R49, R53, R66, R70, R109, R122, R127, R141, R154), refused outside it, and changes nothing but the response. The
layouts of the bodies are R173's, and where it leaves a byte open log 15's. -/
def Obligations.ReadingCommandsChangeNothing : Prop :=
  ∀ (p : Port) (s : State),
    (∀ t c : Nat, t ≤ 15 → c ≤ 31 → ∃ entries : List Byte, entries.length = 64
      ∧ (∀ i : Nat, i < 32 → (entries.drop (2 * i)).take 2 = intBytes 2 (s.entry t (32 * c + i)))
      ∧ exec (.readTableChunk p t c) s
        = .next (s.answered p 0x24 .ok (BitVec.ofNat 8 (tableStateNumber (s.tableState t)) :: entries)))
    ∧ (∀ t c : Nat, (15 < t ∨ 31 < c) → exec (.readTableChunk p t c) s = .next (s.answered p 0x24 .badArgument []))
    ∧ (∀ t : Nat, t ≤ 15 → ∃ (named : Bool) (a b : ChannelSet) (l : LaneSet),
        holdersAre s ParamSet.table ShapePart.table t named a b l
        ∧ exec (.getTableState p t) s = .next (s.answered p 0x25 .ok
            ((match s.tableState t with
              | .empty => [0#8, 0#8, 0#8] ++ numBytes 4 0
              | .loading q cov => [1#8, 1#8, (match q with | .A => 0#8 | .B => 1#8)] ++ numBytes 4 (chunkBits cov)
              | .ready => [2#8, 0#8, 0#8] ++ numBytes 4 4294967295)
            ++ flagItem named ++ byteItem (channelBits a) ++ byteItem (channelBits b) ++ byteItem (laneBits l))))
    ∧ (∀ t : Nat, 15 < t → exec (.getTableState p t) s = .next (s.answered p 0x25 .badArgument []))
    ∧ (∀ n : Nat, n ≤ 7 → ∃ (named : Bool) (a b : ChannelSet) (l : LaneSet),
        holdersAre s ParamSet.overlay ShapePart.overlay n named a b l
        ∧ exec (.readOverlaySet p n) s = .next (s.answered p 0x27 .ok
            (BitVec.ofNat 8 (s.terms n).length
              :: ((s.terms n).map (fun x => BitVec.ofNat 8 x.order :: numBytes 2 x.amplitude ++ numBytes 2 x.phase)).flatten
            ++ flagItem named ++ byteItem (channelBits a) ++ byteItem (channelBits b) ++ byteItem (laneBits l))))
    ∧ (∀ n : Nat, 7 < n → exec (.readOverlaySet p n) s = .next (s.answered p 0x27 .badArgument []))
    ∧ (∀ n : Nat, n ≤ 255 → exec (.readStep p n) s = .next (s.answered p 0x31 .ok
        ((match Store.get s.steps n with | none => List.replicate 60 0#8 | some x => 1#8 :: stepReport x)
        ++ byteItem (laneBits ⟨s.inRange s.lanes.n0 n, s.inRange s.lanes.n1 n, s.inRange s.lanes.n2 n⟩))))
    ∧ (∀ n : Nat, 255 < n → exec (.readStep p n) s = .next (s.answered p 0x31 .badArgument []))
    ∧ (∀ n : Nat, n ≤ 7 → exec (.readProgram p n) s = .next (s.answered p 0x34 .ok
        ((match Store.get s.programs n with
          | none => List.replicate 5 0#8
          | some q => 1#8 :: byteItem q.first ++ numBytes 2 q.count
              ++ byteItem (match q.policy with | .keep => 0 | .restore => 1))
        ++ byteItem (laneBits ⟨s.lanes.n0.running && decide (s.lanes.n0.program = some n),
            s.lanes.n1.running && decide (s.lanes.n1.program = some n),
            s.lanes.n2.running && decide (s.lanes.n2.program = some n)⟩))))
    ∧ (∀ n : Nat, 7 < n → exec (.readProgram p n) s = .next (s.answered p 0x34 .badArgument []))
    ∧ (∀ l : LaneId, exec (.getLane p (laneNumber l)) s
        = .next (s.answered p 0x45 .ok (laneReport s (s.lanes.get l))))
    ∧ (∀ n : Nat, 2 < n → exec (.getLane p n) s = .next (s.answered p 0x45 .badArgument []))
    ∧ (∀ c : Channel, exec (.getMeasurement p (channelNumber c)) s
        = .next (s.answered p 0x50 .ok (measurementReport (s.sense.get c))))
    ∧ (∀ n : Nat, (n = 0 ∨ 3 < n) → exec (.getMeasurement p n) s = .next (s.answered p 0x50 .badArgument []))
    ∧ (∀ d : Nat, d ≤ 15 → exec (.readDescriptor p d) s = .next (s.answered p 0x61 .ok
        (descriptorReport (Store.get s.descs d)
        ++ (match Store.get s.comps d with
          | none => List.replicate 6 0#8
          | some r => 1#8 :: numBytes 2 r.words ++ byteItem (passReasonNumber r.reason) ++ numBytes 2 r.run)
        ++ flagItem (s.engine.isActive && s.engine.current == some d))))
    ∧ (∀ d : Nat, 15 < d → exec (.readDescriptor p d) s = .next (s.answered p 0x61 .badArgument []))
    ∧ exec (.getCapture p) s = .next (s.answered p 0x65 .ok (captureReport s.engine))
    ∧ exec (.getTrip p) s = .next (s.answered p 0x72 .ok (tripReport s.trip))

/-- READ_CAPTURE returns the words from a to a + c - 1 as they stand, each in two bytes, and refuses any other range. That
no count byte stands before the words is log 15's. -/
def Obligations.ReadCaptureReturnsWords : Prop :=
  ∀ (p : Port) (a c : Nat) (s : State),
    (a ≤ 16383 → 1 ≤ c → c ≤ 32 → a + c ≤ 16384 → ∃ body : List Byte, body.length = 2 * c
      ∧ (∀ k : Nat, k < c → (body.drop (2 * k)).take 2 = intBytes 2 (Memory.read s.mem (a + k)))
      ∧ exec (.readCapture p a c) s = .next (s.answered p 0x64 .ok body))
    ∧ (16383 < a ∨ c = 0 ∨ 32 < c ∨ 16384 < a + c →
        exec (.readCapture p a c) s = .next (s.answered p 0x64 .badArgument []))

/-! ### Capture -/

/-- The check of R126 on the named items of a DEFINE, with R173's on its presence bytes. -/
def descriptorNamesExist (r : RawDescriptor) : Prop :=
  r.source ≤ 4 ∧ 1 ≤ r.channel ∧ r.channel ≤ 3 ∧ (r.next ≤ 15 ∨ r.next = 255) ∧ r.hasDeadband ≤ 1 ∧ r.hasMonitor ≤ 1
  ∧ (r.hasMonitor = 1 → r.relation ≤ 1)

/-- The descriptor that an accepted DEFINE holds, adjusted in the order of R126. -/
def descriptorHeld (r : RawDescriptor) : Descriptor :=
  { source := [Source.setpoint, .senseV, .senseI, .rmsV, .rmsI].getD r.source .setpoint
    channel := if r.channel = 1 then .L1 else if r.channel = 2 then .L2 else .L3
    base := min r.base 16383
    count := min (max r.count 1) (16384 - min r.base 16383)
    next := if r.next = 255 then none else some r.next
    decimation := max 1 (min r.decimation 256)
    deadband := if r.hasDeadband = 0 then none else some (min r.deadband 32767)
    monitor := if r.hasMonitor = 0 then none
      else some ⟨if r.relation = 0 then .above else .below, min r.threshold 32767⟩ }

/-- WRITE_DESCRIPTOR: the checks in order; DEFINE replaces the descriptor whole by the fields it carries, adjusted in the
order of R126, so that the buffer lies in the memory, and answers the descriptor as it now stands; either form makes the
completion record absent and touches no other descriptor. That the answer holds no completion record, and its bytes where
R173 leaves them open, are log 15's. -/
def Obligations.WriteDescriptorReplaces : Prop :=
  ∀ (p : Port) (d : Nat) (s : State),
    (∀ r : RawDescriptor,
      (15 < d ∨ ¬ descriptorNamesExist r →
        exec (.writeDescriptorDefine p d r) s = .next (s.answered p 0x60 .badArgument []))
      ∧ (d ≤ 15 → descriptorNamesExist r →
          (s.engine.isActive = true → exec (.writeDescriptorDefine p d r) s = .next (s.answered p 0x60 .busy []))
          ∧ (s.engine.isActive = false →
              let x := descriptorHeld r
              x.inMemory ∧ ∃ (ds : List (Nat × Descriptor)) (cs : List (Nat × Completion)) (st : StatusCode),
                exec (.writeDescriptorDefine p d r) s = .next (({ s with descs := ds, comps := cs }).answered p 0x60 st
                  (descriptorReport (some x)))
                ∧ Store.get ds d = some x ∧ Store.get cs d = none
                ∧ (∀ e : Nat, e ≠ d → Store.get ds e = Store.get s.descs e ∧ Store.get cs e = Store.get s.comps e)
                ∧ st = (if x.base = r.base ∧ x.count = r.count ∧ x.decimation = r.decimation
                      ∧ (r.hasDeadband = 1 → r.deadband ≤ 32767) ∧ (r.hasMonitor = 1 → r.threshold ≤ 32767)
                    then .ok else .clamped))))
    ∧ (15 < d → exec (.writeDescriptorUndefine p d) s = .next (s.answered p 0x60 .badArgument []))
    ∧ (d ≤ 15 → s.engine.isActive = true →
        exec (.writeDescriptorUndefine p d) s = .next (s.answered p 0x60 .busy []))
    ∧ (d ≤ 15 → s.engine.isActive = false →
        ∃ (ds : List (Nat × Descriptor)) (cs : List (Nat × Completion)),
          exec (.writeDescriptorUndefine p d) s = .next (({ s with descs := ds, comps := cs }).answered p 0x60 .ok [])
          ∧ Store.get ds d = none ∧ Store.get cs d = none
          ∧ ∀ e : Nat, e ≠ d → Store.get ds e = Store.get s.descs e ∧ Store.get cs e = Store.get s.comps e)

/-- START_CAPTURE and STOP_CAPTURE: the checks in order, the run begun, and the run ended STOPPED with its completion
record, its count and its alert. The bytes of an originator are log 15's; an IDLE engine keeps its
other fields (log 14). -/
def Obligations.StartAndStopCapture : Prop :=
  ∀ (p : Port) (s : State),
    (∀ d : Nat, (15 < d ∨ Store.get s.descs d = none) →
      exec (.startCapture p d) s = .next (s.answered p 0x62 .badArgument []))
    ∧ (∀ (d : Nat) (x : Descriptor) (o : Originator), d ≤ 15 → Store.get s.descs d = some x → s.engine.isActive = true →
        s.engine.originator = some o →
        exec (.startCapture p d) s
          = .next (s.answered p 0x62 .busy (numBytes 2 s.engine.run ++ originatorItem o)))
    ∧ (∀ (d : Nat) (x : Descriptor), d ≤ 15 → Store.get s.descs d = some x → s.engine.isActive = false →
        exec (.startCapture p d) s
          = .next (({ s with engine :=
              { isActive := true, originator := some (.port p), run := (s.engine.run + 1) % 65536, current := some d,
                writeIndex := 0, phase := 0, last := none, ends := 0, missed := false } }).answered p 0x62 .ok
              (numBytes 2 ((s.engine.run + 1) % 65536))))
    ∧ (s.engine.isActive = false → exec (.stopCapture p) s = .next (s.answered p 0x63 .wrongState []))
    ∧ (∀ (d : Nat) (o : Originator), s.engine.isActive = true → s.engine.current = some d →
        s.engine.originator = some o →
        ∃ cs : List (Nat × Completion),
          exec (.stopCapture p) s
            = .next ((({ s with
                comps := cs
                engine := { s.engine with isActive := false, current := none,
                                          ends := min (s.engine.ends + 1) 65535 } }).alert o.toPort .captureEnded).answered
                p 0x63 .ok (numBytes 2 s.engine.run ++ BitVec.ofNat 8 d :: numBytes 2 s.engine.writeIndex))
          ∧ Store.get cs d = some ⟨s.engine.writeIndex, .stopped, s.engine.run⟩
          ∧ ∀ e : Nat, e ≠ d → Store.get cs e = Store.get s.comps e)

/-- One offer to the current descriptor: let go until the decimation count is reached; a passed gap is stored as the gap
word; a passed value is stored when it meets the monitor, which ends the pass MONITOR, or when the deadband lets it
through, and a full buffer ends the pass FULL; a suppressed value changes nothing but the phase. -/
def Obligations.OfferIsFilteredAndStored : Prop :=
  ∀ (s : State) (d : Nat) (x : Descriptor) (o : Offer),
    let e := s.engine
    let r := s.takeOffer d x o
    let a := x.base + e.writeIndex
    (e.phase + 1 < x.decimation → r.st = { s with engine := { e with phase := e.phase + 1 } } ∧ r.passed = false)
    ∧ (x.decimation ≤ e.phase + 1 → r.passed = true
        ∧ (∀ b : Nat, b ≠ a → Memory.read r.st.mem b = Memory.read s.mem b)
        ∧ (o = .gap → Memory.read r.st.mem a = -32768
            ∧ (e.writeIndex + 1 < x.count →
                r.st.engine = { e with phase := 0, writeIndex := e.writeIndex + 1 } ∧ r.full = false)
            ∧ (x.count ≤ e.writeIndex + 1 → r.full = true
                ∧ Store.get r.st.comps d = some ⟨e.writeIndex + 1, .full, e.run⟩))
        ∧ (∀ v : Int, o = .value v →
            ((∃ m ∈ x.monitor, (m.relation = .above ∧ m.threshold < v.natAbs) ∨ (m.relation = .below ∧ v.natAbs < m.threshold)) →
              Memory.read r.st.mem a = v ∧ Store.get r.st.comps d = some ⟨e.writeIndex + 1, .monitor, e.run⟩)
            ∧ ((∀ m ∈ x.monitor, (m.relation = .above ∧ v.natAbs ≤ m.threshold) ∨ (m.relation = .below ∧ m.threshold ≤ v.natAbs)) →
                ((∃ w ∈ x.deadband, ∃ u ∈ e.last, (v - u).natAbs ≤ w) →
                  r.st = { s with engine := { e with phase := 0 } } ∧ r.full = false)
                ∧ ((∀ w ∈ x.deadband, ∀ u ∈ e.last, w < (v - u).natAbs) →
                    Memory.read r.st.mem a = v
                    ∧ (e.writeIndex + 1 < x.count →
                        r.st.engine = { e with phase := 0, writeIndex := e.writeIndex + 1, last := some v }
                        ∧ r.full = false)
                    ∧ (x.count ≤ e.writeIndex + 1 → r.full = true
                        ∧ Store.get r.st.comps d = some ⟨e.writeIndex + 1, .full, e.run⟩)))))

/-! ### Trip unit -/

/-- TRIP, TRIP_N_ASSERTED and TRIP_N_RELEASED: an entry from NORMAL writes the trip record, parks every output and raises
TRIP to both ports, whose records otherwise stand but for the LANE_ENDED of the lanes that it ends, and leaves every link as it stands but for a setpoint frame that has not started yet, which goes out
parked at code 0 (R157, R160; log 4); while TRIPPED the cause joins the set and nothing else of the record changes; a
released TRIP_N leaves the active-source set alone. The rest of the block stands. The bytes of the answer are log 15's; a
source seen as it already stands is no event (log 13). -/
def Obligations.TripEntryAndRecord : Prop :=
  ∀ (p : Port) (s : State),
    let framesParked (t : State) : Prop := ∀ k : Channel,
      ((s.links.get k).waiting = false → t.links.get k = s.links.get k)
      ∧ (∀ n : Nat, (s.links.get k).waiting = true → (s.links.get k).outstanding = some n →
          t.links.get k = { s.links.get k with tx := setpointFrame n 0 true, waiting := false })
    (s.trip.state = .normal →
      (∃ t : State, exec (.trip p) s = .next (t.answered p 0x70 .ok [1#8, 1#8])
        ∧ t.trip = { s.trip with state := .tripped, causes := { CauseSet.empty with portTrip := true },
                                 first := ⟨.portTrip, some p⟩, outputs := ⟨.parked, .parked, .parked⟩ }
        ∧ s.entryAlerted t ∧ s.restKept t ∧ framesParked t)
      ∧ (s.trip.active.tripN = false → ∃ t : State, exec .tripNAsserted s = .next t
        ∧ t.trip = { s.trip with
            state := .tripped, active := { s.trip.active with tripN := true },
            causes := { CauseSet.empty with sources := { SourceSet.empty with tripN := true } },
            first := ⟨.tripN, none⟩, outputs := ⟨.parked, .parked, .parked⟩ }
        ∧ s.entryAlerted t ∧ s.restKept t ∧ framesParked t))
    ∧ (s.trip.state = .tripped →
        exec (.trip p) s
          = .next (({ s with trip := { s.trip with causes := { s.trip.causes with portTrip := true } } }).answered p 0x70
              .ok [1#8, 0#8])
        ∧ (s.trip.active.tripN = false →
            exec .tripNAsserted s = .next { s with trip := { s.trip with
              active := { s.trip.active with tripN := true }
              causes := { s.trip.causes with sources := { s.trip.causes.sources with tripN := true } } } }))
    ∧ (s.trip.active.tripN = true → exec .tripNAsserted s = .next s)
    ∧ exec .tripNReleased s
        = .next { s with trip := { s.trip with active := { s.trip.active with tripN := false } } }

/-- An entry to TRIPPED ends every running lane: it goes IDLE with reason TRIPPED, a CLOSING one with the reason it had;
each of its channels that has not reverted is taken back to its snapshot, every other channel stands; LANE_ENDED goes to
the originating port. So does the entry that a link makes in a sample event, whatever the order; taken before the lanes'
work (log 4), it ends them as they stood. An IDLE lane keeps its end record alone (log 11). -/
def Obligations.TripEndsRunningLanes : Prop :=
  ∀ (i : Instr) (s t : State), s.lanesSound → s.trip.state = .normal → exec i s = .next t →
    let ended : Prop :=
      (∀ l : LaneId, (s.lanes.get l).state ≠ .idle →
        t.lanes.get l = { Lane.reset with ending :=
          if (s.lanes.get l).state = .closing then (s.lanes.get l).ending
          else { (s.lanes.get l).ending with reason := .tripped, position := (s.lanes.get l).position.getD 0 } }
        ∧ ∀ q ∈ (s.lanes.get l).origin, (t.ports.get q).alerts.kinds.laneEnded = true
            ∧ (t.ports.get q).alerts.ended.get l = true)
      ∧ (∀ l : LaneId, (s.lanes.get l).state = .idle → t.lanes.get l = s.lanes.get l)
    (((∃ p : Port, i = .trip p) ∨ (i = .tripNAsserted ∧ s.trip.active.tripN = false)) →
      ended
      ∧ (∀ (c : Channel) (l : LaneId) (q : ParamSet), s.boundTo c = some l → (s.lanes.get l).reverted.get c = false →
          (s.lanes.get l).snapshots.get c = some q →
          t.chans.get c = { s.chans.get c with active := q, env := q.level * 1024, levelRamp := none, freqRamp := none })
      ∧ (∀ c : Channel, (s.boundTo c = none ∨ ∃ l : LaneId, s.boundTo c = some l ∧ (s.lanes.get l).reverted.get c = true) →
          t.chans.get c = s.chans.get c))
    ∧ (∀ o : TickOrder, i = .sampleEvent o → ¬ s.noEntryDue →
        t.trip.state = .tripped ∧ t.lanesIdle ∧ (∀ c : Channel, t.trip.outputs.get c = .parked)
        ∧ (∀ q : Port, (t.ports.get q).alerts.kinds.trip = true)
        ∧ (∃ k : Channel, (t.trip.first = ⟨.linkLoss k, none⟩ ∧ t.trip.active.loss.get k = true)
            ∨ (t.trip.first = ⟨.linkFault k, none⟩ ∧ t.trip.active.fault.get k = true))
        ∧ (∀ l : LaneId, (s.lanes.get l).state ≠ .idle → ∀ q ∈ (s.lanes.get l).origin,
            (t.ports.get q).alerts.kinds.laneEnded = true ∧ (t.ports.get q).alerts.ended.get l = true)
        ∧ (o.before = ⟨false, false, false⟩ →
            ended
            ∧ (∀ (c : Channel) (l : LaneId) (q : ParamSet), s.boundTo c = some l → (s.chans.get c).staged = none →
                (s.lanes.get l).reverted.get c = false → (s.lanes.get l).snapshots.get c = some q →
                (t.chans.get c).active = q ∧ (t.chans.get c).env = q.level * 1024
                ∧ (t.chans.get c).levelRamp = none ∧ (t.chans.get c).freqRamp = none)))

/-- RESTART: refused NOT_TRIPPED in NORMAL and SOURCE_ACTIVE, naming the sources, while one is active; else NORMAL with
no cause and every output UNPARKING, the first cause kept and answered with the causes as they stood. The bytes of the answer are log
15's where R173 leaves them open. -/
def Obligations.RestartLeavesTripped : Prop :=
  ∀ (p : Port) (s : State),
    (s.trip.state = .normal → exec (.restart p) s = .next (s.answered p 0x71 .notTripped []))
    ∧ (s.trip.state = .tripped → s.trip.active ≠ SourceSet.empty →
        exec (.restart p) s = .next (s.answered p 0x71 .sourceActive [BitVec.ofNat 8 (sourceBits s.trip.active)]))
    ∧ (s.trip.state = .tripped → s.trip.active = SourceSet.empty →
        exec (.restart p) s
          = .next (({ s with trip := { s.trip with state := .normal, causes := CauseSet.empty,
                                                   outputs := ⟨.unparking, .unparking, .unparking⟩ } }).answered p 0x71 .ok
              (firstCauseItem s.trip.first ++ numBytes 2 (causeBits s.trip.causes))))

/-- TRIPPED is left only through a RESTART (or the deselect of a frame that holds one) with no source active, and no lane
leaves IDLE while TRIPPED. -/
def Obligations.OnlyRestartLeavesTripped : Prop :=
  ∀ (i : Instr) (s t : State), exec i s = .next t → s.trip.state = .tripped →
    (t.trip.state = .normal → s.trip.active = SourceSet.empty
      ∧ ∃ p : Port, i = .restart p ∨ (i = .frameError p ∧ (s.ports.get p).frame.head? = some 0x71#8))
    ∧ (∀ l : LaneId, (s.lanes.get l).state = .idle → (t.lanes.get l).state = .idle)

/-- MASTER_CLEAR: each running lane ends with CLEARED, a CLOSING one with the reason it had, and its channels that have
not reverted revert, every other channel standing (R3, R43); keys and markers cleared, LOADING tables EMPTY, READY and
EMPTY ones kept (R58), a run ended STOPPED with its completion record and its count, its number, its missed flag and every
other completion record standing (R139), the trip entered with the one cause MASTER_CLEAR, or the cause added to those of
the trip in progress (R146, R152); the stores, the overlay sets, the descriptors, the
entries, the measurements, the capture memory and the links stand, but for a setpoint frame that has not started when an entry is made
(log 4); the ports gain the alerts of the ended lanes, of the stopped run and of the entry and nothing else; the answer
names the ended lanes, the stopped run and the entry. The order of its bytes' items is R183's; an IDLE lane's record is log
11's, an IDLE engine's other fields log 14's, the canonical form of the stores log 17's. -/
def Obligations.MasterClearEndsActivity : Prop :=
  ∀ (p : Port) (s : State), ∃ t : State,
    exec (.masterClear p) s
      = .next (t.answered p 0x0F .ok
          [BitVec.ofNat 8 (laneBits ⟨(s.lanes.n0.state != .idle), (s.lanes.n1.state != .idle),
                                     (s.lanes.n2.state != .idle)⟩),
           if s.engine.isActive then 1#8 else 0#8, if s.trip.state = .normal then 1#8 else 0#8])
    ∧ t.lanesIdle
    ∧ t.key1 = false ∧ t.key2 = false ∧ t.marker1 = ⟨false, false⟩ ∧ t.marker2 = ⟨false, false⟩
    ∧ (∀ n : Nat, s.tableState n = .ready → t.tableState n = .ready)
    ∧ (∀ (n : Nat) (q : Port) (cov : List Nat), t.tableState n ≠ .loading q cov)
    ∧ (s.canonical → ∀ n : Nat, s.tableState n ≠ .ready → t.tableState n = .empty)
    ∧ t.wave = s.wave ∧ t.overlays = s.overlays ∧ t.steps = s.steps ∧ t.programs = s.programs ∧ t.descs = s.descs
    ∧ t.mem = s.mem ∧ t.sense = s.sense ∧ t.pending = s.pending
    ∧ t.trip.state = .tripped ∧ t.trip.causes.masterClear = true ∧ t.trip.active = s.trip.active
    ∧ (s.trip.state = .normal → t.trip.causes = { CauseSet.empty with masterClear := true }
        ∧ t.trip.first = ⟨.masterClear, some p⟩ ∧ t.trip.outputs = ⟨.parked, .parked, .parked⟩)
    ∧ (s.trip.state = .tripped → t.trip.causes = { s.trip.causes with masterClear := true }
        ∧ t.trip.first = s.trip.first ∧ t.trip.outputs = s.trip.outputs)
    ∧ (s.engine.isActive = false → t.engine = s.engine ∧ t.comps = s.comps)
    ∧ (∀ d : Nat, s.engine.isActive = true → s.engine.current = some d →
        t.engine = { s.engine with isActive := false, current := none, ends := min (s.engine.ends + 1) 65535 }
        ∧ Store.get t.comps d = some ⟨s.engine.writeIndex, .stopped, s.engine.run⟩
        ∧ ∀ e : Nat, e ≠ d → Store.get t.comps e = Store.get s.comps e)
    ∧ (∀ l : LaneId, (s.lanes.get l).state ≠ .idle → (t.lanes.get l).ending
        = if (s.lanes.get l).state = .closing then (s.lanes.get l).ending
          else { (s.lanes.get l).ending with reason := .cleared, position := (s.lanes.get l).position.getD 0 })
    ∧ (∀ l : LaneId, (s.lanes.get l).state = .idle → t.lanes.get l = s.lanes.get l)
    ∧ (∀ c : Channel, (∀ l : LaneId, (s.lanes.get l).binds c = false ∨ (s.lanes.get l).reverted.get c = true) →
        t.chans.get c = s.chans.get c)
    ∧ (s.lanesSound → ∀ (c : Channel) (l : LaneId) (q : ParamSet), s.boundTo c = some l →
        (s.lanes.get l).reverted.get c = false → (s.lanes.get l).snapshots.get c = some q →
        t.chans.get c = { s.chans.get c with active := q, env := q.level * 1024, levelRamp := none, freqRamp := none })
    ∧ (s.trip.state = .tripped → t.links = s.links)
    ∧ (s.trip.state = .normal → ∀ k : Channel,
        ((s.links.get k).waiting = false → t.links.get k = s.links.get k)
        ∧ (∀ n : Nat, (s.links.get k).waiting = true → (s.links.get k).outstanding = some n →
            t.links.get k = { s.links.get k with tx := setpointFrame n 0 true, waiting := false }))
    ∧ (∀ q : Port, ∃ (kinds : AlertKinds) (lanes : LaneSet),
        t.ports.get q = { s.ports.get q with alerts := { (s.ports.get q).alerts with kinds := kinds, ended := lanes } }
        ∧ (∀ l : LaneId, lanes.get l = true ↔ (s.ports.get q).alerts.ended.get l = true
            ∨ ((s.lanes.get l).state ≠ .idle ∧ (s.lanes.get l).origin = some q))
        ∧ (kinds.laneEnded = true ↔ (s.ports.get q).alerts.kinds.laneEnded = true
            ∨ ∃ l : LaneId, (s.lanes.get l).state ≠ .idle ∧ (s.lanes.get l).origin = some q)
        ∧ (kinds.trip = true ↔ (s.ports.get q).alerts.kinds.trip = true ∨ s.trip.state = .normal)
        ∧ (kinds.captureEnded = true ↔ (s.ports.get q).alerts.kinds.captureEnded = true
            ∨ (s.engine.isActive = true ∧ s.engine.current ≠ none
                ∧ ∃ o : Originator, s.engine.originator = some o ∧ o.toPort = q))
        ∧ kinds.laneHeld = (s.ports.get q).alerts.kinds.laneHeld
        ∧ kinds.captureMissed = (s.ports.get q).alerts.kinds.captureMissed
        ∧ kinds.clipping = (s.ports.get q).alerts.kinds.clipping)

/-! ### Amplifier links -/

/-- A status frame judged when it closes: FORM, CRC, LATE or ECHO, EXTRA, in that order; a good frame becomes the window
answer and the latest status, with -32,768 taken as -32,767; nothing of the block but the link changes. The CRC-8 starts
at 0 and takes each byte by an exclusive-OR and eight shifts left, with 07 exclusive-ORed in for each 1 shifted out
(R159). The frame comes as characters with a flag for their stop bits (log 23). -/
def Obligations.StatusFrameIsJudged : Prop :=
  (let shift (r : Byte) : Byte := if r.getLsbD 7 then (r <<< 1) ^^^ 0x07#8 else r <<< 1
   crc8 [] = 0#8
   ∧ ∀ (bytes : List Byte) (b : Byte), crc8 (bytes ++ [b]) = shift^[8] (crc8 bytes ^^^ b))
  ∧ ∀ (k : Channel) (s : State),
    let x := s.links.get k
    let r := x.rejected
    let leaves (y : Link) : Host.Outcome State Fault Refusal := .next (s.setLink k y)
    (∀ (chars : List Byte) (stops : Bool), (chars.length ≠ 7 ∨ stops = false) →
      exec (.statusFrame k chars stops) s = leaves { x with rejected := { r with form := min (r.form + 1) 65535 } })
    ∧ ∀ b0 b1 b2 b3 b4 b5 b6 : Byte,
      let chars := [b0, b1, b2, b3, b4, b5, b6]
      (b6 ≠ crc8 [b0, b1, b2, b3, b4, b5] →
        exec (.statusFrame k chars true) s = leaves { x with rejected := { r with crc := min (r.crc + 1) 65535 } })
      ∧ (b6 = crc8 [b0, b1, b2, b3, b4, b5] →
          (x.outstanding = none →
            exec (.statusFrame k chars true) s = leaves { x with rejected := { r with echo := min (r.echo + 1) 65535 } })
          ∧ (∀ q : Nat, x.outstanding = some q → b0.toNat ≠ q →
              (b0.toNat = (if q = 0 then 255 else q - 1) → q < 256 →
                exec (.statusFrame k chars true) s = leaves { x with rejected := { r with late := min (r.late + 1) 65535 } })
              ∧ (b0.toNat ≠ (if q = 0 then 255 else q - 1) → q < 256 →
                exec (.statusFrame k chars true) s = leaves { x with rejected := { r with echo := min (r.echo + 1) 65535 } }))
          ∧ (x.outstanding = some b0.toNat →
              (x.answer.isSome →
                exec (.statusFrame k chars true) s
                  = leaves { x with rejected := { r with extra := min (r.extra + 1) 65535 } })
              ∧ (x.answer = none →
                  let q : Status := { echo := b0.toNat, v := max (-32767) ((b1 ++ b2).toInt),
                                      i := max (-32767) ((b3 ++ b4).toInt), fault := b5.getLsbD 0,
                                      limit := b5.getLsbD 1 }
                  exec (.statusFrame k chars true) s = leaves { x with answer := some q, latest := some q })))

/-- The verdict of a window: the health, the runs and the count of missing verdicts, row by row; the FAULT indication;
the delivered verdict. At the first sample event after a reset no window is open: no move is made and nothing is
delivered (R162, R112). -/
def Obligations.VerdictMovesHealth : Prop :=
  (∀ x : Link, x.outstanding = none → x.verdict = (x, none))
  ∧ (∀ (o : TickOrder) (k : Channel) (s : State), (s.links.get k).outstanding = none → ∃ t : State,
      exec (.sampleEvent o) s = .next t ∧ s.tickKept t
      ∧ (t.links.get k).health = (s.links.get k).health ∧ (t.links.get k).missingRun = (s.links.get k).missingRun
      ∧ (t.links.get k).goodRun = (s.links.get k).goodRun ∧ (t.links.get k).fault = (s.links.get k).fault
      ∧ (t.links.get k).latest = (s.links.get k).latest ∧ (t.links.get k).missing = (s.links.get k).missing
      ∧ (t.links.get k).rejected = (s.links.get k).rejected)
  ∧ ∀ (x : Link) (n : Nat), x.outstanding = some n →
    let y := x.verdict.1
    (∀ q : Status, x.answer = some q →
      y.missing = x.missing ∧ y.fault = q.fault
      ∧ (x.health = .good → y.health = .good ∧ y.missingRun = 0 ∧ y.goodRun = x.goodRun)
      ∧ (x.health = .lost → x.goodRun < 15 →
          y.health = .lost ∧ y.goodRun = x.goodRun + 1 ∧ y.missingRun = x.missingRun)
      ∧ (x.health = .lost → x.goodRun = 15 → y.health = .good ∧ y.goodRun = 16 ∧ y.missingRun = 0)
      ∧ (y.health = .good → x.verdict.2 = some (.received q.v q.i q.limit))
      ∧ (y.health = .lost → x.verdict.2 = some .missing))
    ∧ (x.answer = none →
        y.missing = min (x.missing + 1) 65535 ∧ y.fault = x.fault ∧ x.verdict.2 = some .missing
        ∧ (x.health = .good → x.missingRun < 3 →
            y.health = .good ∧ y.missingRun = x.missingRun + 1 ∧ y.goodRun = x.goodRun)
        ∧ (x.health = .good → x.missingRun = 3 → y.health = .lost ∧ y.missingRun = 4 ∧ y.goodRun = 0)
        ∧ (x.health = .lost → y.health = .lost ∧ y.goodRun = 0 ∧ y.missingRun = x.missingRun))

/-! ### The sample event -/

/-- The advance and the due changes of a sample event (R4, R8). With no lane running: every channel's accumulator makes
its advance, L1 and an unlinked channel by its F, a follower to L1's new value plus its offset; a pending staged set is
promoted exactly at a wrap; an UNPARKING channel becomes DRIVING at its wrap when no entry comes; the stores and the
library stand. A lane that applies its step goes DWELL and hands its parts to its channels: the level and the shape where
the mask reaches, the frequency where the channel does not follow, by a ramp when the part has a length (R12, R14, R88);
and, when no other lane runs, a phase jump moves P and a follower's offset, and L1's jump is carried to its followers
(R10). A follower's advance does not see a jump of the same sample event. -/
def Obligations.SampleEventAdvancesChannels : Prop :=
  (∀ (o : TickOrder) (s : State), s.lanesIdle → ∃ t : State,
    exec (.sampleEvent o) s = .next t
    ∧ (∀ c : Channel, (t.chans.get c).phase = (s.advanceOf c).after ∧ (t.chans.get c).link = (s.chans.get c).link)
    ∧ (∀ (c : Channel) (q : ParamSet), (s.chans.get c).staged = some q → (s.advanceOf c).wraps = true →
        (t.chans.get c).active = q ∧ (t.chans.get c).env = q.level * 1024 ∧ (t.chans.get c).staged = none
        ∧ (t.chans.get c).levelRamp = none ∧ (t.chans.get c).freqRamp = none)
    ∧ (∀ c : Channel, (s.advanceOf c).wraps = false → (t.chans.get c).staged = (s.chans.get c).staged)
    ∧ (∀ c : Channel, s.noEntryDue → t.trip.outputs.get c
        = if s.trip.outputs.get c = .unparking ∧ (s.advanceOf c).wraps = true then .driving
          else s.trip.outputs.get c)
    ∧ s.tickKept t ∧ t.lanesIdle)
  ∧ ∀ (o : TickOrder) (l : LaneId) (step : StepRecord) (s : State),
    let x := s.lanes.get l
    s.noEntryDue → s.lanesSound → x.state = .aligning → s.currentStep x = some step → s.dueNext x step →
    (∀ c : Channel, x.channels.get c = true → (s.chans.get c).staged = none) →
    ∃ t : State, exec (.sampleEvent o) s = .next t ∧ s.tickKept t
      ∧ (t.lanes.get l).butMissed = { x with state := .dwell, dwell := some step.duration }.butMissed
      ∧ (∀ c : Channel, x.channels.get c = true →
          let y := s.chans.get c
          let z := t.chans.get c
          z.active.amp = y.active.amp ∧ z.active.dc = y.active.dc ∧ z.staged = none
          ∧ (∀ p ∈ step.level, step.masks c → z.active.level = p.target
              ∧ (p.ramp = 0 → z.env = p.target * 1024 ∧ z.levelRamp = none)
              ∧ (0 < p.ramp → z.env = y.env
                  ∧ z.levelRamp = some ⟨y.env, p.target * 1024, (p.target * 1024 - y.env).tdiv p.ramp, p.ramp⟩))
          ∧ (¬ step.levels c → z.active.level = y.active.level)
          ∧ (∀ p ∈ step.shape, step.masks c → z.active.table = p.table ∧ z.active.overlay = p.overlay)
          ∧ (step.shape = none ∨ ¬ step.masks c →
              z.active.table = y.active.table ∧ z.active.overlay = y.active.overlay)
          ∧ (∀ p ∈ step.freq, y.link = none → z.active.freq = p.target
              ∧ (p.ramp = 0 → z.active.word = p.word ∧ z.freqRamp = none)
              ∧ (0 < p.ramp → z.active.word = y.active.word ∧ z.freqRamp
                  = some ⟨y.active.word, p.word, (p.word - y.active.word).tdiv p.ramp, p.ramp⟩))
          ∧ (step.freq = none ∨ y.link ≠ none → z.active.freq = y.active.freq))
      ∧ ((∀ l' : LaneId, l' ≠ l → (s.lanes.get l').state = .idle) → ∀ own : Channel → Phase,
          (∀ c : Channel, x.channels.get c = true → step.masks c → ∀ p ∈ step.jump, own c = BitVec.ofInt 32 p.word) →
          (∀ c : Channel, (x.channels.get c = false ∨ ¬ step.masks c ∨ step.jump = none) → own c = 0#32) →
          (t.chans.get .L1).phase = (s.advanceOf .L1).after + own .L1
          ∧ (t.chans.get .L1).link = (s.chans.get .L1).link
          ∧ ∀ c : Channel, c ≠ .L1 →
              ((s.chans.get c).link = none →
                (t.chans.get c).phase = (s.advanceOf c).after + own c ∧ (t.chans.get c).link = none)
              ∧ (∀ offset : Phase, (s.chans.get c).link = some offset →
                  (t.chans.get c).phase = (s.advanceOf c).after + own c + own .L1
                  ∧ (t.chans.get c).link = some (offset + own c)))

/-- A sample event sends one setpoint frame on each link: the next sequence number, a code of the code range high byte
first, the parked flag, the CRC-8 of these (R158, R160); code 0 when the flag is set; the frame that starts with the
output not DRIVING is parked; a DRIVING channel sends the clamped code it computes. The frame is then outstanding, with no
answer. A computed value outside the code range counts one clip and raises CLIPPING to both ports when the counter leaves
0 (R21, R22). The value computed is that of R16 to R20: the interpolated lookup, the terms' samples of table 0 at their own
phases, their weighted sum W, W × N × e over the divisor rounded half away from zero, and D. What one sample event leaves
open is its operand (log 4). -/
def Obligations.SampleEventSendsSetpointFrames : Prop :=
  (∀ (o : TickOrder) (s : State) (k : Channel), ∃ (t : State) (code : Int) (parked : Bool),
    exec (.sampleEvent o) s = .next t ∧ s.tickKept t
    ∧ (t.links.get k).tx = setpointFrame (s.links.get k).next code parked
    ∧ -32767 ≤ code ∧ code ≤ 32767 ∧ (parked = true → code = 0)
    ∧ (t.trip.outputs.get k ≠ .driving → o.started.get k = false → parked = true)
    ∧ (s.lanesIdle → s.noEntryDue → t.trip.outputs.get k = .driving →
        parked = false ∧ code = max (-32767) (min 32767 (s.compute (t.chans.get k))))
    ∧ (t.links.get k).outstanding = some (s.links.get k).next ∧ (t.links.get k).answer = none
    ∧ (t.links.get k).next = ((s.links.get k).next + 1) % 256
    ∧ (s.lanesIdle →
        let clips : Bool := !decide (-32767 ≤ s.compute (t.chans.get k) ∧ s.compute (t.chans.get k) ≤ 32767)
        (t.chans.get k).clip
          = (if clips then min ((s.chans.get k).clip + 1) 65535 else (s.chans.get k).clip)
        ∧ ∀ p : Port,
          (t.ports.get p).alerts.clipped.get k
            = ((s.ports.get p).alerts.clipped.get k || (clips && (s.chans.get k).clip == 0))
          ∧ (clips = true → (s.chans.get k).clip = 0 → (t.ports.get p).alerts.kinds.clipping = true)))
  ∧ (∀ (n : Nat) (code : Int) (parked : Bool), n < 256 → -32767 ≤ code → code ≤ 32767 →
      ∃ high low : Byte, (high ++ low).toInt = code ∧
        let bytes : List Byte := [BitVec.ofNat 8 n, high, low, if parked then 1#8 else 0#8]
        setpointFrame n code parked = bytes ++ [crc8 bytes])
  ∧ (∀ (s : State) (x : Chan),
      let look (table : Nat → Int) (p : Nat) : Int :=
        table (p / 4194304)
          + ((table ((p / 4194304 + 1) % 1024) - table (p / 4194304)) * ((p / 16384 % 256 : Nat) : Int)) / 256
      let p := x.phase.toNat
      let w : Int := 1000 * look (s.entry x.active.table) p
        + ((s.terms x.active.overlay).map (fun h => (h.amplitude : Int)
            * look (s.entry 0) ((h.order * p + h.phase * 65536) % 4294967296))).sum
      let a : Int := w * x.active.amp * x.env
      let y : Int := s.compute x - x.active.dc
      2 * 33553408000000 * y.natAbs ≤ 2 * a.natAbs + 33553408000000
      ∧ 2 * a.natAbs + 33553408000000 < 2 * 33553408000000 * (y.natAbs + 1)
      ∧ (0 ≤ a → 0 ≤ y) ∧ (a ≤ 0 → y ≤ 0)
      ∧ (x.active.amp = 0 ∨ x.env = 0 → s.compute x = x.active.dc)
      ∧ (∀ t i : Nat, t ≠ 0 → s.entry t i = Memory.read s.wave (1024 * t + i))
      ∧ (∀ i : Nat, i ≤ 512 → s.entry 0 (512 - i) = s.entry 0 i)
      ∧ (∀ i : Nat, 0 < i → i < 1024 → s.entry 0 (1024 - i) = - s.entry 0 i)
      ∧ [0, 85, 86, 128, 256, 512, 513, 768].map (s.entry 0) = [0, 16325, 16499, 23170, 32767, 0, -201, -32767])

/-- The ramps of a channel that takes no promotion, no level (frequency) part and no revert at the sample event, whether
it is bound or not: each sample event adds the ramp's step and reduces its count, and LEVEL_RAMP_END and
FREQUENCY_RAMP_END, at the last count, set the value exactly to the target and the ramp is gone. Each row is the sample
event at which the ramp ends (log 3). -/
def Obligations.RampEndSetsTarget : Prop :=
  ∀ (c : Channel) (o : TickOrder) (r : Ramp) (s : State),
    ((s.chans.get c).levelRamp = some r → s.spared c (StepRecord.levels c) →
      (r.remaining = 1 → ∃ t : State, exec (.levelRampEnd c o) s = .next t ∧ s.tickKept t
        ∧ (t.chans.get c).env = r.target ∧ (t.chans.get c).levelRamp = none)
      ∧ (1 < r.remaining → ∃ t : State, exec (.sampleEvent o) s = .next t ∧ s.tickKept t
        ∧ (t.chans.get c).env = (s.chans.get c).env + r.step
        ∧ (t.chans.get c).levelRamp = some { r with remaining := r.remaining - 1 }))
    ∧ ((s.chans.get c).freqRamp = some r → s.spared c StepRecord.tunes →
      (r.remaining = 1 → ∃ t : State, exec (.frequencyRampEnd c o) s = .next t ∧ s.tickKept t
        ∧ (t.chans.get c).active.word = r.target ∧ (t.chans.get c).freqRamp = none)
      ∧ (1 < r.remaining → ∃ t : State, exec (.sampleEvent o) s = .next t ∧ s.tickKept t
        ∧ (t.chans.get c).active.word = (s.chans.get c).active.word + r.step
        ∧ (t.chans.get c).freqRamp = some { r with remaining := r.remaining - 1 }))

/-- LINK_LOST at the fourth missing verdict in a row and LINK_RECOVERED at the sixteenth good one: the health, the runs
and the LOSS source; a loss leaves the trip unit TRIPPED with the source among its causes. Each row is the
sample event at which it comes about (log 3). -/
def Obligations.LinkLossAndRecovery : Prop :=
  ∀ (k : Channel) (o : TickOrder) (n : Nat) (s : State), (s.links.get k).outstanding = some n →
    ((s.links.get k).health = .good → (s.links.get k).missingRun = 3 → (s.links.get k).answer = none →
      s.trip.active.loss.get k = false →
      ∃ t : State, exec (.linkLost k o) s = .next t ∧ s.tickKept t
        ∧ (t.links.get k).health = .lost ∧ (t.links.get k).missingRun = 4 ∧ (t.links.get k).goodRun = 0 ∧ t.trip.active.loss.get k = true
        ∧ t.trip.causes.sources.loss.get k = true ∧ t.trip.state = .tripped)
    ∧ ((s.links.get k).health = .lost → (s.links.get k).goodRun = 15 → (s.links.get k).answer.isSome →
      ∃ t : State, exec (.linkRecovered k o) s = .next t ∧ s.tickKept t ∧ (t.links.get k).health = .good
        ∧ (t.links.get k).goodRun = 16 ∧ (t.links.get k).missingRun = 0 ∧ t.trip.active.loss.get k = false)

/-- The sense work of a sample event without an entry: the verdict is attributed to the open accumulation (R112, R113);
at a boundary an open accumulation is published and a new, empty one opens, POSITIVE at the wrap and NEGATIVE at the
half-cycle point (R114, R120); TRUNCATED: an accumulation that has reached 1,024 samples at an advance that crosses no
boundary is published TRUNCATED and a new, empty one of the same polarity opens. A step's marker actions set, clear or
pulse their lines (R107); MARKER_PULSE_END: with no lane able to act on it, a pulsed line goes low at the next sample
event. Each row is the sample event at which it comes about (log 3). -/
def Obligations.TruncationAndPulseEnd : Prop :=
  ∀ (o : TickOrder) (s : State),
    (∀ c : Channel, s.noEntryDue → (s.sense.get c).isOpen = true →
      let x := (s.sense.get c).attribute (s.links.get c).verdict.2
      1024 ≤ x.n + x.missing → (s.advanceOf c).wraps = false → (s.advanceOf c).halves = false →
      ∃ (t : State) (m : Measurement), exec (.truncated c o) s = .next t ∧ s.tickKept t
        ∧ t.sense.get c = { isOpen := true, polarity := (s.sense.get c).polarity, n := 0, missing := 0, limit := 0,
                            sumV := 0, sumI := 0, nextSeq := ((s.sense.get c).nextSeq + 1) % 65536, record := some m }
        ∧ m.truncated = true ∧ m.seq = (s.sense.get c).nextSeq ∧ m.n = x.n ∧ m.missing = x.missing ∧ m.limit = x.limit
        ∧ (∀ p ∈ x.polarity, m.polarity = p) ∧ m.rmsV = rmsOf x.sumV x.n ∧ m.rmsI = rmsOf x.sumI x.n)
    ∧ (∀ (x : Sense) (d : Option Delivered),
        (x.isOpen = false ∨ d = none → x.attribute d = x)
        ∧ (x.isOpen = true → d = some .missing → x.attribute d = { x with missing := x.missing + 1 })
        ∧ (∀ (v i : Int) (limit : Bool), x.isOpen = true → d = some (.received v i limit) →
            x.attribute d = { x with n := x.n + 1, limit := x.limit + (if limit then 1 else 0),
                                     sumV := x.sumV + (v * v).toNat, sumI := x.sumI + (i * i).toNat }))
    ∧ (∀ c : Channel, s.noEntryDue →
        let x := (s.sense.get c).attribute (s.links.get c).verdict.2
        let opened (p : Polarity) (seq : Nat) (record : Option Measurement) : Sense :=
          { isOpen := true, polarity := some p, n := 0, missing := 0, limit := 0, sumV := 0, sumI := 0, nextSeq := seq,
            record := record }
        ∃ t : State, exec (.sampleEvent o) s = .next t ∧ s.tickKept t
          ∧ (∀ p : Polarity, ((s.advanceOf c).wraps = true ∧ p = .positive)
                ∨ ((s.advanceOf c).wraps = false ∧ (s.advanceOf c).halves = true ∧ p = .negative) →
              (x.isOpen = false → t.sense.get c = opened p x.nextSeq x.record)
              ∧ (∀ old : Polarity, x.isOpen = true → x.polarity = some old →
                  t.sense.get c = opened p ((x.nextSeq + 1) % 65536)
                    (some { seq := x.nextSeq, polarity := old, n := x.n, missing := x.missing, limit := x.limit,
                            rmsV := rmsOf x.sumV x.n, rmsI := rmsOf x.sumI x.n, incomplete := decide (0 < x.missing),
                            truncated := false })))
          ∧ ((s.advanceOf c).wraps = false → (s.advanceOf c).halves = false →
              (x.isOpen = false ∨ x.n + x.missing < 1024) → t.sense.get c = x))
    ∧ (∀ m : MarkerLine, (s.marker m).pulse = true →
        (∀ l : LaneId, (s.lanes.get l).state = .idle ∨ (s.lanes.get l).state = .held ∨ (s.lanes.get l).state = .closing) →
        ∃ t : State, exec (.markerPulseEnd m o) s = .next t ∧ s.tickKept t ∧ t.marker m = ⟨false, false⟩)
    ∧ (∀ (m : MarkerLine) (l : LaneId) (step : StepRecord) (parts : MarkersPart),
        let action := match m with | .M1 => parts.m1 | .M2 => parts.m2
        s.noEntryDue → (∀ l' : LaneId, l' ≠ l → (s.lanes.get l').state = .idle) →
        (s.lanes.get l).state = .aligning → s.currentStep (s.lanes.get l) = some step →
        s.dueNext (s.lanes.get l) step → step.markers = some parts →
        ∃ t : State, exec (.sampleEvent o) s = .next t ∧ s.tickKept t
          ∧ (action = .set → t.marker m = ⟨true, false⟩) ∧ (action = .clear → t.marker m = ⟨false, false⟩)
          ∧ (action = .pulse → t.marker m = ⟨true, true⟩)
          ∧ (action = .none → t.marker m = if (s.marker m).pulse then ⟨false, false⟩ else s.marker m))

/-- A lane's work at a sample event without an entry (R85). It aligns, counts its duration and waits, or stands HELD.
DWELL_END moves it to WAITING when the step waits; DWELL_END without a wait, WAIT_MET, and WAIT_TIMEOUT with CONTINUE
finish the step: the group-close processing, then the step looped back to, the next step, or the end of the program under
its exit policy (R86 to R95); WAIT_TIMEOUT with ABORT ends it. A CLOSING lane's channels revert at their wraps, and with
the last the lane goes IDLE (R42, R100). Going HELD and going IDLE alert the originating port. Each row is the sample event
at which it comes about (log 3); the dwell remaining is none once its duration has ended, and an IDLE lane keeps its end
record alone (log 11). -/
def Obligations.LaneRowsMoveTheLane : Prop :=
  (∀ (e : GroupEntry) (rest : List GroupEntry) (n : Nat) (release : Bool) (stack : List GroupEntry),
    closeGroups 0 stack release = (none, stack, release)
    ∧ (1 < e.remaining → closeGroups (n + 1) (e :: rest) release
        = (some e.opening, { e with remaining := e.remaining - 1 } :: rest, release))
    ∧ (e.remaining = 1 → closeGroups (n + 1) (e :: rest) release = closeGroups n rest release)
    ∧ (e.remaining = 0 → closeGroups (n + 1) (e :: rest) true = closeGroups n rest false)
    ∧ (e.remaining = 0 → closeGroups (n + 1) (e :: rest) false = (some e.opening, e :: rest, false)))
  ∧ (∀ (l : LaneId) (o : TickOrder) (step : StepRecord) (q : Program) (k : Nat) (s : State),
    let x := s.lanes.get l
    let wrap : Bool := (s.advanceOf (lowest x.channels)).wraps
    let closed := closeGroups (step.groupClose.getD 0) x.stack.reverse x.releasePending
    let becomes (y : Lane) : Prop := ∃ t : State, exec (.sampleEvent o) s = .next t ∧ s.tickKept t ∧ t.lanes.get l = y
    s.noEntryDue → s.programOf x = some q → x.position = some k → Store.get s.steps (q.first + k) = some step →
    (x.state = .held → becomes x)
    ∧ (x.state = .aligning → ¬ s.dueNext x step → becomes x)
    ∧ (∀ d : Duration, x.state = .dwell → x.dwell = some d →
        (d.unit = .cycles → wrap = false → becomes x)
        ∧ (1 < d.count → (d.unit = .samples ∨ wrap = true) →
            becomes { x with dwell := some { d with count := d.count - 1 } })
        ∧ (d.count = 1 → (d.unit = .samples ∨ wrap = true) →
            (∀ w : WaitPart, step.wait = some w → ∃ t : State, exec (.dwellEnd l o) s = .next t ∧ s.tickKept t
              ∧ t.lanes.get l = { x with state := .waiting, dwell := none, consecutive := 0, timeout := w.timeout })
            ∧ (step.wait = none → ∃ t : State, exec (.dwellEnd l o) s = .next t ∧ s.tickKept t
                ∧ s.finishedAs { x with dwell := none } q k closed (t.lanes.get l))))
    ∧ (∀ w : WaitPart, x.state = .waiting → step.wait = some w →
        let meets (m : Measurement) : Prop := m.incomplete = false
          ∧ ((w.relation = .below ∧ m.rms w.quantity < w.threshold)
            ∨ (w.relation = .above ∧ w.threshold < m.rms w.quantity))
        let fails (m : Measurement) : Prop := m.incomplete = false
          ∧ ((w.relation = .below ∧ w.threshold ≤ m.rms w.quantity)
            ∨ (w.relation = .above ∧ m.rms w.quantity ≤ w.threshold))
        (∀ m : Measurement, s.closes w.channel = some m → meets m → w.consecutive ≤ x.consecutive + 1 →
          ∃ t : State, exec (.waitMet l o) s = .next t ∧ s.tickKept t
            ∧ s.finishedAs { x with consecutive := x.consecutive + 1 } q k closed (t.lanes.get l))
        ∧ (∀ n : Nat,
            ((s.closes w.channel = none ∨ ∃ m, s.closes w.channel = some m ∧ m.incomplete = true) ∧ n = x.consecutive)
            ∨ (∃ m, s.closes w.channel = some m ∧ fails m ∧ n = 0)
            ∨ (∃ m, s.closes w.channel = some m ∧ meets m ∧ n = x.consecutive + 1 ∧ n < w.consecutive) →
            ((x.timeout = 0 ∨ wrap = false) → becomes { x with consecutive := n })
            ∧ (1 < x.timeout → wrap = true → becomes { x with consecutive := n, timeout := x.timeout - 1 })
            ∧ (x.timeout = 1 → wrap = true → ∃ t : State, exec (.waitTimeout l o) s = .next t ∧ s.tickKept t
                ∧ (w.onTimeout = .continue_ → s.finishedAs { x with
                    consecutive := n, timeout := 0
                    ending := { x.ending with timeouts := min (x.ending.timeouts + 1) 65535 } } q k closed (t.lanes.get l))
                ∧ (w.onTimeout = .abort → t.lanes.get l = { x with
                    state := .closing, ending := { x.ending with reason := .waitTimeout, position := k }
                    consecutive := n, timeout := 0, stack := [], releasePending := false, holdReason := none
                    heldFrom := none, reverted := ⟨false, false, false⟩, position := none, dwell := none })))))
  ∧ (∀ (l : LaneId) (o : TickOrder) (s : State),
    let x := s.lanes.get l
    let now (c : Channel) : Bool := x.channels.get c && !x.reverted.get c && (s.advanceOf c).wraps
    let back : ChannelSet := ⟨x.reverted.l1 || now .L1, x.reverted.l2 || now .L2, x.reverted.l3 || now .L3⟩
    s.noEntryDue → s.lanesSound → x.state = .closing →
    ∃ t : State, exec (.sampleEvent o) s = .next t ∧ s.tickKept t
      ∧ (back = x.channels → t.lanes.get l = { Lane.reset with ending := x.ending })
      ∧ (back ≠ x.channels → t.lanes.get l = { x with reverted := back })
      ∧ ∀ (c : Channel) (p : ParamSet), now c = true → x.snapshots.get c = some p →
          (t.chans.get c).active = p ∧ (t.chans.get c).env = p.level * 1024
          ∧ (t.chans.get c).levelRamp = none ∧ (t.chans.get c).freqRamp = none)
  ∧ (∀ (l : LaneId) (o : TickOrder) (s t : State), exec (.sampleEvent o) s = .next t → ∀ p ∈ (s.lanes.get l).origin,
    ((s.lanes.get l).state ≠ .held → (t.lanes.get l).state = .held →
      (t.ports.get p).alerts.kinds.laneHeld = true ∧ (t.ports.get p).alerts.held.get l = true)
    ∧ ((s.lanes.get l).state ≠ .idle → (t.lanes.get l).state = .idle →
      (t.ports.get p).alerts.kinds.laneEnded = true ∧ (t.ports.get p).alerts.ended.get l = true))

/-- DECIMATION_PASS and CAPTURE_PASS_FULL of a SETPOINT descriptor on a PARKED channel, no lane running: the parked 0 is
stored at base + write index; the store that fills the buffer ends the pass FULL and the chain goes on or the run ends
with CAPTURE_ENDED. Each row is the sample event at which it comes about (log 3). A capture start of the step that the
only running lane applies (R89, R131): an IDLE engine starts the run of a defined descriptor for the lane and its port; a
start that finds the engine ACTIVE, taken before the engine's own work of the sample event (log 4), or that names an
undefined descriptor, is missed: the flag is set in the engine and in the end record, and CAPTURE_MISSED goes to the
port. What each source offers to a run in progress when no lane starts another (R128): SETPOINT the code handed off, the
clamped code while DRIVING and 0 otherwise; SENSE_V and SENSE_I the received value of the delivered verdict, a gap when it
is missing, nothing when none is delivered; RMS_V and RMS_I the RMS of a measurement that closes, nothing when none does.
The engine takes the offer as `Obligations.OfferIsFilteredAndStored` says, and the rows come about as it passes and
fills. -/
def Obligations.CaptureRowsStoreAndEndPass : Prop :=
  (∀ (o : TickOrder) (d : Nat) (x : Descriptor) (s : State),
    s.lanesIdle → s.engine.isActive = true → s.engine.current = some d → Store.get s.descs d = some x →
    x.source = .setpoint → s.trip.outputs.get x.channel = .parked → x.monitor = none → x.deadband = none →
    s.engine.phase + 1 = x.decimation →
    (s.engine.writeIndex + 1 < x.count → ∃ t : State, exec (.decimationPass o) s = .next t ∧ s.tickKept t
      ∧ Memory.read t.mem (x.base + s.engine.writeIndex) = 0
      ∧ (∀ a : Nat, a ≠ x.base + s.engine.writeIndex → Memory.read t.mem a = Memory.read s.mem a)
      ∧ t.engine = { s.engine with phase := 0, writeIndex := s.engine.writeIndex + 1, last := some 0 })
    ∧ (s.engine.writeIndex + 1 = x.count → ∃ t : State, exec (.capturePassFull o) s = .next t ∧ s.tickKept t
      ∧ Memory.read t.mem (x.base + s.engine.writeIndex) = 0
      ∧ (∀ a : Nat, a ≠ x.base + s.engine.writeIndex → Memory.read t.mem a = Memory.read s.mem a)
      ∧ Store.get t.comps d = some ⟨x.count, .full, s.engine.run⟩
      ∧ t.engine.ends = min (s.engine.ends + 1) 65535
      ∧ (∀ e : Nat, x.next = some e → (Store.get s.descs e).isSome →
          t.engine.isActive = true ∧ t.engine.current = some e ∧ t.engine.writeIndex = 0 ∧ t.engine.phase = 0
          ∧ t.engine.last = none)
      ∧ ((x.next = none ∨ ∃ e : Nat, x.next = some e ∧ Store.get s.descs e = none) →
          t.engine.isActive = false
          ∧ ∀ q ∈ s.engine.originator, (t.ports.get q.toPort).alerts.kinds.captureEnded = true)))
  ∧ (∀ (o : TickOrder) (l : LaneId) (step : StepRecord) (d : Nat) (p : Port) (s : State),
    let x := s.lanes.get l
    s.noEntryDue → (∀ l' : LaneId, l' ≠ l → (s.lanes.get l').state = .idle) → x.state = .aligning →
    s.currentStep x = some step → s.dueNext x step → step.capture = some d → x.origin = some p →
    ∃ t : State, exec (.sampleEvent o) s = .next t ∧ s.tickKept t
      ∧ (t.lanes.get l).butMissed = { x with state := .dwell, dwell := some step.duration }.butMissed
      ∧ (s.engine.isActive = false → (Store.get s.descs d).isSome →
          t.engine = { isActive := true, originator := some (.lane l p), run := (s.engine.run + 1) % 65536,
                       current := some d, writeIndex := 0, phase := 0, last := none, ends := 0, missed := false }
          ∧ (t.lanes.get l).ending = x.ending ∧ t.mem = s.mem ∧ t.comps = s.comps)
      ∧ (Store.get s.descs d = none ∨ (s.engine.isActive = true ∧ 0 < o.startsFirst) →
          t.engine.missed = true ∧ (t.lanes.get l).ending = { x.ending with missed := true }
          ∧ (t.ports.get p).alerts.kinds.captureMissed = true)
      ∧ (s.engine.isActive = false → Store.get s.descs d = none → t.engine = { s.engine with missed := true }))
  ∧ ∀ (o : TickOrder) (d : Nat) (x : Descriptor) (s : State),
    let c := x.channel
    let delivered := (s.links.get c).verdict.2
    s.noEntryDue → s.noCaptureStart → s.engine.isActive = true → s.engine.current = some d →
    Store.get s.descs d = some x →
    ∃ t : State, exec (.sampleEvent o) s = .next t ∧ s.tickKept t ∧
      let stands : Prop := t.engine = s.engine ∧ t.mem = s.mem ∧ t.comps = s.comps
      let takes (w : Offer) : Prop :=
        let r := s.takeOffer d x w
        t.engine = r.st.engine ∧ t.mem = r.st.mem ∧ t.comps = r.st.comps
        ∧ (r.passed = true → exec (.decimationPass o) s = .next t) ∧ (r.full = true → exec (.capturePassFull o) s = .next t)
      (x.source = .setpoint →
        (t.trip.outputs.get c = .driving → takes (.value (max (-32767) (min 32767 (s.compute (t.chans.get c))))))
        ∧ (t.trip.outputs.get c ≠ .driving → takes (.value 0)))
      ∧ (∀ (v i : Int) (limit : Bool), delivered = some (.received v i limit) →
          (x.source = .senseV → takes (.value v)) ∧ (x.source = .senseI → takes (.value i)))
      ∧ (x.source = .senseV ∨ x.source = .senseI →
          (delivered = some .missing → takes .gap) ∧ (delivered = none → stands))
      ∧ (∀ m : Measurement, s.closes c = some m →
          (x.source = .rmsV → takes (.value m.rmsV)) ∧ (x.source = .rmsI → takes (.value m.rmsI)))
      ∧ (x.source = .rmsV ∨ x.source = .rmsI → s.closes c = none → stands)

/-! ### Arithmetic -/

/-- An advance crosses a threshold exactly when it lies on the forward arc from P before, exclusive, to P after,
inclusive; an advance shorter than a full turn wraps exactly when P after is below P before; and of two thresholds half a
cycle apart an advance shorter than half a cycle crosses at most one. -/
def Obligations.CrossingIsTheForwardArc : Prop :=
  ∀ a : Advance,
    (∀ t : Phase, a.crosses t = true ↔
      1 ≤ (t.toNat + 4294967296 - a.before.toNat) % 4294967296
      ∧ (t.toNat + 4294967296 - a.before.toNat) % 4294967296
          ≤ (a.after.toNat + 4294967296 - a.before.toNat) % 4294967296)
    ∧ (∀ t : Phase, a.before = t → a.crosses t = false)
    ∧ (∀ t : Phase, a.after = t → a.before ≠ t → a.crosses t = true)
    ∧ (a.wraps = true ↔ a.after.toNat < a.before.toNat)
    ∧ (∀ t : Phase, (a.after - a.before).toNat < 2147483648 →
        ¬ (a.crosses t = true ∧ a.crosses (t + 2147483648#32) = true))

/-- The RMS of a half: for n above 0 the greatest r whose square does not exceed floor(S / n), and 0 for n = 0, for every
sum of n squares of codes; an accumulation closes with the RMS of each of its sums, and INCOMPLETE when a sample was
missing. -/
def Obligations.RmsIsFloorOfRoot : Prop :=
  (∀ (x : Sense) (b : Bool), (x.measure b).rmsV = rmsOf x.sumV x.n ∧ (x.measure b).rmsI = rmsOf x.sumI x.n
    ∧ ((x.measure b).incomplete = true ↔ 0 < x.missing))
  ∧ ∀ sum n : Nat, sum ≤ n * 1073676289 →
    rmsOf sum n ≤ 32767
    ∧ (0 < n → rmsOf sum n * rmsOf sum n ≤ sum / n ∧ sum / n < (rmsOf sum n + 1) * (rmsOf sum n + 1))
    ∧ (n = 0 → rmsOf sum n = 0)

/-! ### Invariants -/

/-- Every step keeps the memories and the stores in their canonical form, which is the model's own (log 17, DESIGN
CHOICE). -/
def Obligations.StepKeepsMemoriesCanonical : Prop :=
  ∀ s t : State, s.canonical → step s = .next t → t.canonical

/-- Every step keeps L1 unlinked and each follower's accumulator at L1's plus the link offset. -/
def Obligations.StepKeepsFollowersLocked : Prop :=
  ∀ s t : State, s.phaseLocked → step s = .next t → t.phaseLocked

/-- Every step keeps the trip unit sound: in NORMAL no active source, no cause, no PARKED output; in TRIPPED every output
PARKED and no lane running; the link sources as the links report them. -/
def Obligations.StepKeepsTripUnitSound : Prop :=
  ∀ s t : State, s.tripSound → step s = .next t → t.tripSound

/-- Every step keeps the lanes' channel sets disjoint and an IDLE lane empty: that it equals its reset record but for the
end record is log 11's for the fields that the spec leaves open. -/
def Obligations.StepKeepsLanesDisjoint : Prop :=
  ∀ s t : State, s.lanesSound → step s = .next t → t.lanesSound

/-- Every step keeps each accumulation below 1,024 samples between sample events and each record within its ranges. -/
def Obligations.StepKeepsMeasurementsBounded : Prop :=
  ∀ s t : State, s.senseBounded → step s = .next t → t.senseBounded

/-- Every step keeps the capture engine sound, and changes no word of the capture memory outside the buffer of the
descriptor that was current, but for a reset. -/
def Obligations.StepKeepsCaptureInBuffer : Prop :=
  ∀ s t : State, s.captureSound → step s = .next t →
    t.captureSound
    ∧ ((∀ low : Bool, s.pending.head? ≠ some (.resetNAssertion low)) →
        ∀ a : Nat, Memory.read t.mem a ≠ Memory.read s.mem a →
          s.engine.isActive = true ∧ ∃ (d : Nat) (x : Descriptor), s.engine.current = some d
            ∧ Store.get s.descs d = some x ∧ x.base ≤ a ∧ a < x.base + x.count)

/-- Every step keeps each envelope within 0 to 2,048,000 and each frequency word within its range, and within its ramp
while one is in progress. -/
def Obligations.StepKeepsEnvelopeAndFrequencyBounded : Prop :=
  ∀ s t : State, s.synthesisBounded → step s = .next t → t.synthesisBounded

/-- Every step keeps each referenced table READY and each coverage a set of chunk numbers; and while a table or an overlay
set is referenced no command but a reset changes an entry or a term of it. -/
def Obligations.StepKeepsReferencedTablesReady : Prop :=
  ∀ s t : State, s.tablesReady → (∀ i ∈ s.pending, i.wf = true) → step s = .next t →
    t.tablesReady
    ∧ ((∀ low : Bool, s.pending.head? ≠ some (.resetNAssertion low)) →
        (∀ n : Nat, s.tableReferenced n = true → ∀ i : Nat, i < 1024 → t.entry n i = s.entry n i)
        ∧ (∀ n : Nat, s.overlayReferenced n = true → t.terms n = s.terms n))

/-- The state after reset meets every invariant that the steps keep, whether TRIP_N is low or high at the release
(`State.reset` is the state with TRIP_N high, log 7). -/
def Obligations.ResetMeetsInvariants : Prop :=
  State.reset = State.resetWith false
  ∧ ∀ low : Bool, let s := State.resetWith low
    s.canonical ∧ s.phaseLocked ∧ s.tripSound ∧ s.lanesSound ∧ s.senseBounded ∧ s.captureSound ∧ s.synthesisBounded
    ∧ s.tablesReady
end

