-- ==== Sys2Proof/Laws/Encoding.lean ====
section
/-! SUPPORT. The items of a body: their lengths, and that the number read from the bytes of a number is the number. -/

namespace Sys2Proof.Machine

@[simp] theorem length_numBytes (k n : Nat) : (numBytes k n).length = k := by
  induction k with
  | zero => rfl
  | succ k ih => simp [numBytes, ih]

@[simp] theorem length_intBytes (k : Nat) (v : Int) : (intBytes k v).length = k := length_numBytes _ _

@[simp] theorem length_byteItem (n : Nat) : (byteItem n).length = 1 := rfl

@[simp] theorem length_flagItem (b : Bool) : (flagItem b).length = 1 := rfl

@[simp] theorem length_zeroBytes (k : Nat) : (zeroBytes k).length = k := List.length_replicate

/-- An item that may be absent takes one byte more than the item, present or absent. -/
theorem length_optItem (k : Nat) (b : Option (List Byte)) (h : ∀ x ∈ b, x.length = k) :
    (optItem k b).length = k + 1 := by
  cases b with
  | none => simp [optItem]
  | some x => simp [optItem, h x rfl]

theorem bytesNum_append (x y : List Byte) : bytesNum (x ++ y) = bytesNum x * 256 ^ y.length + bytesNum y := by
  have gen : ∀ (y : List Byte) (a : Nat),
      y.foldl (fun acc b => acc * 256 + b.toNat) a = a * 256 ^ y.length + bytesNum y := by
    intro y
    induction y with
    | nil => intro a; simp [bytesNum]
    | cons b y ih =>
      intro a
      simp only [List.foldl_cons, List.length_cons, bytesNum]
      rw [ih, ih (0 * 256 + b.toNat)]
      ring
  rw [bytesNum, List.foldl_append, gen]
  rfl

/-- The number read from the bytes of `n` is `n`, modulo what the bytes hold. -/
theorem bytesNum_numBytes (k n : Nat) : bytesNum (numBytes k n) = n % 256 ^ k := by
  induction k generalizing n with
  | zero => simp [numBytes, bytesNum, Nat.mod_one]
  | succ k ih =>
    have : numBytes (k + 1) n = [BitVec.ofNat 8 (n / 256 ^ k)] ++ numBytes k n := rfl
    rw [this, bytesNum_append, ih, length_numBytes]
    have hb : bytesNum [BitVec.ofNat 8 (n / 256 ^ k)] = n / 256 ^ k % 256 := by simp [bytesNum]
    rw [hb, Nat.pow_succ, Nat.mod_mul]
    ring

/-- The signed number read from the bytes of `v` is `v`, where the bytes hold it. -/
theorem bytesInt_intBytes (k : Nat) (v : Int) (h1 : -(256 ^ k : Nat) ≤ 2 * v) (h2 : 2 * v < (256 ^ k : Nat)) :
    bytesInt (intBytes k v) = v := by
  unfold bytesInt intBytes
  rw [bytesNum_numBytes, length_numBytes]
  have hp : (0 : Int) < (256 ^ k : Nat) := by positivity
  have hn := Int.emod_nonneg v (ne_of_gt hp)
  have hl := Int.emod_lt_of_pos v hp
  rw [Nat.mod_eq_of_lt (by omega)]
  have hd : v % (256 ^ k : Nat) = if 0 ≤ v then v else v + (256 ^ k : Nat) := by
    split_ifs with h
    · exact Int.emod_eq_of_lt h (by omega)
    · rw [← Int.add_emod_right]
      exact Int.emod_eq_of_lt (by omega) (by omega)
  rw [hd] at hn hl ⊢
  split_ifs at hn hl ⊢ <;> omega

end Sys2Proof.Machine
end

