-- ==== Sys2Proof/Laws/State.lean ====
section
/-! SUPPORT. What each update of the state leaves: one lemma per field per update, so that no later proof unfolds a
record update; and the reads of the containers after a write. -/

namespace Sys2Proof

/-! ### The containers -/

@[simp] theorem PerChannel.get_set_self {α : Type} (x : PerChannel α) (c : Channel) (v : α) :
    (x.set c v).get c = v := by cases c <;> rfl

theorem PerChannel.get_set_ne {α : Type} (x : PerChannel α) {c d : Channel} (v : α) (h : d ≠ c) :
    (x.set c v).get d = x.get d := by cases c <;> cases d <;> first | rfl | exact absurd rfl h

@[simp] theorem PerChannel.get_all {α : Type} (c : Channel) (v : α) : (PerChannel.all v).get c = v := by
  cases c <;> rfl

theorem PerChannel.ext_get {α : Type} {x y : PerChannel α} (h : ∀ c : Channel, x.get c = y.get c) : x = y := by
  obtain ⟨a, b, c⟩ := x
  obtain ⟨d, e, f⟩ := y
  have h1 := h .L1
  have h2 := h .L2
  have h3 := h .L3
  simp only [PerChannel.get] at h1 h2 h3
  rw [h1, h2, h3]

@[simp] theorem PerLane.get_set_self {α : Type} (x : PerLane α) (l : LaneId) (v : α) : (x.set l v).get l = v := by
  cases l <;> rfl

theorem PerLane.get_set_ne {α : Type} (x : PerLane α) {l m : LaneId} (v : α) (h : m ≠ l) :
    (x.set l v).get m = x.get m := by cases l <;> cases m <;> first | rfl | exact absurd rfl h

@[simp] theorem PerLane.get_all {α : Type} (l : LaneId) (v : α) : (PerLane.all v).get l = v := by cases l <;> rfl

@[simp] theorem PerPort.get_set_self {α : Type} (x : PerPort α) (p : Port) (v : α) : (x.set p v).get p = v := by
  cases p <;> rfl

theorem PerPort.get_set_ne {α : Type} (x : PerPort α) {p q : Port} (v : α) (h : q ≠ p) :
    (x.set p v).get q = x.get q := by cases p <;> cases q <;> first | rfl | exact absurd rfl h

@[simp] theorem PerPort.set_set {α : Type} (x : PerPort α) (p : Port) (v w : α) : (x.set p v).set p w = x.set p w := by
  cases p <;> rfl

namespace Machine

/-! ### setChan -/

@[simp] theorem State.pending_setChan (s : State) (c : Channel) (x : Chan) : (s.setChan c x).pending = s.pending := rfl
@[simp] theorem State.chans_setChan (s : State) (c : Channel) (x : Chan) : (s.setChan c x).chans = s.chans.set c x := rfl
@[simp] theorem State.tables_setChan (s : State) (c : Channel) (x : Chan) : (s.setChan c x).tables = s.tables := rfl
@[simp] theorem State.wave_setChan (s : State) (c : Channel) (x : Chan) : (s.setChan c x).wave = s.wave := rfl
@[simp] theorem State.overlays_setChan (s : State) (c : Channel) (x : Chan) : (s.setChan c x).overlays = s.overlays := rfl
@[simp] theorem State.steps_setChan (s : State) (c : Channel) (x : Chan) : (s.setChan c x).steps = s.steps := rfl
@[simp] theorem State.programs_setChan (s : State) (c : Channel) (x : Chan) : (s.setChan c x).programs = s.programs := rfl
@[simp] theorem State.lanes_setChan (s : State) (c : Channel) (x : Chan) : (s.setChan c x).lanes = s.lanes := rfl
@[simp] theorem State.key1_setChan (s : State) (c : Channel) (x : Chan) : (s.setChan c x).key1 = s.key1 := rfl
@[simp] theorem State.key2_setChan (s : State) (c : Channel) (x : Chan) : (s.setChan c x).key2 = s.key2 := rfl
@[simp] theorem State.marker1_setChan (s : State) (c : Channel) (x : Chan) : (s.setChan c x).marker1 = s.marker1 := rfl
@[simp] theorem State.marker2_setChan (s : State) (c : Channel) (x : Chan) : (s.setChan c x).marker2 = s.marker2 := rfl
@[simp] theorem State.sense_setChan (s : State) (c : Channel) (x : Chan) : (s.setChan c x).sense = s.sense := rfl
@[simp] theorem State.descs_setChan (s : State) (c : Channel) (x : Chan) : (s.setChan c x).descs = s.descs := rfl
@[simp] theorem State.comps_setChan (s : State) (c : Channel) (x : Chan) : (s.setChan c x).comps = s.comps := rfl
@[simp] theorem State.engine_setChan (s : State) (c : Channel) (x : Chan) : (s.setChan c x).engine = s.engine := rfl
@[simp] theorem State.mem_setChan (s : State) (c : Channel) (x : Chan) : (s.setChan c x).mem = s.mem := rfl
@[simp] theorem State.trip_setChan (s : State) (c : Channel) (x : Chan) : (s.setChan c x).trip = s.trip := rfl
@[simp] theorem State.links_setChan (s : State) (c : Channel) (x : Chan) : (s.setChan c x).links = s.links := rfl
@[simp] theorem State.ports_setChan (s : State) (c : Channel) (x : Chan) : (s.setChan c x).ports = s.ports := rfl

/-! ### setLane -/

@[simp] theorem State.pending_setLane (s : State) (l : LaneId) (x : Lane) : (s.setLane l x).pending = s.pending := rfl
@[simp] theorem State.chans_setLane (s : State) (l : LaneId) (x : Lane) : (s.setLane l x).chans = s.chans := rfl
@[simp] theorem State.tables_setLane (s : State) (l : LaneId) (x : Lane) : (s.setLane l x).tables = s.tables := rfl
@[simp] theorem State.wave_setLane (s : State) (l : LaneId) (x : Lane) : (s.setLane l x).wave = s.wave := rfl
@[simp] theorem State.overlays_setLane (s : State) (l : LaneId) (x : Lane) : (s.setLane l x).overlays = s.overlays := rfl
@[simp] theorem State.steps_setLane (s : State) (l : LaneId) (x : Lane) : (s.setLane l x).steps = s.steps := rfl
@[simp] theorem State.programs_setLane (s : State) (l : LaneId) (x : Lane) : (s.setLane l x).programs = s.programs := rfl
@[simp] theorem State.lanes_setLane (s : State) (l : LaneId) (x : Lane) : (s.setLane l x).lanes = s.lanes.set l x := rfl
@[simp] theorem State.key1_setLane (s : State) (l : LaneId) (x : Lane) : (s.setLane l x).key1 = s.key1 := rfl
@[simp] theorem State.key2_setLane (s : State) (l : LaneId) (x : Lane) : (s.setLane l x).key2 = s.key2 := rfl
@[simp] theorem State.marker1_setLane (s : State) (l : LaneId) (x : Lane) : (s.setLane l x).marker1 = s.marker1 := rfl
@[simp] theorem State.marker2_setLane (s : State) (l : LaneId) (x : Lane) : (s.setLane l x).marker2 = s.marker2 := rfl
@[simp] theorem State.sense_setLane (s : State) (l : LaneId) (x : Lane) : (s.setLane l x).sense = s.sense := rfl
@[simp] theorem State.descs_setLane (s : State) (l : LaneId) (x : Lane) : (s.setLane l x).descs = s.descs := rfl
@[simp] theorem State.comps_setLane (s : State) (l : LaneId) (x : Lane) : (s.setLane l x).comps = s.comps := rfl
@[simp] theorem State.engine_setLane (s : State) (l : LaneId) (x : Lane) : (s.setLane l x).engine = s.engine := rfl
@[simp] theorem State.mem_setLane (s : State) (l : LaneId) (x : Lane) : (s.setLane l x).mem = s.mem := rfl
@[simp] theorem State.trip_setLane (s : State) (l : LaneId) (x : Lane) : (s.setLane l x).trip = s.trip := rfl
@[simp] theorem State.links_setLane (s : State) (l : LaneId) (x : Lane) : (s.setLane l x).links = s.links := rfl
@[simp] theorem State.ports_setLane (s : State) (l : LaneId) (x : Lane) : (s.setLane l x).ports = s.ports := rfl

/-! ### setLink -/

@[simp] theorem State.pending_setLink (s : State) (k : Channel) (x : Link) : (s.setLink k x).pending = s.pending := rfl
@[simp] theorem State.chans_setLink (s : State) (k : Channel) (x : Link) : (s.setLink k x).chans = s.chans := rfl
@[simp] theorem State.tables_setLink (s : State) (k : Channel) (x : Link) : (s.setLink k x).tables = s.tables := rfl
@[simp] theorem State.wave_setLink (s : State) (k : Channel) (x : Link) : (s.setLink k x).wave = s.wave := rfl
@[simp] theorem State.overlays_setLink (s : State) (k : Channel) (x : Link) : (s.setLink k x).overlays = s.overlays := rfl
@[simp] theorem State.steps_setLink (s : State) (k : Channel) (x : Link) : (s.setLink k x).steps = s.steps := rfl
@[simp] theorem State.programs_setLink (s : State) (k : Channel) (x : Link) : (s.setLink k x).programs = s.programs := rfl
@[simp] theorem State.lanes_setLink (s : State) (k : Channel) (x : Link) : (s.setLink k x).lanes = s.lanes := rfl
@[simp] theorem State.key1_setLink (s : State) (k : Channel) (x : Link) : (s.setLink k x).key1 = s.key1 := rfl
@[simp] theorem State.key2_setLink (s : State) (k : Channel) (x : Link) : (s.setLink k x).key2 = s.key2 := rfl
@[simp] theorem State.marker1_setLink (s : State) (k : Channel) (x : Link) : (s.setLink k x).marker1 = s.marker1 := rfl
@[simp] theorem State.marker2_setLink (s : State) (k : Channel) (x : Link) : (s.setLink k x).marker2 = s.marker2 := rfl
@[simp] theorem State.sense_setLink (s : State) (k : Channel) (x : Link) : (s.setLink k x).sense = s.sense := rfl
@[simp] theorem State.descs_setLink (s : State) (k : Channel) (x : Link) : (s.setLink k x).descs = s.descs := rfl
@[simp] theorem State.comps_setLink (s : State) (k : Channel) (x : Link) : (s.setLink k x).comps = s.comps := rfl
@[simp] theorem State.engine_setLink (s : State) (k : Channel) (x : Link) : (s.setLink k x).engine = s.engine := rfl
@[simp] theorem State.mem_setLink (s : State) (k : Channel) (x : Link) : (s.setLink k x).mem = s.mem := rfl
@[simp] theorem State.trip_setLink (s : State) (k : Channel) (x : Link) : (s.setLink k x).trip = s.trip := rfl
@[simp] theorem State.links_setLink (s : State) (k : Channel) (x : Link) : (s.setLink k x).links = s.links.set k x := rfl
@[simp] theorem State.ports_setLink (s : State) (k : Channel) (x : Link) : (s.setLink k x).ports = s.ports := rfl

/-! ### setSense -/

@[simp] theorem State.pending_setSense (s : State) (c : Channel) (x : Sense) : (s.setSense c x).pending = s.pending := rfl
@[simp] theorem State.chans_setSense (s : State) (c : Channel) (x : Sense) : (s.setSense c x).chans = s.chans := rfl
@[simp] theorem State.tables_setSense (s : State) (c : Channel) (x : Sense) : (s.setSense c x).tables = s.tables := rfl
@[simp] theorem State.wave_setSense (s : State) (c : Channel) (x : Sense) : (s.setSense c x).wave = s.wave := rfl
@[simp] theorem State.overlays_setSense (s : State) (c : Channel) (x : Sense) : (s.setSense c x).overlays = s.overlays := rfl
@[simp] theorem State.steps_setSense (s : State) (c : Channel) (x : Sense) : (s.setSense c x).steps = s.steps := rfl
@[simp] theorem State.programs_setSense (s : State) (c : Channel) (x : Sense) : (s.setSense c x).programs = s.programs := rfl
@[simp] theorem State.lanes_setSense (s : State) (c : Channel) (x : Sense) : (s.setSense c x).lanes = s.lanes := rfl
@[simp] theorem State.key1_setSense (s : State) (c : Channel) (x : Sense) : (s.setSense c x).key1 = s.key1 := rfl
@[simp] theorem State.key2_setSense (s : State) (c : Channel) (x : Sense) : (s.setSense c x).key2 = s.key2 := rfl
@[simp] theorem State.marker1_setSense (s : State) (c : Channel) (x : Sense) : (s.setSense c x).marker1 = s.marker1 := rfl
@[simp] theorem State.marker2_setSense (s : State) (c : Channel) (x : Sense) : (s.setSense c x).marker2 = s.marker2 := rfl
@[simp] theorem State.sense_setSense (s : State) (c : Channel) (x : Sense) : (s.setSense c x).sense = s.sense.set c x := rfl
@[simp] theorem State.descs_setSense (s : State) (c : Channel) (x : Sense) : (s.setSense c x).descs = s.descs := rfl
@[simp] theorem State.comps_setSense (s : State) (c : Channel) (x : Sense) : (s.setSense c x).comps = s.comps := rfl
@[simp] theorem State.engine_setSense (s : State) (c : Channel) (x : Sense) : (s.setSense c x).engine = s.engine := rfl
@[simp] theorem State.mem_setSense (s : State) (c : Channel) (x : Sense) : (s.setSense c x).mem = s.mem := rfl
@[simp] theorem State.trip_setSense (s : State) (c : Channel) (x : Sense) : (s.setSense c x).trip = s.trip := rfl
@[simp] theorem State.links_setSense (s : State) (c : Channel) (x : Sense) : (s.setSense c x).links = s.links := rfl
@[simp] theorem State.ports_setSense (s : State) (c : Channel) (x : Sense) : (s.setSense c x).ports = s.ports := rfl

/-! ### setPort -/

@[simp] theorem State.pending_setPort (s : State) (p : Port) (x : PortRecord) : (s.setPort p x).pending = s.pending := rfl
@[simp] theorem State.chans_setPort (s : State) (p : Port) (x : PortRecord) : (s.setPort p x).chans = s.chans := rfl
@[simp] theorem State.tables_setPort (s : State) (p : Port) (x : PortRecord) : (s.setPort p x).tables = s.tables := rfl
@[simp] theorem State.wave_setPort (s : State) (p : Port) (x : PortRecord) : (s.setPort p x).wave = s.wave := rfl
@[simp] theorem State.overlays_setPort (s : State) (p : Port) (x : PortRecord) : (s.setPort p x).overlays = s.overlays := rfl
@[simp] theorem State.steps_setPort (s : State) (p : Port) (x : PortRecord) : (s.setPort p x).steps = s.steps := rfl
@[simp] theorem State.programs_setPort (s : State) (p : Port) (x : PortRecord) : (s.setPort p x).programs = s.programs := rfl
@[simp] theorem State.lanes_setPort (s : State) (p : Port) (x : PortRecord) : (s.setPort p x).lanes = s.lanes := rfl
@[simp] theorem State.key1_setPort (s : State) (p : Port) (x : PortRecord) : (s.setPort p x).key1 = s.key1 := rfl
@[simp] theorem State.key2_setPort (s : State) (p : Port) (x : PortRecord) : (s.setPort p x).key2 = s.key2 := rfl
@[simp] theorem State.marker1_setPort (s : State) (p : Port) (x : PortRecord) : (s.setPort p x).marker1 = s.marker1 := rfl
@[simp] theorem State.marker2_setPort (s : State) (p : Port) (x : PortRecord) : (s.setPort p x).marker2 = s.marker2 := rfl
@[simp] theorem State.sense_setPort (s : State) (p : Port) (x : PortRecord) : (s.setPort p x).sense = s.sense := rfl
@[simp] theorem State.descs_setPort (s : State) (p : Port) (x : PortRecord) : (s.setPort p x).descs = s.descs := rfl
@[simp] theorem State.comps_setPort (s : State) (p : Port) (x : PortRecord) : (s.setPort p x).comps = s.comps := rfl
@[simp] theorem State.engine_setPort (s : State) (p : Port) (x : PortRecord) : (s.setPort p x).engine = s.engine := rfl
@[simp] theorem State.mem_setPort (s : State) (p : Port) (x : PortRecord) : (s.setPort p x).mem = s.mem := rfl
@[simp] theorem State.trip_setPort (s : State) (p : Port) (x : PortRecord) : (s.setPort p x).trip = s.trip := rfl
@[simp] theorem State.links_setPort (s : State) (p : Port) (x : PortRecord) : (s.setPort p x).links = s.links := rfl
@[simp] theorem State.ports_setPort (s : State) (p : Port) (x : PortRecord) : (s.setPort p x).ports = s.ports.set p x := rfl

/-! ### setTrip -/

@[simp] theorem State.pending_setTrip (s : State) (x : TripUnit) : (s.setTrip x).pending = s.pending := rfl
@[simp] theorem State.chans_setTrip (s : State) (x : TripUnit) : (s.setTrip x).chans = s.chans := rfl
@[simp] theorem State.tables_setTrip (s : State) (x : TripUnit) : (s.setTrip x).tables = s.tables := rfl
@[simp] theorem State.wave_setTrip (s : State) (x : TripUnit) : (s.setTrip x).wave = s.wave := rfl
@[simp] theorem State.overlays_setTrip (s : State) (x : TripUnit) : (s.setTrip x).overlays = s.overlays := rfl
@[simp] theorem State.steps_setTrip (s : State) (x : TripUnit) : (s.setTrip x).steps = s.steps := rfl
@[simp] theorem State.programs_setTrip (s : State) (x : TripUnit) : (s.setTrip x).programs = s.programs := rfl
@[simp] theorem State.lanes_setTrip (s : State) (x : TripUnit) : (s.setTrip x).lanes = s.lanes := rfl
@[simp] theorem State.key1_setTrip (s : State) (x : TripUnit) : (s.setTrip x).key1 = s.key1 := rfl
@[simp] theorem State.key2_setTrip (s : State) (x : TripUnit) : (s.setTrip x).key2 = s.key2 := rfl
@[simp] theorem State.marker1_setTrip (s : State) (x : TripUnit) : (s.setTrip x).marker1 = s.marker1 := rfl
@[simp] theorem State.marker2_setTrip (s : State) (x : TripUnit) : (s.setTrip x).marker2 = s.marker2 := rfl
@[simp] theorem State.sense_setTrip (s : State) (x : TripUnit) : (s.setTrip x).sense = s.sense := rfl
@[simp] theorem State.descs_setTrip (s : State) (x : TripUnit) : (s.setTrip x).descs = s.descs := rfl
@[simp] theorem State.comps_setTrip (s : State) (x : TripUnit) : (s.setTrip x).comps = s.comps := rfl
@[simp] theorem State.engine_setTrip (s : State) (x : TripUnit) : (s.setTrip x).engine = s.engine := rfl
@[simp] theorem State.mem_setTrip (s : State) (x : TripUnit) : (s.setTrip x).mem = s.mem := rfl
@[simp] theorem State.trip_setTrip (s : State) (x : TripUnit) : (s.setTrip x).trip = x := rfl
@[simp] theorem State.links_setTrip (s : State) (x : TripUnit) : (s.setTrip x).links = s.links := rfl
@[simp] theorem State.ports_setTrip (s : State) (x : TripUnit) : (s.setTrip x).ports = s.ports := rfl

/-! ### setEngine -/

@[simp] theorem State.pending_setEngine (s : State) (x : Engine) : (s.setEngine x).pending = s.pending := rfl
@[simp] theorem State.chans_setEngine (s : State) (x : Engine) : (s.setEngine x).chans = s.chans := rfl
@[simp] theorem State.tables_setEngine (s : State) (x : Engine) : (s.setEngine x).tables = s.tables := rfl
@[simp] theorem State.wave_setEngine (s : State) (x : Engine) : (s.setEngine x).wave = s.wave := rfl
@[simp] theorem State.overlays_setEngine (s : State) (x : Engine) : (s.setEngine x).overlays = s.overlays := rfl
@[simp] theorem State.steps_setEngine (s : State) (x : Engine) : (s.setEngine x).steps = s.steps := rfl
@[simp] theorem State.programs_setEngine (s : State) (x : Engine) : (s.setEngine x).programs = s.programs := rfl
@[simp] theorem State.lanes_setEngine (s : State) (x : Engine) : (s.setEngine x).lanes = s.lanes := rfl
@[simp] theorem State.key1_setEngine (s : State) (x : Engine) : (s.setEngine x).key1 = s.key1 := rfl
@[simp] theorem State.key2_setEngine (s : State) (x : Engine) : (s.setEngine x).key2 = s.key2 := rfl
@[simp] theorem State.marker1_setEngine (s : State) (x : Engine) : (s.setEngine x).marker1 = s.marker1 := rfl
@[simp] theorem State.marker2_setEngine (s : State) (x : Engine) : (s.setEngine x).marker2 = s.marker2 := rfl
@[simp] theorem State.sense_setEngine (s : State) (x : Engine) : (s.setEngine x).sense = s.sense := rfl
@[simp] theorem State.descs_setEngine (s : State) (x : Engine) : (s.setEngine x).descs = s.descs := rfl
@[simp] theorem State.comps_setEngine (s : State) (x : Engine) : (s.setEngine x).comps = s.comps := rfl
@[simp] theorem State.engine_setEngine (s : State) (x : Engine) : (s.setEngine x).engine = x := rfl
@[simp] theorem State.mem_setEngine (s : State) (x : Engine) : (s.setEngine x).mem = s.mem := rfl
@[simp] theorem State.trip_setEngine (s : State) (x : Engine) : (s.setEngine x).trip = s.trip := rfl
@[simp] theorem State.links_setEngine (s : State) (x : Engine) : (s.setEngine x).links = s.links := rfl
@[simp] theorem State.ports_setEngine (s : State) (x : Engine) : (s.setEngine x).ports = s.ports := rfl

/-! ### setTable -/

@[simp] theorem State.pending_setTable (s : State) (t : Nat) (x : TableState) : (s.setTable t x).pending = s.pending := rfl
@[simp] theorem State.chans_setTable (s : State) (t : Nat) (x : TableState) : (s.setTable t x).chans = s.chans := rfl
@[simp] theorem State.tables_setTable (s : State) (t : Nat) (x : TableState) : (s.setTable t x).tables = if x = .empty then Store.del s.tables t else Store.put s.tables t x := rfl
@[simp] theorem State.wave_setTable (s : State) (t : Nat) (x : TableState) : (s.setTable t x).wave = s.wave := rfl
@[simp] theorem State.overlays_setTable (s : State) (t : Nat) (x : TableState) : (s.setTable t x).overlays = s.overlays := rfl
@[simp] theorem State.steps_setTable (s : State) (t : Nat) (x : TableState) : (s.setTable t x).steps = s.steps := rfl
@[simp] theorem State.programs_setTable (s : State) (t : Nat) (x : TableState) : (s.setTable t x).programs = s.programs := rfl
@[simp] theorem State.lanes_setTable (s : State) (t : Nat) (x : TableState) : (s.setTable t x).lanes = s.lanes := rfl
@[simp] theorem State.key1_setTable (s : State) (t : Nat) (x : TableState) : (s.setTable t x).key1 = s.key1 := rfl
@[simp] theorem State.key2_setTable (s : State) (t : Nat) (x : TableState) : (s.setTable t x).key2 = s.key2 := rfl
@[simp] theorem State.marker1_setTable (s : State) (t : Nat) (x : TableState) : (s.setTable t x).marker1 = s.marker1 := rfl
@[simp] theorem State.marker2_setTable (s : State) (t : Nat) (x : TableState) : (s.setTable t x).marker2 = s.marker2 := rfl
@[simp] theorem State.sense_setTable (s : State) (t : Nat) (x : TableState) : (s.setTable t x).sense = s.sense := rfl
@[simp] theorem State.descs_setTable (s : State) (t : Nat) (x : TableState) : (s.setTable t x).descs = s.descs := rfl
@[simp] theorem State.comps_setTable (s : State) (t : Nat) (x : TableState) : (s.setTable t x).comps = s.comps := rfl
@[simp] theorem State.engine_setTable (s : State) (t : Nat) (x : TableState) : (s.setTable t x).engine = s.engine := rfl
@[simp] theorem State.mem_setTable (s : State) (t : Nat) (x : TableState) : (s.setTable t x).mem = s.mem := rfl
@[simp] theorem State.trip_setTable (s : State) (t : Nat) (x : TableState) : (s.setTable t x).trip = s.trip := rfl
@[simp] theorem State.links_setTable (s : State) (t : Nat) (x : TableState) : (s.setTable t x).links = s.links := rfl
@[simp] theorem State.ports_setTable (s : State) (t : Nat) (x : TableState) : (s.setTable t x).ports = s.ports := rfl

/-! ### storeWord -/

@[simp] theorem State.pending_storeWord (s : State) (x : Descriptor) (w : Int) (u : Option Int) : (s.storeWord x w u).pending = s.pending := rfl
@[simp] theorem State.chans_storeWord (s : State) (x : Descriptor) (w : Int) (u : Option Int) : (s.storeWord x w u).chans = s.chans := rfl
@[simp] theorem State.tables_storeWord (s : State) (x : Descriptor) (w : Int) (u : Option Int) : (s.storeWord x w u).tables = s.tables := rfl
@[simp] theorem State.wave_storeWord (s : State) (x : Descriptor) (w : Int) (u : Option Int) : (s.storeWord x w u).wave = s.wave := rfl
@[simp] theorem State.overlays_storeWord (s : State) (x : Descriptor) (w : Int) (u : Option Int) : (s.storeWord x w u).overlays = s.overlays := rfl
@[simp] theorem State.steps_storeWord (s : State) (x : Descriptor) (w : Int) (u : Option Int) : (s.storeWord x w u).steps = s.steps := rfl
@[simp] theorem State.programs_storeWord (s : State) (x : Descriptor) (w : Int) (u : Option Int) : (s.storeWord x w u).programs = s.programs := rfl
@[simp] theorem State.lanes_storeWord (s : State) (x : Descriptor) (w : Int) (u : Option Int) : (s.storeWord x w u).lanes = s.lanes := rfl
@[simp] theorem State.key1_storeWord (s : State) (x : Descriptor) (w : Int) (u : Option Int) : (s.storeWord x w u).key1 = s.key1 := rfl
@[simp] theorem State.key2_storeWord (s : State) (x : Descriptor) (w : Int) (u : Option Int) : (s.storeWord x w u).key2 = s.key2 := rfl
@[simp] theorem State.marker1_storeWord (s : State) (x : Descriptor) (w : Int) (u : Option Int) : (s.storeWord x w u).marker1 = s.marker1 := rfl
@[simp] theorem State.marker2_storeWord (s : State) (x : Descriptor) (w : Int) (u : Option Int) : (s.storeWord x w u).marker2 = s.marker2 := rfl
@[simp] theorem State.sense_storeWord (s : State) (x : Descriptor) (w : Int) (u : Option Int) : (s.storeWord x w u).sense = s.sense := rfl
@[simp] theorem State.descs_storeWord (s : State) (x : Descriptor) (w : Int) (u : Option Int) : (s.storeWord x w u).descs = s.descs := rfl
@[simp] theorem State.comps_storeWord (s : State) (x : Descriptor) (w : Int) (u : Option Int) : (s.storeWord x w u).comps = s.comps := rfl
@[simp] theorem State.trip_storeWord (s : State) (x : Descriptor) (w : Int) (u : Option Int) : (s.storeWord x w u).trip = s.trip := rfl
@[simp] theorem State.links_storeWord (s : State) (x : Descriptor) (w : Int) (u : Option Int) : (s.storeWord x w u).links = s.links := rfl
@[simp] theorem State.ports_storeWord (s : State) (x : Descriptor) (w : Int) (u : Option Int) : (s.storeWord x w u).ports = s.ports := rfl

/-! ### hold -/

@[simp] theorem State.pending_hold (s : State) (p : Port) (r : Response) : (s.hold p r).pending = s.pending := rfl
@[simp] theorem State.chans_hold (s : State) (p : Port) (r : Response) : (s.hold p r).chans = s.chans := rfl
@[simp] theorem State.tables_hold (s : State) (p : Port) (r : Response) : (s.hold p r).tables = s.tables := rfl
@[simp] theorem State.wave_hold (s : State) (p : Port) (r : Response) : (s.hold p r).wave = s.wave := rfl
@[simp] theorem State.overlays_hold (s : State) (p : Port) (r : Response) : (s.hold p r).overlays = s.overlays := rfl
@[simp] theorem State.steps_hold (s : State) (p : Port) (r : Response) : (s.hold p r).steps = s.steps := rfl
@[simp] theorem State.programs_hold (s : State) (p : Port) (r : Response) : (s.hold p r).programs = s.programs := rfl
@[simp] theorem State.lanes_hold (s : State) (p : Port) (r : Response) : (s.hold p r).lanes = s.lanes := rfl
@[simp] theorem State.key1_hold (s : State) (p : Port) (r : Response) : (s.hold p r).key1 = s.key1 := rfl
@[simp] theorem State.key2_hold (s : State) (p : Port) (r : Response) : (s.hold p r).key2 = s.key2 := rfl
@[simp] theorem State.marker1_hold (s : State) (p : Port) (r : Response) : (s.hold p r).marker1 = s.marker1 := rfl
@[simp] theorem State.marker2_hold (s : State) (p : Port) (r : Response) : (s.hold p r).marker2 = s.marker2 := rfl
@[simp] theorem State.sense_hold (s : State) (p : Port) (r : Response) : (s.hold p r).sense = s.sense := rfl
@[simp] theorem State.descs_hold (s : State) (p : Port) (r : Response) : (s.hold p r).descs = s.descs := rfl
@[simp] theorem State.comps_hold (s : State) (p : Port) (r : Response) : (s.hold p r).comps = s.comps := rfl
@[simp] theorem State.engine_hold (s : State) (p : Port) (r : Response) : (s.hold p r).engine = s.engine := rfl
@[simp] theorem State.mem_hold (s : State) (p : Port) (r : Response) : (s.hold p r).mem = s.mem := rfl
@[simp] theorem State.trip_hold (s : State) (p : Port) (r : Response) : (s.hold p r).trip = s.trip := rfl
@[simp] theorem State.links_hold (s : State) (p : Port) (r : Response) : (s.hold p r).links = s.links := rfl

/-! ### alert -/

@[simp] theorem State.pending_alert (s : State) (p : Port) (a : Alert) : (s.alert p a).pending = s.pending := rfl
@[simp] theorem State.chans_alert (s : State) (p : Port) (a : Alert) : (s.alert p a).chans = s.chans := rfl
@[simp] theorem State.tables_alert (s : State) (p : Port) (a : Alert) : (s.alert p a).tables = s.tables := rfl
@[simp] theorem State.wave_alert (s : State) (p : Port) (a : Alert) : (s.alert p a).wave = s.wave := rfl
@[simp] theorem State.overlays_alert (s : State) (p : Port) (a : Alert) : (s.alert p a).overlays = s.overlays := rfl
@[simp] theorem State.steps_alert (s : State) (p : Port) (a : Alert) : (s.alert p a).steps = s.steps := rfl
@[simp] theorem State.programs_alert (s : State) (p : Port) (a : Alert) : (s.alert p a).programs = s.programs := rfl
@[simp] theorem State.lanes_alert (s : State) (p : Port) (a : Alert) : (s.alert p a).lanes = s.lanes := rfl
@[simp] theorem State.key1_alert (s : State) (p : Port) (a : Alert) : (s.alert p a).key1 = s.key1 := rfl
@[simp] theorem State.key2_alert (s : State) (p : Port) (a : Alert) : (s.alert p a).key2 = s.key2 := rfl
@[simp] theorem State.marker1_alert (s : State) (p : Port) (a : Alert) : (s.alert p a).marker1 = s.marker1 := rfl
@[simp] theorem State.marker2_alert (s : State) (p : Port) (a : Alert) : (s.alert p a).marker2 = s.marker2 := rfl
@[simp] theorem State.sense_alert (s : State) (p : Port) (a : Alert) : (s.alert p a).sense = s.sense := rfl
@[simp] theorem State.descs_alert (s : State) (p : Port) (a : Alert) : (s.alert p a).descs = s.descs := rfl
@[simp] theorem State.comps_alert (s : State) (p : Port) (a : Alert) : (s.alert p a).comps = s.comps := rfl
@[simp] theorem State.engine_alert (s : State) (p : Port) (a : Alert) : (s.alert p a).engine = s.engine := rfl
@[simp] theorem State.mem_alert (s : State) (p : Port) (a : Alert) : (s.alert p a).mem = s.mem := rfl
@[simp] theorem State.trip_alert (s : State) (p : Port) (a : Alert) : (s.alert p a).trip = s.trip := rfl
@[simp] theorem State.links_alert (s : State) (p : Port) (a : Alert) : (s.alert p a).links = s.links := rfl

/-! ### setKey -/

@[simp] theorem State.pending_setKey (s : State) (k : HoldKey) (b : Bool) : (s.setKey k b).pending = s.pending := by cases k <;> rfl
@[simp] theorem State.chans_setKey (s : State) (k : HoldKey) (b : Bool) : (s.setKey k b).chans = s.chans := by cases k <;> rfl
@[simp] theorem State.tables_setKey (s : State) (k : HoldKey) (b : Bool) : (s.setKey k b).tables = s.tables := by cases k <;> rfl
@[simp] theorem State.wave_setKey (s : State) (k : HoldKey) (b : Bool) : (s.setKey k b).wave = s.wave := by cases k <;> rfl
@[simp] theorem State.overlays_setKey (s : State) (k : HoldKey) (b : Bool) : (s.setKey k b).overlays = s.overlays := by cases k <;> rfl
@[simp] theorem State.steps_setKey (s : State) (k : HoldKey) (b : Bool) : (s.setKey k b).steps = s.steps := by cases k <;> rfl
@[simp] theorem State.programs_setKey (s : State) (k : HoldKey) (b : Bool) : (s.setKey k b).programs = s.programs := by cases k <;> rfl
@[simp] theorem State.lanes_setKey (s : State) (k : HoldKey) (b : Bool) : (s.setKey k b).lanes = s.lanes := by cases k <;> rfl
@[simp] theorem State.marker1_setKey (s : State) (k : HoldKey) (b : Bool) : (s.setKey k b).marker1 = s.marker1 := by cases k <;> rfl
@[simp] theorem State.marker2_setKey (s : State) (k : HoldKey) (b : Bool) : (s.setKey k b).marker2 = s.marker2 := by cases k <;> rfl
@[simp] theorem State.sense_setKey (s : State) (k : HoldKey) (b : Bool) : (s.setKey k b).sense = s.sense := by cases k <;> rfl
@[simp] theorem State.descs_setKey (s : State) (k : HoldKey) (b : Bool) : (s.setKey k b).descs = s.descs := by cases k <;> rfl
@[simp] theorem State.comps_setKey (s : State) (k : HoldKey) (b : Bool) : (s.setKey k b).comps = s.comps := by cases k <;> rfl
@[simp] theorem State.engine_setKey (s : State) (k : HoldKey) (b : Bool) : (s.setKey k b).engine = s.engine := by cases k <;> rfl
@[simp] theorem State.mem_setKey (s : State) (k : HoldKey) (b : Bool) : (s.setKey k b).mem = s.mem := by cases k <;> rfl
@[simp] theorem State.trip_setKey (s : State) (k : HoldKey) (b : Bool) : (s.setKey k b).trip = s.trip := by cases k <;> rfl
@[simp] theorem State.links_setKey (s : State) (k : HoldKey) (b : Bool) : (s.setKey k b).links = s.links := by cases k <;> rfl
@[simp] theorem State.ports_setKey (s : State) (k : HoldKey) (b : Bool) : (s.setKey k b).ports = s.ports := by cases k <;> rfl

/-! ### setMarker -/

@[simp] theorem State.pending_setMarker (s : State) (m : MarkerLine) (x : Marker) : (s.setMarker m x).pending = s.pending := by cases m <;> rfl
@[simp] theorem State.chans_setMarker (s : State) (m : MarkerLine) (x : Marker) : (s.setMarker m x).chans = s.chans := by cases m <;> rfl
@[simp] theorem State.tables_setMarker (s : State) (m : MarkerLine) (x : Marker) : (s.setMarker m x).tables = s.tables := by cases m <;> rfl
@[simp] theorem State.wave_setMarker (s : State) (m : MarkerLine) (x : Marker) : (s.setMarker m x).wave = s.wave := by cases m <;> rfl
@[simp] theorem State.overlays_setMarker (s : State) (m : MarkerLine) (x : Marker) : (s.setMarker m x).overlays = s.overlays := by cases m <;> rfl
@[simp] theorem State.steps_setMarker (s : State) (m : MarkerLine) (x : Marker) : (s.setMarker m x).steps = s.steps := by cases m <;> rfl
@[simp] theorem State.programs_setMarker (s : State) (m : MarkerLine) (x : Marker) : (s.setMarker m x).programs = s.programs := by cases m <;> rfl
@[simp] theorem State.lanes_setMarker (s : State) (m : MarkerLine) (x : Marker) : (s.setMarker m x).lanes = s.lanes := by cases m <;> rfl
@[simp] theorem State.key1_setMarker (s : State) (m : MarkerLine) (x : Marker) : (s.setMarker m x).key1 = s.key1 := by cases m <;> rfl
@[simp] theorem State.key2_setMarker (s : State) (m : MarkerLine) (x : Marker) : (s.setMarker m x).key2 = s.key2 := by cases m <;> rfl
@[simp] theorem State.sense_setMarker (s : State) (m : MarkerLine) (x : Marker) : (s.setMarker m x).sense = s.sense := by cases m <;> rfl
@[simp] theorem State.descs_setMarker (s : State) (m : MarkerLine) (x : Marker) : (s.setMarker m x).descs = s.descs := by cases m <;> rfl
@[simp] theorem State.comps_setMarker (s : State) (m : MarkerLine) (x : Marker) : (s.setMarker m x).comps = s.comps := by cases m <;> rfl
@[simp] theorem State.engine_setMarker (s : State) (m : MarkerLine) (x : Marker) : (s.setMarker m x).engine = s.engine := by cases m <;> rfl
@[simp] theorem State.mem_setMarker (s : State) (m : MarkerLine) (x : Marker) : (s.setMarker m x).mem = s.mem := by cases m <;> rfl
@[simp] theorem State.trip_setMarker (s : State) (m : MarkerLine) (x : Marker) : (s.setMarker m x).trip = s.trip := by cases m <;> rfl
@[simp] theorem State.links_setMarker (s : State) (m : MarkerLine) (x : Marker) : (s.setMarker m x).links = s.links := by cases m <;> rfl
@[simp] theorem State.ports_setMarker (s : State) (m : MarkerLine) (x : Marker) : (s.setMarker m x).ports = s.ports := by cases m <;> rfl

end Machine

end Sys2Proof
end

