-- ==== Sys2Proof/Laws/Ops.lean ====
section
/-! SUPPORT. What each shared operation can do. A frame lemma writes the state after an operation as the state before it
with the changed fields named, so that every other field is read off by rewriting. -/

namespace Sys2Proof.Machine

/-! ### Counts -/

theorem bump_eq_min (n : Nat) : bump n = min (n + 1) 65535 := by
  unfold bump Config.saturation
  split_ifs <;> omega

/-! ### Responses and alerts -/

theorem State.hold_get_self (s : State) (p : Port) (r : Response) :
    (s.hold p r).ports.get p
      = { s.ports.get p with receiving := false, frame := [], count := 0, miso := none, holder := r } :=
  PerPort.get_set_self _ _ _

theorem State.hold_get_ne (s : State) {p q : Port} (r : Response) (h : q ≠ p) :
    (s.hold p r).ports.get q = s.ports.get q := PerPort.get_set_ne _ _ h

@[simp] theorem State.alerts_hold (s : State) (p q : Port) (r : Response) :
    ((s.hold p r).ports.get q).alerts = (s.ports.get q).alerts := by cases p <;> cases q <;> rfl

@[simp] theorem State.mask_hold (s : State) (p q : Port) (r : Response) :
    ((s.hold p r).ports.get q).mask = (s.ports.get q).mask := by cases p <;> cases q <;> rfl

theorem State.alert_get_self (s : State) (p : Port) (a : Alert) :
    (s.alert p a).ports.get p = { s.ports.get p with alerts := addAlert (s.ports.get p).alerts a } :=
  PerPort.get_set_self _ _ _

theorem State.alert_get_ne (s : State) {p q : Port} (a : Alert) (h : q ≠ p) :
    (s.alert p a).ports.get q = s.ports.get q := PerPort.get_set_ne _ _ h

/-- Alerts raised to both ports reach each of them. -/
theorem State.alertBoth_get (s : State) (a : Alert) (p : Port) :
    (s.alertBoth a).ports.get p = { s.ports.get p with alerts := addAlert (s.ports.get p).alerts a } := by
  cases p <;> rfl

theorem State.alertBoth_frame (s : State) (a : Alert) :
    s.alertBoth a = { s with ports := (s.alertBoth a).ports } := rfl

theorem State.alertOrigin_frame (s : State) (o : Option Port) (a : Alert) :
    s.alertOrigin o a = { s with ports := (s.alertOrigin o a).ports } := by cases o <;> rfl

/-- A response changes its port's record and nothing else. -/
theorem State.hold_frame (s : State) (p : Port) (r : Response) :
    s.hold p r = { s with ports := (s.hold p r).ports } := rfl

/-! ### Reverts and endings -/

theorem State.revert_frame (s : State) (x : Lane) (c : Channel) :
    s.revert x c = { s with chans := (s.revert x c).chans } := by
  unfold State.revert
  split <;> rfl

/-- A revert takes the channel back to its snapshot whole; the accumulator, the link and the staged set stand. -/
theorem State.revert_get_self (s : State) (x : Lane) (c : Channel) {q : ParamSet} (h : x.snapshots.get c = some q) :
    (s.revert x c).chans.get c = (s.chans.get c).takeSet q := by
  simp [State.revert, h]

theorem State.revert_get_ne (s : State) (x : Lane) {c d : Channel} (h : d ≠ c) :
    (s.revert x c).chans.get d = s.chans.get d := by
  unfold State.revert
  split
  · exact PerChannel.get_set_ne _ _ h
  · rfl

theorem State.revertUnreverted_frame (s : State) (x : Lane) (c : Channel) :
    s.revertUnreverted x c = { s with chans := (s.revertUnreverted x c).chans } := by
  unfold State.revertUnreverted
  split
  · exact s.revert_frame x c
  · rfl

theorem State.revertUnreverted_get_ne (s : State) (x : Lane) {c d : Channel} (h : d ≠ c) :
    (s.revertUnreverted x c).chans.get d = s.chans.get d := by
  unfold State.revertUnreverted
  split
  · exact s.revert_get_ne x h
  · rfl

theorem State.goIdle_frame (s : State) (l : LaneId) :
    s.goIdle l = { s with lanes := (s.goIdle l).lanes, ports := (s.goIdle l).ports } := by
  unfold State.goIdle
  rw [State.alertOrigin_frame]
  rfl

@[simp] theorem State.lanes_alertOrigin (s : State) (o : Option Port) (a : Alert) :
    (s.alertOrigin o a).lanes = s.lanes := by cases o <;> rfl

@[simp] theorem State.lanes_goIdle (s : State) (l : LaneId) :
    (s.goIdle l).lanes = s.lanes.set l (s.lanes.get l).toIdle := by simp [State.goIdle]

theorem State.endLane_frame (r : EndReason) (s : State) (l : LaneId) :
    s.endLane r l = { s with chans := (s.endLane r l).chans, lanes := (s.endLane r l).lanes,
                             ports := (s.endLane r l).ports } := by
  unfold State.endLane
  dsimp only
  split
  · rw [State.goIdle_frame, State.revertUnreverted_frame, State.revertUnreverted_frame, State.revertUnreverted_frame]
    rfl
  · rfl

@[simp] theorem State.lanes_revertUnreverted (s : State) (x : Lane) (c : Channel) :
    (s.revertUnreverted x c).lanes = s.lanes := by rw [State.revertUnreverted_frame]

/-- An ended lane keeps its end record, with the reason and the position written unless it was CLOSING. -/
theorem State.endLane_get_self (r : EndReason) (s : State) (l : LaneId) (h : (s.lanes.get l).running = true) :
    (s.endLane r l).lanes.get l
      = { Lane.reset with ending :=
            if (s.lanes.get l).state = .closing then (s.lanes.get l).ending
            else (s.lanes.get l).ending.close r ((s.lanes.get l).position.getD 0) } := by
  unfold State.endLane
  dsimp only
  rw [if_pos h]
  simp [Lane.toIdle]

theorem State.endLane_get_ne (r : EndReason) (s : State) {l m : LaneId} (h : m ≠ l) :
    (s.endLane r l).lanes.get m = s.lanes.get m := by
  unfold State.endLane
  dsimp only
  split
  · simp [PerLane.get_set_ne _ _ h]
  · rfl

/-- A lane that is not running is left as it is, and with it the whole block. -/
theorem State.endLane_of_idle (r : EndReason) (s : State) (l : LaneId) (h : (s.lanes.get l).running = false) :
    s.endLane r l = s := by
  unfold State.endLane
  dsimp only
  rw [if_neg (by simp [h])]

theorem Lane.running_iff (x : Lane) : x.running = true ↔ x.state ≠ .idle := by
  simp [Lane.running]

theorem State.endLane_idle (r : EndReason) (s : State) (l : LaneId) : ((s.endLane r l).lanes.get l).state = .idle := by
  by_cases h : (s.lanes.get l).running = true
  · rw [State.endLane_get_self r s l h]; rfl
  · rw [State.endLane_of_idle r s l (by simpa using h)]
    simpa [Lane.running] using h

theorem State.endLanes_frame (r : EndReason) (s : State) :
    s.endLanes r = { s with chans := (s.endLanes r).chans, lanes := (s.endLanes r).lanes,
                            ports := (s.endLanes r).ports } := by
  unfold State.endLanes
  rw [State.endLane_frame, State.endLane_frame r _ .lane1, State.endLane_frame r _ .lane0]

/-- Every lane of `endLanes`, as its own `endLane` leaves it. -/
theorem State.endLanes_get (r : EndReason) (s : State) (l : LaneId) :
    (s.endLanes r).lanes.get l = (s.endLane r l).lanes.get l := by
  have ne : ∀ (t : State) (a b : LaneId), b ≠ a → (t.endLane r a).lanes.get b = t.lanes.get b :=
    fun t a b h => State.endLane_get_ne r t h
  have self : ∀ (t u : State) (a : LaneId), t.lanes.get a = u.lanes.get a →
      (t.endLane r a).lanes.get a = (u.endLane r a).lanes.get a := by
    intro t u a h
    by_cases hr : (u.lanes.get a).running = true
    · rw [State.endLane_get_self r u a hr, State.endLane_get_self r t a (by rw [h]; exact hr), h]
    · rw [State.endLane_of_idle r u a (by simpa using hr),
        State.endLane_of_idle r t a (by rw [h]; simpa using hr), h]
  unfold State.endLanes
  cases l
  · rw [ne _ _ _ (by decide), ne _ _ _ (by decide)]
  · rw [ne _ _ _ (by decide)]
    exact self _ _ _ (ne _ _ _ (by decide))
  · exact self _ _ _ (by rw [ne _ _ _ (by decide), ne _ _ _ (by decide)])

theorem State.endLanes_idle (r : EndReason) (s : State) (l : LaneId) :
    ((s.endLanes r).lanes.get l).state = .idle := by
  rw [State.endLanes_get]
  exact State.endLane_idle r s l

/-! ### The trip unit -/

@[simp] theorem State.lanes_alertBoth (s : State) (a : Alert) : (s.alertBoth a).lanes = s.lanes := rfl

@[simp] theorem State.lanes_parkFrames (s : State) : s.parkFrames.lanes = s.lanes := rfl

theorem State.enterTripped_frame (s : State) (c : Cause) (p : Option Port) :
    s.enterTripped c p = { s with
      chans := (s.enterTripped c p).chans, lanes := (s.enterTripped c p).lanes, trip := (s.enterTripped c p).trip,
      links := (s.enterTripped c p).links, ports := (s.enterTripped c p).ports } := by
  unfold State.enterTripped
  dsimp only
  rw [State.alertBoth_frame]
  unfold State.parkFrames
  rw [State.endLanes_frame]
  rfl

/-- The trip record of an entry: active sources stand, the cause is alone, every output is PARKED. -/
theorem State.enterTripped_trip (s : State) (c : Cause) (p : Option Port) :
    (s.enterTripped c p).trip = { s.trip with
      state := .tripped, causes := CauseSet.empty.add c, first := ⟨c, p⟩, outputs := PerChannel.all .parked } := by
  unfold State.enterTripped
  dsimp only
  rw [State.alertBoth_frame]
  unfold State.parkFrames
  rw [State.endLanes_frame]
  rfl

theorem State.enterTripped_idle (s : State) (c : Cause) (p : Option Port) (l : LaneId) :
    ((s.enterTripped c p).lanes.get l).state = .idle := by
  unfold State.enterTripped
  simp only [State.lanes_alertBoth, State.lanes_parkFrames]
  exact State.endLanes_idle _ _ l

theorem State.takeCause_frame (s : State) (c : Cause) (p : Option Port) :
    s.takeCause c p = { s with
      chans := (s.takeCause c p).chans, lanes := (s.takeCause c p).lanes, trip := (s.takeCause c p).trip,
      links := (s.takeCause c p).links, ports := (s.takeCause c p).ports } := by
  unfold State.takeCause
  split
  · exact s.enterTripped_frame c p
  · rfl

/-- A cause taken leaves the trip unit TRIPPED. -/
theorem State.takeCause_tripped (s : State) (c : Cause) (p : Option Port) : (s.takeCause c p).trip.state = .tripped := by
  unfold State.takeCause
  split
  · rw [State.enterTripped_trip]
  · rename_i h
    show s.trip.state = .tripped
    cases hs : s.trip.state
    · exact absurd hs h
    · rfl

theorem State.takeSource_frame (s : State) (c : Cause) (on : Bool) :
    s.takeSource c on = { s with
      chans := (s.takeSource c on).chans, lanes := (s.takeSource c on).lanes, trip := (s.takeSource c on).trip,
      links := (s.takeSource c on).links, ports := (s.takeSource c on).ports } := by
  unfold State.takeSource
  split
  · split
    · rfl
    · rw [State.takeCause_frame]; rfl
  · rfl

/-- A source seen changes the active sources to what is seen, and no other source. -/
theorem State.takeSource_active (s : State) (c : Cause) (on : Bool) :
    (s.takeSource c on).trip.active
      = if on && s.trip.active.has c then s.trip.active else s.trip.active.put c on := by
  unfold State.takeSource
  cases on
  · simp
  · by_cases h : s.trip.active.has c = true
    · simp [h]
    · simp only [if_true, h, Bool.true_and, Bool.false_eq_true, if_false]
      unfold State.takeCause
      split
      · rw [State.enterTripped_trip]; rfl
      · rfl

/-! ### Sets -/

theorem State.boundTo_some {s : State} {c : Channel} {l : LaneId} (h : s.boundTo c = some l) :
    (s.lanes.get l).binds c = true := by
  unfold State.boundTo at h
  split_ifs at h with h0 h1 h2 <;> (obtain rfl := Option.some.inj h; assumption)

theorem State.boundTo_none {s : State} {c : Channel} (h : s.boundTo c = none) (l : LaneId) :
    (s.lanes.get l).binds c = false := by
  unfold State.boundTo at h
  split_ifs at h with h0 h1 h2
  cases l <;> (rw [Bool.not_eq_true] at *; assumption)

end Sys2Proof.Machine
end

