-- ==== Sys2Proof/Laws/Store.lean ====
section
/-! SUPPORT. The numbered stores and the word memories: what a read gives after a write, and that every operation keeps
the canonical form. -/

namespace Sys2Proof.Machine

/-! ### Reads after writes, whatever the form of the store -/

@[simp] theorem Store.get_nil {α : Type} (k : Nat) : Store.get ([] : Store α) k = none := rfl

theorem Store.get_put_self {α : Type} (m : Store α) (k : Nat) (v : α) : Store.get (Store.put m k v) k = some v := by
  induction m with
  | nil => simp [Store.put, Store.get]
  | cons e t ih => simp only [Store.put]; split_ifs <;> simp_all [Store.get]

theorem Store.get_put_ne {α : Type} (m : Store α) {k a : Nat} (v : α) (h : a ≠ k) :
    Store.get (Store.put m k v) a = Store.get m a := by
  induction m with
  | nil => simp [Store.put, Store.get, h]
  | cons e t ih =>
    simp only [Store.put]
    split_ifs with h1 h2
    · simp [Store.get, h]
    · subst h2; simp [Store.get, h]
    · simp [Store.get, ih]

theorem Store.get_del_self {α : Type} (m : Store α) (k : Nat) : Store.get (Store.del m k) k = none := by
  induction m with
  | nil => rfl
  | cons e t ih => simp only [Store.del]; split_ifs with h <;> simp_all [Store.get]

theorem Store.get_del_ne {α : Type} (m : Store α) {k a : Nat} (h : a ≠ k) :
    Store.get (Store.del m k) a = Store.get m a := by
  induction m with
  | nil => rfl
  | cons e t ih =>
    simp only [Store.del]
    split_ifs with h1
    · subst h1; simp [Store.get, h, ih]
    · simp [Store.get, ih]

theorem Store.mem_of_get {α : Type} {m : Store α} {k : Nat} {v : α} (h : Store.get m k = some v) : (k, v) ∈ m := by
  induction m with
  | nil => simp at h
  | cons e t ih =>
    simp only [Store.get] at h
    split_ifs at h with h1
    · obtain rfl := Option.some.inj h
      exact h1 ▸ List.mem_cons_self
    · exact List.mem_cons_of_mem _ (ih h)

/-- In a store of the canonical form a listed record is the one that is read. -/
theorem Store.get_of_mem {α : Type} {m : Store α} {k : Nat} {v : α} (hw : Store.wf m) (h : (k, v) ∈ m) :
    Store.get m k = some v := by
  induction m with
  | nil => simp at h
  | cons e t ih =>
    rw [Store.wf, List.pairwise_cons] at hw
    rcases List.mem_cons.mp h with rfl | h'
    · simp [Store.get]
    · have hlt := hw.1 _ h'
      simp only [Store.get]
      rw [if_neg (by simpa using (Nat.ne_of_gt hlt))]
      exact ih hw.2 h'

theorem Memory.read_write_self (m : Memory) (a : Nat) (v : Int) : Memory.read (Memory.write m a v) a = v := by
  unfold Memory.write
  split_ifs with h
  · simp [Memory.read, Store.get_del_self, h]
  · simp [Memory.read, Store.get_put_self]

theorem Memory.read_write_ne (m : Memory) {a b : Nat} (v : Int) (h : b ≠ a) :
    Memory.read (Memory.write m a v) b = Memory.read m b := by
  unfold Memory.write
  split_ifs
  · simp [Memory.read, Store.get_del_ne _ h]
  · simp [Memory.read, Store.get_put_ne _ _ h]

/-- Words written from `a` up change nothing outside their addresses. -/
theorem Memory.read_writeList_outside (vs : List Int) (m : Memory) {a b : Nat} (h : b < a ∨ a + vs.length ≤ b) :
    Memory.read (Memory.writeList m a vs) b = Memory.read m b := by
  induction vs generalizing m a with
  | nil => rfl
  | cons v vs ih =>
    simp only [List.length_cons] at h
    rw [Memory.writeList, ih _ (by omega), Memory.read_write_ne _ _ (by omega)]

/-- The word at `a + i` after words were written from `a` up. -/
theorem Memory.read_writeList (vs : List Int) (m : Memory) (a i : Nat) {v : Int} (h : vs[i]? = some v) :
    Memory.read (Memory.writeList m a vs) (a + i) = v := by
  induction vs generalizing m a i with
  | nil => simp at h
  | cons w vs ih =>
    cases i with
    | zero =>
      simp only [List.getElem?_cons_zero, Option.some.injEq] at h
      subst h
      rw [Memory.writeList, Nat.add_zero a, Memory.read_writeList_outside _ _ (Or.inl (Nat.lt_add_one a)),
        Memory.read_write_self]
    | succ i =>
      rw [List.getElem?_cons_succ] at h
      rw [Memory.writeList, show a + (i + 1) = (a + 1) + i by omega]
      exact ih _ _ _ h

@[simp] theorem Memory.length_readList (m : Memory) (a n : Nat) : (Memory.readList m a n).length = n := by
  induction n generalizing a with
  | zero => rfl
  | succ n ih => simp [Memory.readList, ih]

/-! ### The canonical form is kept -/

theorem Store.mem_put {α : Type} {m : Store α} {k : Nat} {v : α} {e : Nat × α} (h : e ∈ Store.put m k v) :
    e = (k, v) ∨ e ∈ m := by
  induction m with
  | nil => simpa [Store.put] using h
  | cons x t ih =>
    simp only [Store.put] at h
    split_ifs at h
    · simpa using h
    · rcases List.mem_cons.mp h with h | h
      · exact Or.inl h
      · exact Or.inr (List.mem_cons_of_mem _ h)
    · rcases List.mem_cons.mp h with h | h
      · exact Or.inr (h ▸ List.mem_cons_self)
      · exact (ih h).imp id (List.mem_cons_of_mem _)

theorem Store.mem_del {α : Type} {m : Store α} {k : Nat} {e : Nat × α} (h : e ∈ Store.del m k) : e ∈ m := by
  induction m with
  | nil => simp [Store.del] at h
  | cons x t ih =>
    simp only [Store.del] at h
    split_ifs at h
    · exact List.mem_cons_of_mem _ (ih h)
    · rcases List.mem_cons.mp h with h | h
      · exact h ▸ List.mem_cons_self
      · exact List.mem_cons_of_mem _ (ih h)

theorem Store.wf_put {α : Type} {m : Store α} (k : Nat) (v : α) (h : Store.wf m) : Store.wf (Store.put m k v) := by
  induction m with
  | nil => simp [Store.put, Store.wf]
  | cons x t ih =>
    rw [Store.wf, List.pairwise_cons] at h
    simp only [Store.put]
    split_ifs with h1 h2
    · refine List.pairwise_cons.mpr ⟨fun e he => ?_, List.pairwise_cons.mpr h⟩
      rcases List.mem_cons.mp he with rfl | he
      · exact h1
      · exact Nat.lt_trans h1 (h.1 e he)
    · exact List.pairwise_cons.mpr ⟨fun e he => h2 ▸ h.1 e he, h.2⟩
    · refine List.pairwise_cons.mpr ⟨fun e he => ?_, ih h.2⟩
      rcases Store.mem_put he with rfl | he
      · exact Nat.lt_of_le_of_ne (Nat.le_of_not_lt h1) (fun q => h2 q.symm)
      · exact h.1 e he

theorem Store.wf_del {α : Type} {m : Store α} (k : Nat) (h : Store.wf m) : Store.wf (Store.del m k) := by
  induction m with
  | nil => exact h
  | cons x t ih =>
    rw [Store.wf, List.pairwise_cons] at h
    simp only [Store.del]
    split_ifs
    · exact ih h.2
    · exact List.pairwise_cons.mpr ⟨fun e he => h.1 e (Store.mem_del he), ih h.2⟩

/-- A store with some records left out keeps the canonical form. -/
theorem Store.wf_filter {α : Type} {m : Store α} (f : Nat × α → Bool) (h : Store.wf m) : Store.wf (m.filter f) :=
  h.filter f

/-- What a filter on the records leaves of record `k`, the form being canonical. -/
theorem Store.get_filter {α : Type} (f : α → Bool) {m : Store α} (h : Store.wf m) (k : Nat) :
    Store.get (m.filter (fun e => f e.2)) k = (Store.get m k).filter f := by
  induction m with
  | nil => rfl
  | cons a as ih =>
    obtain ⟨lt, hw⟩ := List.pairwise_cons.1 h
    rw [List.filter_cons]
    by_cases hk : k = a.1
    · have gone : Store.get (as.filter (fun e => f e.2)) k = none := by
        by_contra hg
        obtain ⟨v, hv⟩ := Option.ne_none_iff_exists'.1 hg
        have := lt _ (List.mem_of_mem_filter (Store.mem_of_get hv))
        omega
      cases hf : f a.2 <;> simp [Store.get, hk ▸ gone, hk, hf, Option.filter]
    · cases hf : f a.2 <;> simp [Store.get, hk, ih hw]

theorem Memory.wf_write {m : Memory} (a : Nat) (v : Int) (h : Memory.wf m) : Memory.wf (Memory.write m a v) := by
  unfold Memory.write
  split_ifs with hv
  · exact ⟨Store.wf_del a h.1, fun e he => h.2 e (Store.mem_del he)⟩
  · refine ⟨Store.wf_put a v h.1, fun e he => ?_⟩
    rcases Store.mem_put he with rfl | he
    · exact hv
    · exact h.2 e he

theorem Memory.wf_writeList (vs : List Int) {m : Memory} (a : Nat) (h : Memory.wf m) :
    Memory.wf (Memory.writeList m a vs) := by
  induction vs generalizing m a with
  | nil => exact h
  | cons v vs ih => exact ih (a + 1) (Memory.wf_write a v h)

theorem Memory.wf_reset : Memory.wf State.reset.mem ∧ Memory.wf State.reset.wave := by decide

/-- Two memories of the canonical form that read alike everywhere are equal data. -/
theorem Memory.eq_of_read {m n : Memory} (hm : Memory.wf m) (hn : Memory.wf n)
    (h : ∀ a : Nat, Memory.read m a = Memory.read n a) : m = n := by
  have mem_iff : ∀ {x : Memory}, Memory.wf x → ∀ e : Nat × Int, e ∈ x ↔ Memory.read x e.1 = e.2 ∧ e.2 ≠ 0 := by
    intro x hx e
    constructor
    · intro he
      exact ⟨by simp [Memory.read, Store.get_of_mem hx.1 (show (e.1, e.2) ∈ x from he)], hx.2 e he⟩
    · rintro ⟨hr, h0⟩
      cases hg : Store.get x e.1 with
      | none => simp only [Memory.read, hg, Option.getD_none] at hr; exact absurd hr.symm h0
      | some v =>
        simp only [Memory.read, hg, Option.getD_some] at hr
        have := Store.mem_of_get hg
        rwa [hr] at this
  have hset : ∀ e : Nat × Int, e ∈ m ↔ e ∈ n := fun e => by rw [mem_iff hm, mem_iff hn, h]
  have nodup : ∀ {x : Memory}, Memory.wf x → x.Nodup := fun hx =>
    hx.1.imp (fun hlt he => absurd (he ▸ hlt) (Nat.lt_irrefl _))
  exact ((List.perm_ext_iff_of_nodup (nodup hm) (nodup hn)).mpr hset).eq_of_pairwise
    (fun a b _ _ h1 h2 => absurd h1 (Nat.lt_asymm h2)) hm.1 hn.1

end Sys2Proof.Machine
end

