-- ==== Sys2Proof/Laws/Parts.lean ====
section
/-! SUPPORT. What the small operations under a chunk write, MASTER_CLEAR, a group close, an attribution and a ramp step can
do, each said once. -/

namespace Sys2Proof.Machine

/-! ### Coverages (R44, R46) -/

@[simp] theorem mem_coverChunk (cov : List Nat) (c d : Nat) : d ∈ coverChunk cov c ↔ d ∈ cov ∨ d = c := by
  induction cov with
  | nil => simp [coverChunk]
  | cons a as ih =>
    unfold coverChunk
    split
    · simp only [List.mem_cons]; tauto
    · split
      · rename_i h; subst h; simp only [List.mem_cons]; tauto
      · simp only [List.mem_cons, ih]; tauto

/-- A chunk joins a set of chunk numbers. -/
theorem coverageSound_coverChunk {cov : List Nat} {c : Nat} (h : coverageSound cov) (hc : c < 32) :
    coverageSound (coverChunk cov c) := by
  refine ⟨?_, fun d hd => ?_⟩
  · obtain ⟨hp, -⟩ := h
    induction cov with
    | nil => exact List.pairwise_singleton _ _
    | cons a as ih =>
      rw [List.pairwise_cons] at hp
      unfold coverChunk
      split
      · rename_i hca
        exact List.pairwise_cons.2 ⟨fun d hd => by
          rcases List.mem_cons.1 hd with rfl | hd
          · exact hca
          · exact hca.trans (hp.1 d hd), List.pairwise_cons.2 hp⟩
      · split
        · exact List.pairwise_cons.2 hp
        · refine List.pairwise_cons.2 ⟨fun d hd => ?_, ih hp.2⟩
          rcases (mem_coverChunk as c d).1 hd with hd | rfl
          · exact hp.1 d hd
          · omega
  · rcases (mem_coverChunk cov c d).1 hd with hd | rfl
    · exact h.2 d hd
    · exact hc

/-- A chunk already covered stays covered once (R46). -/
theorem length_coverChunk {cov : List Nat} {c : Nat} (h : cov.Pairwise (· < ·)) :
    (coverChunk cov c).length = if c ∈ cov then cov.length else cov.length + 1 := by
  induction cov with
  | nil => simp [coverChunk]
  | cons a as ih =>
    rw [List.pairwise_cons] at h
    unfold coverChunk
    split
    · rename_i hca
      have : c ∉ a :: as := by
        intro hm
        rcases List.mem_cons.1 hm with rfl | hm
        · omega
        · have := h.1 c hm; omega
      simp [this]
    · split
      · rename_i hca; subst hca; simp
      · rename_i hca hne
        simp only [List.length_cons, ih h.2, List.mem_cons, hne, false_or]
        split <;> rfl

/-- A set of chunk numbers with every chunk in it lists the 32 numbers (R47). -/
theorem coverageSound_full {cov : List Nat} (h : coverageSound cov) (full : ∀ d : Nat, d < 32 → d ∈ cov) :
    cov = List.range 32 := by
  refine List.Perm.eq_of_pairwise (fun a b _ _ h1 h2 => by omega) h.1 List.pairwise_lt_range ?_
  refine (List.perm_ext_iff_of_nodup (h.1.imp fun hlt => Nat.ne_of_lt hlt) List.nodup_range).2 fun d => ?_
  exact ⟨fun hd => List.mem_range.2 (h.2 d hd), fun hd => full d (List.mem_range.1 hd)⟩

/-! ### MASTER_CLEAR's parts (R58, R139) -/

/-- The LOADING tables become EMPTY and every other table stands. -/
theorem State.emptyLoading_tableState (s : State) (h : Store.wf s.tables) (t : Nat) :
    s.emptyLoading.tableState t = if (s.tableState t).isLoading then .empty else s.tableState t := by
  unfold State.tableState State.emptyLoading
  by_cases h0 : t = 0
  · simp [h0, TableState.isLoading]
  · simp only [h0, if_false, Store.get_filter (fun x : TableState => !x.isLoading) h]
    rcases Store.get s.tables t with _ | (_ | _ | _) <;> rfl

/-- A run ended STOPPED: its completion record, its count, the engine IDLE, CAPTURE_ENDED to the originator's port. -/
theorem State.stopRun_eq (s : State) (d : Nat) : s.stopRun d = { s with
    comps := Store.put s.comps d ⟨s.engine.writeIndex, .stopped, s.engine.run⟩
    engine := { s.engine with isActive := false, current := none, ends := min (s.engine.ends + 1) 65535 }
    ports := (s.stopRun d).ports } := by
  unfold State.stopRun State.endRun
  dsimp only
  rw [State.alertOrigin_frame]
  simp [State.closePass, State.setEngine, bump_eq_min]

/-- MASTER_CLEAR's stop of the run in progress, and nothing without one. -/
theorem State.stopAny_active (s : State) {d : Nat} (h : s.engine.isActive = true) (hd : s.engine.current = some d) :
    s.stopAny = s.stopRun d := by
  unfold State.stopAny
  rw [h, hd]

theorem State.stopAny_idle (s : State) (h : s.engine.isActive = false) : s.stopAny = s := by
  unfold State.stopAny
  rw [h]

/-! ### Group closes (R94) -/

@[simp] theorem closeGroups_zero (stack : List GroupEntry) (release : Bool) :
    closeGroups 0 stack release = (none, stack, release) := by cases stack <;> rfl

/-! ### Attribution (R112, R113) -/

theorem Sense.attribute_closed (x : Sense) (d : Option Delivered) (h : x.isOpen = false) : x.attribute d = x := by
  simp [Sense.attribute, h]

/-- An attribution keeps all that only a boundary changes. -/
theorem Sense.attribute_frame (x : Sense) (d : Option Delivered) :
    (x.attribute d).isOpen = x.isOpen ∧ (x.attribute d).polarity = x.polarity ∧ (x.attribute d).nextSeq = x.nextSeq
    ∧ (x.attribute d).record = x.record := by
  unfold Sense.attribute
  split
  · rcases d with _ | (_ | _) <;> exact ⟨rfl, rfl, rfl, rfl⟩
  · exact ⟨rfl, rfl, rfl, rfl⟩

/-! ### Ramp steps (R13) -/

theorem stepRamp_last (r : Ramp) (v : Int) (h : r.remaining = 1) : stepRamp r v = (r.target, none) := by
  simp [stepRamp, h]

theorem stepRamp_inner (r : Ramp) (v : Int) (h : 1 < r.remaining) :
    stepRamp r v = (v + r.step, some { r with remaining := r.remaining - 1 }) := by
  simp [stepRamp, Nat.not_le.2 h]

end Sys2Proof.Machine
end

