-- ==== Sys2Proof/Laws/Tick.lean ====
section
/-! SUPPORT. What no part of a sample event changes: the library, the step store, the directory, the descriptors, the
hold keys and the queue (`State.tickKept`). One lemma per part, and `tick_kept` for the whole. -/

namespace Sys2Proof.Machine

theorem State.tickKept_refl (s : State) : s.tickKept s := ⟨rfl, rfl, rfl, rfl, rfl, rfl, rfl, rfl, rfl⟩

theorem State.tickKept_trans {s t u : State} (h : s.tickKept t) (k : t.tickKept u) : s.tickKept u := by
  obtain ⟨h1, h2, h3, h4, h5, h6, h7, h8, h9⟩ := h
  obtain ⟨k1, k2, k3, k4, k5, k6, k7, k8, k9⟩ := k
  exact ⟨k1.trans h1, k2.trans h2, k3.trans h3, k4.trans h4, k5.trans h5, k6.trans h6, k7.trans h7, k8.trans h8,
    k9.trans h9⟩

/-- A record update of fields that a sample event may change keeps the others. -/
theorem State.tickKept_of_frame {s t : State} (h : t = { s with
    chans := t.chans, lanes := t.lanes, marker1 := t.marker1, marker2 := t.marker2, sense := t.sense, comps := t.comps,
    engine := t.engine, mem := t.mem, trip := t.trip, links := t.links, ports := t.ports }) : s.tickKept t := by
  rw [h]
  exact ⟨rfl, rfl, rfl, rfl, rfl, rfl, rfl, rfl, rfl⟩

/-! ### Shared operations -/

theorem kept_alertOrigin (s : State) (o : Option Port) (a : Alert) : s.tickKept (s.alertOrigin o a) := by
  rw [State.alertOrigin_frame]; exact s.tickKept_refl

theorem kept_revert (s : State) (x : Lane) (c : Channel) : s.tickKept (s.revert x c) := by
  rw [State.revert_frame]; exact s.tickKept_refl

theorem kept_goIdle (s : State) (l : LaneId) : s.tickKept (s.goIdle l) := by
  rw [State.goIdle_frame]; exact s.tickKept_refl

theorem kept_holdLane (s : State) (l : LaneId) (x : Lane) (r : HoldReason) (f : HeldFrom) :
    s.tickKept (s.holdLane l x r f) := State.tickKept_trans s.tickKept_refl (kept_alertOrigin _ _ _)

theorem kept_takeSource (s : State) (c : Cause) (on : Bool) : s.tickKept (s.takeSource c on) := by
  rw [State.takeSource_frame]; exact s.tickKept_refl

theorem kept_takeLinks (s : State) (o : LinkOrder) : s.tickKept (s.takeLinks o) := by
  have one : ∀ (t : State) (k : Channel), t.tickKept (t.takeLink k) := fun t k =>
    State.tickKept_trans (kept_takeSource _ _ _) (kept_takeSource _ _ _)
  exact State.tickKept_trans (State.tickKept_trans (one _ _) (one _ _)) (one _ _)

/-! ### The lanes' work -/

theorem kept_applyParts (t : Tick) (step : StepRecord) (x : Lane) (c : Channel) :
    t.st.tickKept (t.applyParts step x c).st := t.st.tickKept_refl

theorem kept_carryJump (t : Tick) (j : Phase) (c : Channel) : t.st.tickKept (t.carryJump j c).st := by
  unfold Tick.carryJump
  dsimp only
  split <;> exact t.st.tickKept_refl

theorem kept_jump (t : Tick) (j : Phase) (c : Channel) : t.st.tickKept (t.jump j c).st := by
  cases c
  · unfold Tick.jump
    dsimp only
    refine State.tickKept_trans ?_ (kept_carryJump _ _ _)
    exact State.tickKept_trans (State.tickKept_of_frame rfl) (kept_carryJump _ _ _)
  · exact t.st.tickKept_refl
  · exact t.st.tickKept_refl

theorem kept_applyJump (t : Tick) (step : StepRecord) (x : Lane) : t.st.tickKept (t.applyJump step x).st := by
  have one : ∀ (u : Tick) (b : Bool) (j : Phase) (c : Channel), u.st.tickKept (if b then u.jump j c else u).st := by
    intro u b j c
    cases b
    · exact u.st.tickKept_refl
    · exact kept_jump u j c
  unfold Tick.applyJump
  split
  · exact t.st.tickKept_refl
  · exact State.tickKept_trans (State.tickKept_trans (one _ _ _ _) (one _ _ _ _)) (one _ _ _ _)

theorem kept_applyMarkers (t : Tick) (step : StepRecord) : t.st.tickKept (t.applyMarkers step).st := by
  unfold Tick.applyMarkers
  split <;> exact t.st.tickKept_refl

theorem kept_applyCapture (t : Tick) (step : StepRecord) (l : LaneId) (x : Lane) :
    t.st.tickKept (t.applyCapture step l x).st := by
  unfold Tick.applyCapture
  split <;> exact t.st.tickKept_refl

theorem kept_applyStep (t : Tick) (l : LaneId) (x : Lane) (step : StepRecord) :
    t.st.tickKept (t.applyStep l x step).st := by
  have h := State.tickKept_trans (State.tickKept_trans (kept_applyParts t step x .L1) (kept_applyParts _ step x .L2))
    (kept_applyParts _ step x .L3)
  exact State.tickKept_trans (State.tickKept_trans (State.tickKept_trans h (kept_applyJump _ step x))
    (kept_applyMarkers _ step)) (kept_applyCapture _ step l x)

theorem kept_align (t : Tick) (l : LaneId) (x : Lane) (step : StepRecord) : t.st.tickKept (t.align l x step).st := by
  unfold Tick.align
  split
  · exact kept_applyStep t l x step
  · exact t.st.tickKept_refl

theorem kept_enter (t : Tick) (l : LaneId) (x : Lane) (pos : Nat) (push : Bool) :
    t.st.tickKept (t.enter l x pos push).st := by
  unfold Tick.enter
  split
  · exact t.st.tickKept_refl
  · dsimp only
    split
    · exact kept_holdLane _ _ _ _ _
    · exact kept_align _ _ _ _

theorem kept_complete (t : Tick) (l : LaneId) (x : Lane) (q : ExitPolicy) : t.st.tickKept (t.complete l x q).st := by
  cases q
  · exact State.tickKept_trans t.st.tickKept_refl (kept_goIdle _ _)
  · exact t.st.tickKept_refl

theorem kept_finish (t : Tick) (l : LaneId) (x : Lane) (step : StepRecord) : t.st.tickKept (t.finish l x step).st := by
  unfold Tick.finish
  split
  · dsimp only
    split
    · exact kept_enter _ _ _ _ _
    · split
      · exact kept_enter _ _ _ _ _
      · exact kept_complete _ _ _ _
  · exact t.st.tickKept_refl

theorem kept_dwellWork (t : Tick) (l : LaneId) (x : Lane) (step : StepRecord) :
    t.st.tickKept (t.dwellWork l x step).st := by
  have done : t.st.tickKept (t.dwellDone l x step).st := by
    unfold Tick.dwellDone
    dsimp only
    split
    · exact t.st.tickKept_refl
    · exact kept_finish (t.happens (.dwellEnd l)) _ _ _
  unfold Tick.dwellWork
  split
  · exact t.st.tickKept_refl
  · dsimp only
    split_ifs
    · exact t.st.tickKept_refl
    · exact done
    · exact t.st.tickKept_refl

theorem kept_timeoutWork (t : Tick) (l : LaneId) (x : Lane) (step : StepRecord) (w : WaitPart) :
    t.st.tickKept (t.timeoutWork l x step w).st := by
  have out : ∀ y : Lane, t.st.tickKept (t.timedOut l y step w).st := by
    intro y
    unfold Tick.timedOut
    dsimp only
    split
    · exact kept_finish (t.happens (.waitTimeout l)) _ _ _
    · exact t.st.tickKept_refl
  unfold Tick.timeoutWork
  dsimp only
  split_ifs
  · exact out _
  · exact t.st.tickKept_refl
  · exact t.st.tickKept_refl

theorem kept_waitWork (t : Tick) (l : LaneId) (x : Lane) (step : StepRecord) :
    t.st.tickKept (t.waitWork l x step).st := by
  unfold Tick.waitWork
  split
  · exact t.st.tickKept_refl
  · dsimp only
    split_ifs
    · exact kept_finish (t.happens (.waitMet l)) _ _ _
    · exact kept_timeoutWork _ _ _ _ _

theorem kept_closingWork (t : Tick) (l : LaneId) (x : Lane) : t.st.tickKept (t.closingWork l x).st := by
  have one : ∀ (s : State) (b : Bool) (c : Channel), s.tickKept (if b then s.revert x c else s) := by
    intro s b c
    cases b
    · exact s.tickKept_refl
    · exact kept_revert s x c
  have three := State.tickKept_trans (State.tickKept_trans (one t.st (t.revertsNow x .L1) .L1)
    (one _ (t.revertsNow x .L2) .L2)) (one _ (t.revertsNow x .L3) .L3)
  have fin : ∀ (s : State) (y : Lane) (b : Prop) [Decidable b], t.st.tickKept s →
      t.st.tickKept (if b then (s.setLane l y).goIdle l else s.setLane l y) := by
    intro s y b _ h
    split
    · exact State.tickKept_trans (t := s.setLane l y) h (kept_goIdle _ _)
    · exact h
  exact fin _ _ _ three

theorem kept_laneWork (t : Tick) (l : LaneId) : t.st.tickKept (t.laneWork l).st := by
  unfold Tick.laneWork
  dsimp only
  split
  · exact kept_align _ _ _ _
  · exact kept_dwellWork _ _ _ _
  · exact kept_waitWork _ _ _ _
  · exact kept_closingWork _ _ _
  · exact t.st.tickKept_refl

/-! ### The channels' work -/

theorem kept_opening (t : Tick) (c : Channel) : t.st.tickKept (t.opening c).st := by
  have adv : ∀ u : Tick, u.st.tickKept (u.advance c).st := by
    intro u
    unfold Tick.advance
    dsimp only
    split <;> exact u.st.tickKept_refl
  have sense : ∀ u : Tick, u.st.tickKept (u.senseWork c).st := by
    intro u
    unfold Tick.senseWork
    split
    · exact u.st.tickKept_refl
    · dsimp only
      split <;> exact u.st.tickKept_refl
  have promote : ∀ u : Tick, u.st.tickKept (u.promote c).st := by
    intro u
    unfold Tick.promote
    dsimp only
    split
    · split <;> exact u.st.tickKept_refl
    · exact u.st.tickKept_refl
  have unpark : ∀ u : Tick, u.st.tickKept (u.unpark c).st := by
    intro u
    unfold Tick.unpark
    split <;> exact u.st.tickKept_refl
  exact State.tickKept_trans (State.tickKept_trans (State.tickKept_trans (adv t) (sense _)) (promote _)) (unpark _)

theorem kept_ending (t : Tick) (c : Channel) : t.st.tickKept (t.ending c).st := by
  have ramps : ∀ u : Tick, u.st.tickKept (u.ramps c).st := by
    intro u
    unfold Tick.ramps
    dsimp only
    split <;> (split <;> exact State.tickKept_of_frame rfl)
  have emit : ∀ u : Tick, u.st.tickKept (u.emit c).st := by
    intro u
    unfold Tick.emit
    dsimp only
    split
    · exact u.st.tickKept_refl
    · show u.st.tickKept (u.st.countClip c)
      unfold State.countClip
      dsimp only
      split <;> exact u.st.tickKept_refl
  exact State.tickKept_trans (ramps t) (emit _)

theorem kept_forChannels (t : Tick) (g : ChannelSet) (work : Tick → Channel → Tick)
    (h : ∀ (u : Tick) (c : Channel), u.st.tickKept (work u c).st) : t.st.tickKept (t.forChannels g work).st := by
  have one : ∀ (u : Tick) (c : Channel), u.st.tickKept (u.when g work c).st := by
    intro u c
    unfold Tick.when
    split
    · exact h u c
    · exact u.st.tickKept_refl
  exact State.tickKept_trans (State.tickKept_trans (one _ _) (one _ _)) (one _ _)

theorem kept_work (t : Tick) (g : ChannelSet) : t.st.tickKept (t.work g).st := by
  have lane : ∀ (u : Tick) (l : LaneId), u.st.tickKept (u.laneIn g l).st := by
    intro u l
    unfold Tick.laneIn
    split
    · exact kept_laneWork u l
    · exact u.st.tickKept_refl
  exact State.tickKept_trans (State.tickKept_trans (State.tickKept_trans (State.tickKept_trans
    (kept_forChannels t g _ kept_opening) (lane _ .lane0)) (lane _ .lane1)) (lane _ .lane2))
    (kept_forChannels _ g _ kept_ending)

/-! ### The capture engine's work -/

theorem kept_endPass (s : State) (d : Nat) (x : Descriptor) (r : PassReason) : s.tickKept (s.endPass d x r) := by
  have run : ∀ u : State, u.tickKept u.endRun := fun u =>
    State.tickKept_trans u.tickKept_refl (kept_alertOrigin _ _ _)
  refine State.tickKept_trans (t := s.closePass d r) s.tickKept_refl ?_
  unfold State.endPass State.followNext
  split
  · split
    · exact State.tickKept_refl _
    · exact run _
  · exact run _

theorem kept_takeOffer (s : State) (d : Nat) (x : Descriptor) (o : Offer) : s.tickKept (s.takeOffer d x o).st := by
  have fill : ∀ u : State, u.tickKept (u.fillCheck d x).st := by
    intro u
    unfold State.fillCheck
    split
    · exact kept_endPass _ _ _ _
    · exact u.tickKept_refl
  unfold State.takeOffer
  split
  · exact s.tickKept_refl
  · unfold State.passOffer
    split
    · exact State.tickKept_trans (State.tickKept_of_frame rfl) (fill _)
    · split
      · exact State.tickKept_trans (State.tickKept_of_frame rfl) (kept_endPass _ _ _ _)
      · split
        · exact State.tickKept_trans (State.tickKept_of_frame rfl) (fill _)
        · exact s.tickKept_refl

theorem kept_captureWork (t : Tick) (b : Bool) (n : Nat) : t.st.tickKept (t.captureWork b n).st := by
  have lane : ∀ (s : State) (l : LaneId) (p : Port) (d : Nat), s.tickKept (s.laneStart l p d) := by
    intro s l p d
    unfold State.laneStart
    split <;> exact State.tickKept_of_frame rfl
  have all : ∀ (l : List (LaneId × Port × Nat)) (s : State),
      s.tickKept (l.foldl (fun s e => s.laneStart e.1 e.2.1 e.2.2) s) := by
    intro l
    induction l with
    | nil => exact State.tickKept_refl
    | cons e l ih => exact fun s => State.tickKept_trans (lane s e.1 e.2.1 e.2.2) (ih _)
  have offer : ∀ u : Tick, u.st.tickKept (u.offerWork b).st := by
    intro u
    unfold Tick.offerWork
    split
    · split
      · split
        · dsimp only
          split <;> (split <;> exact kept_takeOffer _ _ _ _)
        · exact u.st.tickKept_refl
      · exact u.st.tickKept_refl
    · exact u.st.tickKept_refl
  exact State.tickKept_trans (State.tickKept_trans (all _ _) (offer _)) (all _ _)

/-! ### The whole sample event -/

theorem kept_verdicts (s : State) : s.tickKept (Tick.verdicts s).st := by
  have one : ∀ (u : Tick) (k : Channel), u.st.tickKept (u.takeVerdict k).st := by
    intro u k
    unfold Tick.takeVerdict
    dsimp only
    split_ifs <;> exact State.tickKept_of_frame rfl
  exact State.tickKept_trans (State.tickKept_trans (one (Tick.begin s) .L1) (one _ .L2)) (one _ .L3)

theorem kept_channelWork (t : Tick) (o : TickOrder) (g : ChannelSet) : t.st.tickKept (t.channelWork o g).st :=
  State.tickKept_trans (State.tickKept_trans (kept_work t g) (kept_takeLinks _ _)) (kept_work _ _)

theorem kept_frames (t : Tick) (o : TickOrder) (f : Channel → Bool) : t.st.tickKept (t.frames o f).st :=
  t.st.tickKept_refl

theorem kept_endPulse (t : Tick) (m : MarkerLine) (b : Bool) : t.st.tickKept (t.endPulse m b).st := by
  unfold Tick.endPulse
  split
  · cases m <;> exact State.tickKept_of_frame rfl
  · exact t.st.tickKept_refl

/-- What no sample event changes. -/
theorem tick_kept (o : TickOrder) (s : State) : s.tickKept (tick o s).st := by
  unfold tick
  dsimp only
  exact State.tickKept_trans (State.tickKept_trans (State.tickKept_trans (State.tickKept_trans
    (State.tickKept_trans (kept_verdicts s) (kept_channelWork _ _ _)) (kept_frames _ _ _)) (kept_endPulse _ _ _))
    (kept_endPulse _ _ _)) (kept_captureWork _ _ _)

/-- What no row of the table that stands for a part of a sample event changes. -/
theorem tickWhen_kept (e : TickEvent) (o : TickOrder) (s : State) : s.tickKept (tickWhen e o s) := by
  unfold tickWhen
  split
  · exact tick_kept o s
  · exact s.tickKept_refl

end Sys2Proof.Machine
end

