-- ==== Sys2Proof/Tests/Slice0.lean ====
section
/-! SUPPORT. Tests by evaluation: an ill-formed term for each check of well-formedness, worked figures of the spec, and
for every statement with hypotheses concrete states and operands that meet them. -/

namespace Sys2Proof.Tests

open Sys2Proof.Machine

-- One kernel evaluation at a time: many at once ask for more threads than the memory limit lets Lean start.
set_option Elab.async false

/-! ### Small states -/

/-- The state after a command. -/
def after (i : Instr) (s : State) : State :=
  match exec i s with
  | .next t => t
  | .fault _ => s
  | .refused _ => s

/-- The order of a sample event in which nothing meets. -/
def order : TickOrder := ⟨.o123, PerChannel.all false, PerChannel.all false, PerChannel.all false, 0⟩

/-- NORMAL, every output DRIVING, otherwise as after reset. -/
def driving : State :=
  { State.reset with trip := { TripUnit.reset false with state := .normal, causes := CauseSet.empty
                                                         outputs := PerChannel.all .driving } }

/-- SET_CHANNEL's fields at the ends of their ranges. -/
def rawParams : RawParams := ⟨5000, 20000, 15, 7, -3276, 2000⟩

/-- A step with no optional part, 1 SAMPLES. -/
def rawStep : RawStep :=
  { mask := 0, count := 1, unit := 0, hasSync := 0, sync := 0, hasHold := 0, holdKey := 0, hasLevel := 0, level := 0,
    levelRamp := 0, hasFreq := 0, freq := 0, freqRamp := 0, hasJump := 0, jump := 0, hasShape := 0, table := 0,
    overlay := 0, hasMarkers := 0, marker1 := 0, marker2 := 0, hasCapture := 0, descriptor := 0, hasWait := 0,
    waitChannel := 0, quantity := 0, relation := 0, threshold := 0, consecutive := 0, timeout := 0, onTimeout := 0,
    hasOpen := 0, openCount := 0, hasClose := 0, closeCount := 0 }

/-- Every byte of a step record at its greatest. -/
def fullStep : RawStep :=
  { mask := 255, count := 16777215, unit := 255, hasSync := 255, sync := 65535, hasHold := 255, holdKey := 255,
    hasLevel := 255, level := 65535, levelRamp := 65535, hasFreq := 255, freq := 65535, freqRamp := 65535,
    hasJump := 255, jump := -32768, hasShape := 255, table := 255, overlay := 255, hasMarkers := 255, marker1 := 255,
    marker2 := 255, hasCapture := 255, descriptor := 255, hasWait := 255, waitChannel := 255, quantity := 255,
    relation := 255, threshold := 65535, consecutive := 255, timeout := 65535, onTimeout := 255, hasOpen := 255,
    openCount := 65535, hasClose := 255, closeCount := 255 }

/-- Every part of a step record present, each named item the last of its set and each numeric field past its range. -/
def topStep : RawStep :=
  { mask := 7, count := 65536, unit := 1, hasSync := 1, sync := 3600, hasHold := 1, holdKey := 2,
    hasLevel := 1, level := 2001, levelRamp := 65535, hasFreq := 1, freq := 44001, freqRamp := 65535,
    hasJump := 1, jump := -1801, hasShape := 1, table := 15, overlay := 7, hasMarkers := 1, marker1 := 3,
    marker2 := 3, hasCapture := 1, descriptor := 15, hasWait := 1, waitChannel := 3, quantity := 1,
    relation := 1, threshold := 32768, consecutive := 0, timeout := 65535, onTimeout := 1, hasOpen := 1,
    openCount := 65535, hasClose := 1, closeCount := 4 }

/-- A descriptor as sent: SETPOINT of L1, base 0, one word. -/
def rawDesc : RawDescriptor := ⟨0, 1, 0, 1, 255, 1, 0, 0, 0, 0, 0⟩

/-- Every part of a descriptor present, each named item the last of its set and each numeric field past its range. -/
def topDesc : RawDescriptor := ⟨4, 3, 65535, 65535, 15, 0, 1, 32768, 1, 1, 65535⟩

/-- A defined step: 1 SAMPLES and nothing else. -/
def plain : StepRecord :=
  { mask := PerChannel.all false, sync := none, hold := none, level := none, freq := none, jump := none, shape := none,
    markers := none, capture := none, duration := ⟨1, .samples⟩, wait := none, groupOpen := none, groupClose := none }

/-- A wait on L1's voltage above 100, one measurement, one wrap of timeout. -/
def waitPart : WaitPart := ⟨.L1, .V, .above, 100, 1, 1, .abort⟩

/-- A lane over L1 at the last sample of its only step. -/
def lastDwell : Lane :=
  { Lane.reset with
    state := .dwell, program := some 0, origin := some .A, channels := ⟨true, false, false⟩, position := some 0,
    dwell := some ⟨1, .samples⟩, snapshots := ⟨some ParamSet.reset, none, none⟩ }

/-- The same lane waiting. -/
def waitingLane : Lane := { lastDwell with state := .waiting, dwell := none, timeout := 1 }

/-- NORMAL, with program 0 over step `r` and lane 0 as given. -/
def withLane (x : Lane) (r : StepRecord) (q : ExitPolicy) : State :=
  { driving with lanes := ⟨x, Lane.reset, Lane.reset⟩, steps := [(0, r)], programs := [(0, ⟨0, 1, q⟩)] }

/-- NORMAL, with lane 0 at the last sample of program 0. -/
def running : State := withLane lastDwell plain .keep

/-- A descriptor over one word of the capture memory. -/
def oneWord : Descriptor := ⟨.setpoint, .L1, 16383, 1, none, 1, none, none⟩

/-- PARKED, with a run of descriptor `x` in progress. -/
def capturing (x : Descriptor) : State :=
  { State.reset with descs := [(15, x)]
                     engine := { Engine.reset with isActive := true, current := some 15, originator := some (.port .A) } }

/-- The state after port A has received bytes. -/
def received (bytes : List Byte) : State :=
  bytes.foldl (fun s b => after (.spiByteCompleted .A b) s) (after (.spiSelect .A) State.reset)

/-- A state whose link LK1 has an outstanding frame 0, at the runs and health given. -/
def linkAt (s : State) (h : Health) (missing good : Nat) (a : Option Status) : State :=
  s.setLink .L1 { Link.reset with outstanding := some 0, health := h, missingRun := missing, goodRun := good, answer := a }

/-- A state whose link LK1 has frame 0 outstanding and not started yet. -/
def sending (s : State) : State := s.setLink .L1 { Link.reset with outstanding := some 0, waiting := true }

/-- A good answer of frame 0. -/
def answer0 : Status := ⟨0, 100, 10, false, false⟩

/-- A state in which L1's next advance wraps. -/
def atWrap (s : State) : State := s.setChan .L1 { s.chans.l1 with phase := 4294967295#32 }

/-- No entry is due when no link's verdict makes one of its sources active anew. -/
theorem noEntryDue_of_links {s : State} (h : ∀ k ∈ [Channel.L1, .L2, .L3],
    ((s.afterVerdict k).health = .lost → s.trip.active.loss.get k = true)
    ∧ ((s.afterVerdict k).fault = true → s.trip.active.fault.get k = true)) : s.noEntryDue :=
  Or.inr fun k => h k (by cases k <;> decide)

/-- Every lane but lane 0 is IDLE. -/
theorem othersIdle {s : State} (h1 : (s.lanes.get .lane1).state = .idle) (h2 : (s.lanes.get .lane2).state = .idle) :
    ∀ l : LaneId, l ≠ .lane0 → (s.lanes.get l).state = .idle := by
  intro l h
  cases l
  · exact absurd rfl h
  · exact h1
  · exact h2

/-- A lane with lane 0 alone running keeps the lanes' channel sets disjoint. -/
theorem lanesSound_withLane (x : Lane) (r : StepRecord) (q : ExitPolicy) (h : x.state ≠ .idle) :
    (withLane x r q).lanesSound := by
  refine ⟨fun l m c hl hm => ?_, fun l hl => ?_⟩
  · cases l <;> cases m <;> cases c <;>
      first | rfl | exact (Bool.false_ne_true hm).elim | exact (Bool.false_ne_true hl).elim
  · cases l
    · exact absurd hl h
    · rfl
    · rfl

/-! ### Well-formedness -/

theorem test_wf_bytes :
    [Instr.setAlertMask .A 256, .setChannel .A 256 rawParams, .getChannel .A 256 0, .getChannel .A 1 256,
     .linkChannelFollow .A 256 0, .linkChannelFollow .A 2 4294967296, .linkChannelUnlink .A 256, .beginTable .A 256,
     .commitTable .A 256, .discardTable .A 256, .readTableChunk .A 256 0, .readTableChunk .A 1 256,
     .getTableState .A 256, .readOverlaySet .A 256, .writeStep .A 256 rawStep, .readStep .A 256, .clearStep .A 256,
     .writeProgramDefine .A 256 0 1 0, .writeProgramDefine .A 0 256 1 0, .writeProgramDefine .A 0 0 65536 0,
     .writeProgramDefine .A 0 0 1 256, .writeProgramUndefine .A 256, .readProgram .A 256].map Instr.wf
      = List.replicate 23 false
    ∧ [Instr.start .A 256 1, .start .A 0 256, .hold .A 256, .resume .A 256, .release .A 256, .abort .A 256,
       .getLane .A 256, .setHoldKey .A 256, .clearHoldKey .A 256, .getMeasurement .A 256,
       .writeDescriptorDefine .A 256 rawDesc, .writeDescriptorUndefine .A 256, .readDescriptor .A 256,
       .startCapture .A 256, .readCapture .A 65536 1, .readCapture .A 0 256, .getLink .A 256 0,
       .getLink .A 1 256].map Instr.wf = List.replicate 18 false := by decide +kernel

theorem test_wf_lists :
    [Instr.writeTableChunk .A 256 0 (List.replicate 32 0), .writeTableChunk .A 1 256 (List.replicate 32 0),
     .writeTableChunk .A 1 0 (List.replicate 31 0), .writeTableChunk .A 1 0 (List.replicate 32 32768),
     .writeTableChunk .A 1 0 (List.replicate 32 (-32769)),
     .writeOverlaySet .A 256 0 (List.replicate 6 ⟨0, 0, 0⟩), .writeOverlaySet .A 1 256 (List.replicate 6 ⟨0, 0, 0⟩),
     .writeOverlaySet .A 1 0 (List.replicate 5 ⟨0, 0, 0⟩), .writeOverlaySet .A 1 0 (List.replicate 6 ⟨256, 0, 0⟩),
     .writeOverlaySet .A 1 0 (List.replicate 6 ⟨0, 65536, 0⟩),
     .writeOverlaySet .A 1 0 (List.replicate 6 ⟨0, 0, 65536⟩)].map Instr.wf = List.replicate 11 false := by
  decide +kernel

theorem test_wf_params :
    [{ rawParams with freq := 65536 }, { rawParams with amp := 65536 }, { rawParams with table := 256 },
     { rawParams with overlay := 256 }, { rawParams with dc := 32768 }, { rawParams with dc := -32769 },
     { rawParams with level := 65536 }].map RawParams.wf = List.replicate 7 false := by decide +kernel

theorem test_wf_step :
    [{ rawStep with mask := 256 }, { rawStep with count := 16777216 }, { rawStep with unit := 256 },
     { rawStep with hasSync := 256 }, { rawStep with sync := 65536 }, { rawStep with hasHold := 256 },
     { rawStep with holdKey := 256 }, { rawStep with hasLevel := 256 }, { rawStep with level := 65536 },
     { rawStep with levelRamp := 65536 }, { rawStep with hasFreq := 256 }, { rawStep with freq := 65536 },
     { rawStep with freqRamp := 65536 }, { rawStep with hasJump := 256 }, { rawStep with jump := 32768 },
     { rawStep with hasShape := 256 }, { rawStep with table := 256 }, { rawStep with overlay := 256 },
     { rawStep with hasMarkers := 256 }, { rawStep with marker1 := 256 }].map RawStep.wf = List.replicate 20 false
    ∧ [{ rawStep with marker2 := 256 }, { rawStep with hasCapture := 256 }, { rawStep with descriptor := 256 },
       { rawStep with hasWait := 256 }, { rawStep with waitChannel := 256 }, { rawStep with quantity := 256 },
       { rawStep with relation := 256 }, { rawStep with threshold := 65536 }, { rawStep with consecutive := 256 },
       { rawStep with timeout := 65536 }, { rawStep with onTimeout := 256 }, { rawStep with hasOpen := 256 },
       { rawStep with openCount := 65536 }, { rawStep with hasClose := 256 },
       { rawStep with closeCount := 256 }].map RawStep.wf = List.replicate 15 false := by decide +kernel

theorem test_wf_descriptor :
    [{ rawDesc with source := 256 }, { rawDesc with channel := 256 }, { rawDesc with base := 65536 },
     { rawDesc with count := 65536 }, { rawDesc with next := 256 }, { rawDesc with decimation := 65536 },
     { rawDesc with hasDeadband := 256 }, { rawDesc with deadband := 65536 }, { rawDesc with hasMonitor := 256 },
     { rawDesc with relation := 256 }, { rawDesc with threshold := 65536 }].map RawDescriptor.wf
      = List.replicate 11 false := by decide +kernel

theorem test_wf_accepts :
    [Instr.writeStep .A 255 fullStep, .writeDescriptorDefine .B 255 rawDesc, .setChannel .B 255 rawParams,
     .writeTableChunk .A 255 255 (List.replicate 32 (-32768)),
     .writeOverlaySet .A 255 255 (List.replicate 6 ⟨255, 65535, 65535⟩)].all Instr.wf = true := by decide +kernel

/-! ### Figures of the spec -/

/-- Chapter 1, the frequency words of 40, 50, 60 and 440 Hz; Chapter 2, the thresholds of 90 and 359.9 degrees. -/
theorem test_words : freqWord 4000 = 6710886 ∧ freqWord 5000 = 8388608 ∧ freqWord 5050 = 8472494
    ∧ freqWord 6000 = 10066330 ∧ freqWord 44000 = 73819750 ∧ threshold 900 = 1073741824#32 := by decide +kernel

/-- Cases A and C of Chapter 1: the composite and the setpoint at 90 degrees. -/
theorem test_composite :
    composite sineEntry [⟨3, 50, 0⟩] 1073741824#32 = 31128650
    ∧ setpoint 31128650 { Chan.reset 0#32 none with
        active := { ParamSet.reset with amp := 20000 }, env := 716800 } = 13300
    ∧ setpoint 32767000 { Chan.reset 0#32 none with
        active := { ParamSet.reset with amp := 32767 }, env := 1228800 } = 39320 := by decide +kernel

/-- Case B of Chapter 1: interpolation on a rising and on a falling segment. -/
theorem test_lookup : lookup sineEntry 357913941#32 = 16382 ∧ lookup sineEntry 2149580800#32 = -101 := by decide +kernel

/-- Case D of Chapter 1: the steps of a level ramp and of a frequency ramp. -/
theorem test_ramp : Ramp.make 1024000 716800 7 = ⟨1024000, 716800, -43885, 7⟩
    ∧ Ramp.make 8388608 8472494 4 = ⟨8388608, 8472494, 20971, 4⟩ := by decide +kernel

/-- The crossings at 60.00 Hz of Chapter 2. -/
theorem test_crossings :
    (Advance.mk 1056964650#32 1067030980#32).crosses (threshold 900) = false
    ∧ (Advance.mk 1067030980#32 1077097310#32).crosses (threshold 900) = true
    ∧ (Advance.mk 2144128290#32 2154194620#32).halves = true
    ∧ (Advance.mk 4288256580#32 3355614#32).wraps = true := by decide +kernel

/-- The relinking of L2 of Chapter 2. -/
theorem test_relink :
    let s := after (.linkChannelUnlink .A 2) State.reset
    let t := after (.linkChannelFollow .A 2 2863311531) s
    let u := after (.sampleEvent order) t
    s.chans.l2.link = none ∧ t.chans.l2.phase = 2863311531#32 ∧ u.chans.l2.phase = 2871700139#32
    ∧ u.chans.l1.phase = 8388608#32 := by decide +kernel

/-- Worked case E of Chapter 6. -/
theorem test_rms : rmsOf 169 3 = 7 ∧ rmsOf 256000000 256 = 1000 ∧ rmsOf 1008000000 252 = 2000 ∧ rmsOf 0 0 = 0
    ∧ rmsOf 1099444519936 1024 = 32767 := by decide +kernel

/-- The CRC examples of Chapter 9. -/
theorem test_crc : setpointFrame 0 0 true = [0#8, 0#8, 0#8, 1#8, 7#8]
    ∧ setpointFrame 42 13300 false = [0x2A#8, 0x33#8, 0xF4#8, 0x00#8, 0x4E#8]
    ∧ crc8 [5#8, 0#8, 100#8, 0#8, 10#8, 1#8] = 5#8 := by decide +kernel

/-- Each setpoint frame of the first sample event after reset is frame 0, parked. -/
theorem test_first_frames : (after (.sampleEvent order) State.reset).links.l3.tx = [0#8, 0#8, 0#8, 1#8, 7#8] := by
  decide +kernel

/-- The clamped duration and the refused hold key of Chapter 4's worked example. -/
theorem test_step_writes :
    (after (.writeStep .A 42 { rawStep with count := 0, hasLevel := 1, level := 1000, levelRamp := 256 })
      State.reset).ports.a.holder = ⟨.clamped, 0x30#8, [42#8, 1#8, 9#8]⟩
    ∧ (after (.writeStep .A 43 { rawStep with hasHold := 1, holdKey := 3 }) State.reset).ports.a.holder
      = ⟨.badArgument, 0x30#8, []⟩ := by decide +kernel

/-- A NOP sent on the pins: the power-on response is shifted out, then the next transaction shows NOP's. -/
theorem test_transaction :
    ((received [0#8, 0#8]).ports.a.miso = some 18#8)
    ∧ (after (.frameError .A) (received [0#8, 0#8])).ports.a.holder = ⟨.ok, 0#8, []⟩
    ∧ (after (.frameError .A) (received [0x99#8, 0#8])).ports.a.holder = ⟨.frameError, 0x99#8, [1#8, 2#8]⟩ := by
  decide +kernel

/-! ### Witnesses: concrete states and operands that meet the hypotheses of the statements, clause by clause -/

theorem test_witness_StepTakesFrontCommand : State.reset.pending = [] := rfl

theorem test_witness_TransactionShiftsFrameAndResponse :
    (State.reset.ports.get .A).receiving = false
    ∧ ((received []).ports.get .A).receiving = true ∧ ((received []).ports.get .A).count < 2
    ∧ ((received [3#8, 1#8]).ports.get .A).receiving = true
    ∧ ((received [3#8, 1#8]).ports.get .A).count < 2 + (((received [3#8, 1#8]).ports.get .A).frame.getD 1 0#8).toNat
    ∧ 2 + (((received [0#8, 0#8]).ports.get .A).frame.getD 1 0#8).toNat ≤ ((received [0#8, 0#8]).ports.get .A).count := by
  decide +kernel

theorem test_witness_DeselectJudgesFrame :
    (∀ b ∈ [[0#8], [4#8, 0#8], [3#8, 0#8], [3#8, 1#8], [3#8, 1#8, 63#8]],
      ((received b).ports.get .A).receiving = true ∧ ((received b).ports.get .A).count = b.length
      ∧ ((received b).ports.get .A).frame = b)
    ∧ commandTable.lookup 4 = none ∧ commandTable.lookup 3 = some 1
    ∧ commandOf .A 3 [63#8] = some (.setAlertMask .A 63)
    ∧ commandTable.lookup 0x12 = some 6 ∧ commandOf .A 0x12 [2#8, 1#8, 0#8, 0#8, 0#8, 0#8] = some (.linkChannelUnlink .A 2)
    ∧ (after (.frameError .A) (received [0x12#8, 6#8, 2#8, 2#8, 0#8, 0#8, 0#8, 0#8])).ports.a.holder
      = ⟨.badArgument, 0x12#8, []⟩
    ∧ (State.reset.ports.get .A).receiving = false := by decide +kernel

theorem test_witness_CommandBodyReadsBack :
    (Instr.writeStep .A 255 fullStep).wf = true ∧ portOf (.writeStep .A 255 fullStep) = some .A
    ∧ commandBody (.writeStep .A 255 fullStep) = some (0x30, 255#8 :: stepBody fullStep)
    ∧ commandOf .A 0x30 (255#8 :: stepBody fullStep) = some (.writeStep .A 255 fullStep) := by decide +kernel

theorem test_witness_DeselectRunsTheCommandSent :
    frameOf (.setAlertMask .A 63) = some [3#8, 1#8, 63#8]
    ∧ ((received [3#8, 1#8, 63#8]).ports.get .A).frame = [3#8, 1#8, 63#8]
    ∧ ((received [3#8, 1#8, 63#8]).ports.get .A).count = 3
    ∧ (after (.frameError .A) (received [3#8, 1#8, 63#8])).ports.a.holder = ⟨.ok, 3#8, [63#8, 4#8]⟩ := by decide +kernel

theorem test_witness_AlertCommands : 255 < 256 ∧ 64 ≤ 255 ∧ 63 < 64 := by decide

theorem test_witness_AlertLineFollowsPendingAndMask : alertAsserted State.reset.ports.a = true := by decide

theorem test_witness_RefusedCommandChangesNothing :
    portOf (.restart .A) = some .A ∧ exec (.restart .A) driving = .next (after (.restart .A) driving)
    ∧ ((after (.restart .A) driving).ports.get .A).holder.status = .notTripped := ⟨rfl, rfl, by decide⟩

theorem test_witness_SetChannelStagesOrWrites :
    let s : State := { driving with tables := [(15, .ready)] }
    let t : State := { State.reset with tables := [(15, .ready)] }
    (rawParams.table < 16 ∧ rawParams.overlay < 8)
    ∧ (s.boundTo .L1 = none ∧ s.tableState rawParams.table = .ready ∧ s.trip.outputs.get .L1 ≠ .parked)
    ∧ (t.boundTo .L1 = none ∧ t.tableState rawParams.table = .ready ∧ t.trip.outputs.get .L1 = .parked) := by
  decide +kernel

theorem test_witness_SetChannelRefusals :
    (channelNumber .L3 = 3 ∧ rawParams.table ≤ 15 ∧ rawParams.overlay ≤ 7)
    ∧ ((running.lanes.get .lane0).state ≠ .idle ∧ (running.lanes.get .lane0).channels.get .L1 = true)
    ∧ State.reset.tableState 15 ≠ .ready
    ∧ (State.reset.lanes.get .lane2).state = .idle := by decide +kernel

theorem test_witness_DeselectReplacesHolder : Port.B ≠ .A := by decide

theorem test_witness_ResetGivesOtherBlocksValues : 0 < 15 := by decide

theorem test_witness_ClearingReads :
    (∀ x ∈ [(0, 0), (4, 1), (3, 2)],
      (after (.getChannel .A x.1 x.2) State.reset).ports.a.holder = ⟨.badArgument, 0x11#8, []⟩
      ∧ (after (.getLink .A x.1 x.2) State.reset).ports.a.holder = ⟨.badArgument, 0x80#8, []⟩)
    ∧ (after (.getChannel .A 3 1) State.reset).ports.a.holder.status = .ok
    ∧ (after (.getChannel .A 1 0) running).ports.a.holder.body
      = channelReport (running.chans.get .L1) .driving (some .lane0)
    ∧ (after (.getLink .A 1 0) (linkAt State.reset .lost 4 15 none)).ports.a.holder.body
      = linkReport ((linkAt State.reset .lost 4 15 none).links.get .L1)
    ∧ (channelReport State.reset.chans.l2 .parked none).length = 34 ∧ (linkReport Link.reset).length = 26 := by
  decide +kernel

theorem test_witness_HoldKeyCommands :
    ∀ n ∈ [0, 3, 255], n ≠ 1 ∧ n ≠ 2
      ∧ (after (.setHoldKey .A n) State.reset).ports.a.holder = ⟨.badArgument, 0x46#8, []⟩ := by decide +kernel

/-- The reading commands at the ends of their ranges: each body's length. -/
theorem test_witness_ReadingCommandsChangeNothing :
    [Instr.readTableChunk .A 15 31, .getTableState .A 15, .readOverlaySet .A 7, .readStep .A 255, .readProgram .A 7,
     .getMeasurement .A 3, .readDescriptor .A 15, .getTrip .A, .getCapture .A, .getLane .A 2].map
      (fun i => (after i running).ports.a.holder.body.length) = [65, 11, 5, 61, 6, 26, 24, 10, 20, 37]
    ∧ [Instr.readTableChunk .A 16 31, .readTableChunk .A 15 32, .getTableState .A 16, .readOverlaySet .A 8,
       .readStep .A 256, .readProgram .A 8, .getLane .A 3, .getMeasurement .A 0, .getMeasurement .A 4,
       .readDescriptor .A 16].all (fun i => (after i running).ports.a.holder.status == .badArgument) = true := by
  decide +kernel

theorem test_witness_LinkChannelFollowsAndUnlinks :
    let staged : State := State.reset.setChan .L2 { State.reset.chans.l2 with staged := some ParamSet.reset }
    (running.boundTo .L1).isSome = true ∧ State.reset.boundTo .L1 = none ∧ State.reset.boundTo .L3 = none
    ∧ (staged.chans.get .L2).staged.isSome = true ∧ staged.boundTo .L2 = none
    ∧ State.reset.chans.l1.staged = none ∧ (State.reset.chans.get .L3).staged = none := by decide +kernel

theorem test_witness_BeginTableStartsLoad :
    let other : State := { State.reset with tables := [(15, .loading .B [])] }
    let named : State := { State.reset with tables := [(1, .ready)] }.setChan .L1
      { State.reset.chans.l1 with active := { ParamSet.reset with table := 1 } }
    other.tableState 15 = .loading .B [] ∧ Port.B ≠ .A
    ∧ named.tableState 1 = .ready ∧ named.tableReferenced 1 = true
    ∧ State.reset.tableState 15 = .empty ∧ State.reset.tableReferenced 15 = false := by decide +kernel

theorem test_witness_ChunkWriteStoresItsEntries :
    let e : List Int := List.replicate 32 (-32768)
    let own : State := { State.reset with tables := [(15, .loading .A [])] }
    e.length = 32 ∧ (∀ v ∈ e, -32768 ≤ v ∧ v ≤ 32767) ∧ State.reset.tableState 1 = .empty
    ∧ own.tableState 15 = .loading .A []
    ∧ Memory.read (after (.writeTableChunk .A 15 31 e) own).wave 16383 = -32767
    ∧ (after (.writeTableChunk .A 15 31 e) own).ports.a.holder = ⟨.clamped, 0x21#8, [1#8]⟩
    ∧ (after (.writeTableChunk .B 15 31 e) own).ports.b.holder.status = .ownedByOther
    ∧ (after (.writeTableChunk .A 15 31 e) { own with tables := [(15, .loading .A [0, 31])] }).ports.a.holder.body = [2#8]
    ∧ (after (.writeTableChunk .A 15 30 e) { own with tables := [(15, .loading .A [0, 31])] }).tableState 15
      = .loading .A [0, 30, 31] := by decide +kernel

/-- Coverages at their least and their greatest. -/
theorem test_coverageSound : coverageSound [] ∧ coverageSound [0, 31] ∧ coverageSound (List.range 32) := by
  unfold coverageSound
  decide +kernel

theorem test_witness_CommitAndDiscard :
    let part : State := { State.reset with tables := [(1, .loading .A [0])] }
    let whole : State := { State.reset with tables := [(1, .loading .A (List.range 32))] }
    part.tableState 1 = .loading .A [0] ∧ 31 ∉ [0] ∧ whole.tableState 1 = .loading .A (List.range 32)
    ∧ (∀ d ∈ List.range 32, d ∈ List.range 32)
    ∧ (after (.commitTable .A 1) part).ports.a.holder = ⟨.notReady, 0x22#8, [0#8, 0#8, 0#8, 1#8]⟩
    ∧ (after (.commitTable .A 1) whole).tableState 1 = .ready
    ∧ whole.tableReferenced 1 = false ∧ (after (.discardTable .B 1) whole).tables = [] := by decide +kernel

theorem test_witness_OverlaySetReplaced :
    let named : State := State.reset.setChan .L1 { State.reset.chans.l1 with
      active := { ParamSet.reset with overlay := 7 } }
    named.overlayReferenced 7 = true ∧ State.reset.overlayReferenced 7 = false
    ∧ (after (.writeOverlaySet .A 7 1 (List.replicate 6 ⟨1, 501, 65535⟩)) State.reset).terms 7 = [⟨2, 500, 65535⟩] := by
  decide +kernel

theorem test_witness_WriteStepReplacesRecord :
    running.inRange (running.lanes.get .lane0) 0 = true
    ∧ (∀ l ∈ [LaneId.lane0, .lane1, .lane2], running.inRange (running.lanes.get l) 255 = false)
    ∧ (after (.writeStep .A 0 rawStep) running).ports.a.holder.status = .inUse
    ∧ Store.get (after (.writeStep .A 255 topStep) running).steps 255 = some (stepHeld topStep)
    ∧ (after (.writeStep .A 255 topStep) running).ports.a.holder
      = ⟨.clamped, 0x30#8, [255#8, 6#8, 1#8, 3#8, 4#8, 5#8, 9#8, 10#8]⟩ := by decide +kernel

/-- The named items of WRITE_STEP at the last value that exists and at the first that does not. -/
theorem test_witness_stepNamesExist :
    stepNamesExist rawStep ∧ stepNamesExist topStep
    ∧ ∀ r ∈ [{ topStep with mask := 8 }, { topStep with unit := 2 }, { rawStep with hasSync := 2 },
        { rawStep with hasOpen := 2 }, { topStep with holdKey := 0 }, { topStep with holdKey := 3 },
        { topStep with table := 16 }, { topStep with overlay := 8 }, { topStep with marker2 := 4 },
        { topStep with descriptor := 16 }, { topStep with waitChannel := 0 }, { topStep with waitChannel := 4 },
        { topStep with onTimeout := 2 }, { topStep with closeCount := 0 }, { topStep with closeCount := 5 }],
      ¬ stepNamesExist r := by
  simp [stepNamesExist, topStep, rawStep]

theorem test_witness_StoreAndDirectoryWrites :
    running.inRange (running.lanes.get .lane0) 0 = true
    ∧ (∀ l ∈ [LaneId.lane0, .lane1, .lane2], running.inRange (running.lanes.get l) 255 = false)
    ∧ ((running.lanes.get .lane0).state ≠ .idle ∧ (running.lanes.get .lane0).program = some 0)
    ∧ (∀ l ∈ [LaneId.lane0, .lane1, .lane2],
        (running.lanes.get l).state = .idle ∨ (running.lanes.get l).program ≠ some 7)
    ∧ (after (.writeProgramDefine .A 7 255 1 1) running).programs = [(0, ⟨0, 1, .keep⟩), (7, ⟨255, 1, .restore⟩)] := by
  decide +kernel

theorem test_witness_RunningProgramIsProtected :
    exec (.clearStep .A 0) running = .next (after (.clearStep .A 0) running)
    ∧ (running.lanes.get .lane0).state ≠ .idle ∧ ((after (.clearStep .A 0) running).lanes.get .lane0).state ≠ .idle :=
  ⟨rfl, by decide, by decide⟩

theorem test_witness_StartTakesLowestIdleLane :
    let q : Program := ⟨0, 1, .keep⟩
    let s : State := { running with chans := driving.chans }
    s.trip.state = .normal ∧ Store.get s.programs 0 = some q ∧ channelSetOf 6 = some ⟨false, true, true⟩
    ∧ (∀ c ∈ [Channel.L2, .L3], s.boundTo c = none ∧ (s.chans.get c).staged = none)
    ∧ s.validate q ⟨false, true, true⟩ = none ∧ Store.get s.steps 0 = some plain
    ∧ (s.lanes.get .lane1).state = .idle ∧ (s.lanes.get .lane0).state ≠ .idle
    ∧ (after (.start .A 0 6) s).ports.a.holder = ⟨.ok, 0x40#8, [1#8, 2#8]⟩ := by decide +kernel

theorem test_witness_StartRefusals :
    let staged : State := running.setChan .L2 { running.chans.l2 with staged := some ParamSet.reset }
    let full : State := { running with lanes := ⟨{ lastDwell with channels := PerChannel.all false },
      { lastDwell with channels := PerChannel.all false }, { lastDwell with channels := PerChannel.all false }⟩ }
    let undefined : State := { running with steps := [] }
    State.reset.trip.state = .tripped ∧ running.trip.state = .normal ∧ channelSetOf 7 = some ⟨true, true, true⟩
    ∧ running.boundTo .L1 = some .lane0
    ∧ (after (.start .A 0 7) running).ports.a.holder = ⟨.channelBusy, 0x40#8, [0#8]⟩
    ∧ (after (.start .A 0 2) staged).ports.a.holder = ⟨.pending, 0x40#8, [2#8]⟩
    ∧ (after (.start .A 0 2) undefined).ports.a.holder = ⟨.badProgram, 0x40#8, [0#8, 0#8, 0#8]⟩
    ∧ (after (.start .A 0 2) full).ports.a.holder = ⟨.noLane, 0x40#8, []⟩ := by decide +kernel

/-- One step that fails each check of R76 first, at the second position of a program of two steps after a plain one; and
four nested groups, closed at the last step, that pass. -/
theorem test_witness_StartRefusals_checks :
    let two (r : List StepRecord) : State :=
      { driving with steps := (0, plain) :: (r.map (fun x => (1, x))), programs := [(0, ⟨0, 2, .keep⟩)] }
    let l2 : ChannelSet := ⟨false, true, false⟩
    let opens : StepRecord := { plain with groupOpen := some 0 }
    let deep (k : Nat) (last : StepRecord) : State :=
      { driving with steps := (List.range k).map (fun i => (i, opens)) ++ [(k, last)], programs := [(0, ⟨0, k + 1, .keep⟩)] }
    (∀ x ∈ [(two [], 0), (two [{ plain with mask := ⟨true, false, false⟩ }], 1), (two [{ plain with wait := some waitPart }], 2),
            (two [{ plain with shape := some ⟨1, 0⟩ }], 3), (two [{ plain with groupClose := some 1 }], 5),
            (two [{ plain with groupOpen := some 0 }], 5)],
      checksFailed x.1 ⟨0, 2, .keep⟩ l2 0 = [] ∧ (checksFailed x.1 ⟨0, 2, .keep⟩ l2 1).head? = some x.2
      ∧ (after (.start .A 0 2) x.1).ports.a.holder = ⟨.badProgram, 0x40#8, [1#8, 1#8, BitVec.ofNat 8 x.2]⟩)
    ∧ (checksFailed (deep 4 opens) ⟨0, 5, .keep⟩ l2 4).head? = some 4
    ∧ (after (.start .A 0 2) (deep 4 opens)).ports.a.holder = ⟨.badProgram, 0x40#8, [4#8, 4#8, 4#8]⟩
    ∧ (∀ k ∈ List.range 5, checksFailed (deep 4 { plain with groupClose := some 4 }) ⟨0, 5, .keep⟩ l2 k = [])
    ∧ (after (.start .A 0 2) (deep 4 { plain with groupClose := some 4 })).ports.a.holder.status = .ok := by
  decide +kernel

theorem test_witness_HoldAndResume :
    let at_ (x : LaneState) (f : Option HeldFrom) : State :=
      withLane { lastDwell with state := x, heldFrom := f } plain .keep
    (∀ x ∈ [LaneState.idle, .held, .closing, .aligning, .dwell, .waiting], ((at_ x none).lanes.get .lane0).state = x)
    ∧ (∀ f ∈ [HeldFrom.entry, .aligning, .dwell, .waiting],
        ((at_ .held (some f)).lanes.get .lane0).state = .held
        ∧ ((at_ .held (some f)).lanes.get .lane0).heldFrom = some f)
    ∧ laneNumber .lane2 = 2 := by decide +kernel

theorem test_witness_ReleaseAndAbort :
    let grouped : State := withLane { lastDwell with stack := [⟨0, 0⟩] } plain .keep
    (running.lanes.get .lane0).stack = [] ∧ (grouped.lanes.get .lane0).stack = [⟨0, 0⟩]
    ∧ (State.reset.lanes.get .lane2).state = .idle ∧ (running.lanes.get .lane0).state ≠ .closing := by decide +kernel

theorem test_witness_ReadCaptureReturnsWords :
    (after (.readCapture .A 16383 1) { State.reset with mem := [(16383, -2)] }).ports.a.holder
      = ⟨.ok, 0x64#8, [0xFF#8, 0xFE#8]⟩
    ∧ (after (.readCapture .A 16383 2) State.reset).ports.a.holder.status = .badArgument := by decide +kernel

theorem test_witness_WriteDescriptorReplaces :
    (Store.get (after (.writeDescriptorDefine .A 15 topDesc) State.reset).descs 15 = some (descriptorHeld topDesc)
      ∧ descriptorHeld topDesc = ⟨.rmsI, .L3, 16383, 1, some 15, 1, some 32767, some ⟨.below, 32767⟩⟩)
    ∧ (after (.writeDescriptorDefine .A 15 topDesc) State.reset).ports.a.holder
      = ⟨.clamped, 0x60#8, descriptorReport (some (descriptorHeld topDesc))⟩
    ∧ (capturing oneWord).engine.isActive = true ∧ State.reset.engine.isActive = false := by decide +kernel

/-- The named items of a DEFINE at the last value that exists and at the first that does not. -/
theorem test_witness_descriptorNamesExist :
    descriptorNamesExist rawDesc ∧ descriptorNamesExist topDesc
    ∧ ∀ r ∈ [{ topDesc with source := 5 }, { topDesc with channel := 0 }, { topDesc with channel := 4 },
        { topDesc with next := 16 }, { topDesc with next := 254 }, { rawDesc with hasDeadband := 2 },
        { rawDesc with hasMonitor := 2 }, { topDesc with relation := 2 }], ¬ descriptorNamesExist r := by
  unfold descriptorNamesExist
  decide +kernel

theorem test_witness_StartAndStopCapture :
    (capturing oneWord).engine.isActive = true ∧ (capturing oneWord).engine.originator = some (.port .A)
    ∧ (capturing oneWord).engine.current = some 15 ∧ Store.get (capturing oneWord).descs 15 = some oneWord
    ∧ Store.get (capturing oneWord).descs 0 = none
    ∧ ({ capturing oneWord with engine := Engine.reset }).engine.isActive = false := by decide +kernel

theorem test_witness_OfferIsFilteredAndStored :
    let m : Descriptor := { oneWord with monitor := some ⟨.above, 100⟩ }
    let b : Descriptor := { oneWord with deadband := some 0, count := 2, base := 0 }
    let e : State := { capturing b with engine := { (capturing b).engine with last := some 5 } }
    (capturing oneWord).engine.phase + 1 < { oneWord with decimation := 2 }.decimation
    ∧ oneWord.decimation ≤ (capturing oneWord).engine.phase + 1
    ∧ ((capturing oneWord).takeOffer 15 oneWord .gap).full = true
    ∧ Memory.read ((capturing m).takeOffer 15 m (.value (-101))).st.mem 16383 = -101
    ∧ ((capturing m).takeOffer 15 m (.value (-101))).full = false
    ∧ (e.takeOffer 15 b (.value 5)).st.engine.writeIndex = 0
    ∧ (e.takeOffer 15 b (.value 6)).st.engine.writeIndex = 1 := by decide +kernel

theorem test_witness_TripEntryAndRecord :
    driving.trip.state = .normal ∧ driving.trip.active.tripN = false ∧ State.reset.trip.state = .tripped
    ∧ State.reset.trip.active.tripN = false ∧ (State.resetWith true).trip.active.tripN = true
    ∧ (sending driving).trip.state = .normal ∧ ((sending driving).links.get .L1).waiting = true
    ∧ ((sending driving).links.get .L1).outstanding = some 0 ∧ ((sending driving).links.get .L2).waiting = false
    ∧ ((after (.trip .A) (sending driving)).links.l1.tx = setpointFrame 0 0 true) := by decide +kernel

/-- An entry from NORMAL alerts the port that had started the ended lane, and raises TRIP to both. -/
theorem test_witness_TripEntryAndRecord_alerts :
    let t := after .tripNAsserted running
    running.trip.state = .normal ∧ running.trip.active.tripN = false
    ∧ (t.ports.get .A).alerts.kinds.laneEnded = true ∧ (t.ports.get .A).alerts.ended = ⟨true, false, false⟩
    ∧ (t.ports.get .B).alerts.kinds.laneEnded = false ∧ (t.ports.get .B).alerts.kinds.trip = true := by decide +kernel

/-- `running` has its lanes' channel sets disjoint and its IDLE lanes empty. -/
theorem test_running_lanesSound : running.lanesSound := by
  constructor
  · intro l m c
    cases l <;> cases m <;> cases c <;> decide +kernel
  · intro l
    cases l <;> decide +kernel

theorem test_witness_TripEndsRunningLanes :
    running.lanesSound ∧ running.trip.state = .normal ∧ running.trip.active.tripN = false
    ∧ exec (.trip .B) running = .next (after (.trip .B) running) ∧ running.boundTo .L1 = some .lane0
    ∧ (running.lanes.get .lane0).reverted.get .L1 = false
    ∧ (running.lanes.get .lane0).snapshots.get .L1 = some ParamSet.reset ∧ running.boundTo .L2 = none :=
  ⟨test_running_lanesSound, by decide +kernel, by decide +kernel, rfl, by decide +kernel, by decide +kernel,
    by decide +kernel, by decide +kernel⟩

/-- The fourth missing answer of LK1 makes an entry in the next sample event, taken before the lanes' work. -/
theorem test_witness_TripEndsRunningLanes_link :
    let s := linkAt running .good 3 0 none
    s.lanesSound ∧ s.trip.state = .normal ∧ ¬ s.noEntryDue ∧ order.before = ⟨false, false, false⟩
    ∧ s.boundTo .L1 = some .lane0 ∧ (s.chans.get .L1).staged = none
    ∧ (after (.sampleEvent order) s).trip.first = ⟨.linkLoss .L1, none⟩
    ∧ (after (.sampleEvent order) s).lanes.n0.ending.reason = .tripped := by
  refine ⟨test_running_lanesSound, rfl, ?_, by decide +kernel⟩
  rintro (h | h)
  · revert h; decide +kernel
  · have := (h .L1).1
    revert this; decide +kernel

theorem test_witness_RestartLeavesTripped :
    driving.trip.state = .normal ∧ (State.resetWith true).trip.active ≠ SourceSet.empty
    ∧ State.reset.trip.active = SourceSet.empty
    ∧ (after (.restart .A) State.reset).trip.outputs = PerChannel.all .unparking := by decide +kernel

theorem test_witness_OnlyRestartLeavesTripped :
    exec (.restart .A) State.reset = .next (after (.restart .A) State.reset) ∧ State.reset.trip.state = .tripped
    ∧ (after (.restart .A) State.reset).trip.state = .normal := ⟨rfl, rfl, by decide +kernel⟩

theorem test_witness_MasterClearEndsActivity :
    let s : State := { capturing oneWord with tables := [(1, .ready), (2, .loading .A [])] }
    s.tableState 1 = .ready ∧ s.engine.isActive = true ∧ s.engine.current = some 15
    ∧ (after (.masterClear .B) s).tables = [(1, .ready)]
    ∧ s.tableState 2 = .loading .A [] ∧ (after (.masterClear .B) s).tableState 2 = .empty ∧ s.tableState 15 = .empty
    ∧ (after (.masterClear .B) s).trip.causes = { s.trip.causes with masterClear := true }
    ∧ (after (.masterClear .B) running).trip.causes = { CauseSet.empty with masterClear := true }
    ∧ (after (.masterClear .B) s).comps = [(15, ⟨0, .stopped, 0⟩)] ∧ (after (.masterClear .B) s).engine.ends = 1
    ∧ (after (.masterClear .B) running).ports.b.holder = ⟨.ok, 0x0F#8, [1#8, 0#8, 1#8]⟩
    ∧ (after (.masterClear .B) running).lanes.n0.ending.reason = .cleared
    ∧ running.boundTo .L1 = some .lane0 ∧ (running.lanes.get .lane0).reverted.get .L1 = false
    ∧ (running.lanes.get .lane0).snapshots.get .L1 = some ParamSet.reset
    ∧ (running.lanes.get .lane0).binds .L2 = false ∧ s.engine.originator = some (.port .A)
    ∧ (sending running).trip.state = .normal ∧ ((sending running).links.get .L1).outstanding = some 0
    ∧ (after (.masterClear .B) (sending running)).links.l1.tx = setpointFrame 0 0 true
    ∧ (after (.masterClear .B) (sending State.reset)).links.l1.waiting = true := by decide +kernel

/-- The state of the witness above with a table LOADING is in canonical form. -/
theorem test_witness_MasterClearEndsActivity_canonical :
    State.canonical { capturing oneWord with tables := [(1, .ready), (2, .loading .A [])] } := by
  unfold State.canonical
  decide +kernel

theorem test_witness_StatusFrameIsJudged :
    let good : List Byte := [0#8, 0x80#8, 0#8, 0#8, 10#8, 0#8, crc8 [0#8, 0x80#8, 0#8, 0#8, 10#8, 0#8]]
    let s : State := linkAt State.reset .good 0 0 none
    ((after (.statusFrame .L1 good true) s).links.l1.answer = some ⟨0, -32767, 10, false, false⟩)
    ∧ (after (.statusFrame .L1 good true) (after (.statusFrame .L1 good true) s)).links.l1.rejected = ⟨0, 0, 0, 0, 1⟩
    ∧ (after (.statusFrame .L1 good false) s).links.l1.rejected = ⟨1, 0, 0, 0, 0⟩
    ∧ (after (.statusFrame .L1 (good.take 6) true) s).links.l1.rejected = ⟨1, 0, 0, 0, 0⟩
    ∧ (after (.statusFrame .L1 (good.take 6 ++ [0#8]) true) s).links.l1.rejected = ⟨0, 1, 0, 0, 0⟩
    ∧ (after (.statusFrame .L1 good true) State.reset).links.l1.rejected = ⟨0, 0, 0, 1, 0⟩
    ∧ (after (.statusFrame .L1 good true) (s.setLink .L1 { s.links.l1 with outstanding := some 1 })).links.l1.rejected
      = ⟨0, 0, 1, 0, 0⟩
    ∧ (after (.statusFrame .L1 good true) (s.setLink .L1 { s.links.l1 with outstanding := some 2 })).links.l1.rejected
      = ⟨0, 0, 0, 1, 0⟩ := by decide +kernel

theorem test_witness_VerdictMovesHealth :
    ∀ x ∈ [linkAt State.reset .good 3 0 none, linkAt State.reset .good 2 0 none, linkAt State.reset .lost 4 15 none,
           linkAt State.reset .good 3 0 (some answer0), linkAt State.reset .lost 4 14 (some answer0),
           linkAt State.reset .lost 4 15 (some answer0)], (x.links.get .L1).outstanding = some 0 := by decide +kernel

/-- No window is open after a reset. -/
theorem test_witness_VerdictMovesHealth_reset :
    (State.reset.links.get .L1).outstanding = none ∧ (after (.sampleEvent order) State.reset).links.l1.missing = 0 := by
  decide +kernel

theorem test_witness_SampleEventAdvancesChannels :
    State.reset.lanesIdle ∧ State.reset.noEntryDue ∧ ((atWrap State.reset).advanceOf .L1).wraps = true
    ∧ (State.reset.advanceOf .L1).wraps = false := by
  refine ⟨fun l => by cases l <;> rfl, Or.inl rfl, by decide +kernel, by decide +kernel⟩

/-- A step with every part that reaches its channels, due at the next sample event. -/
def partsStep : StepRecord :=
  { plain with level := some ⟨2000, 1⟩, freq := some ⟨44000, 73819750, 0⟩, jump := some ⟨1800, 2147483648⟩
               shape := some ⟨0, 7⟩, markers := some ⟨.set, .pulse⟩, capture := some 15
               sync := some ⟨0, 0#32⟩ }

/-- Lane 0 over L1 aligning on that step, with L1 about to wrap. -/
def aligningState : State := atWrap (withLane { lastDwell with state := .aligning, dwell := none } partsStep .keep)

theorem test_witness_SampleEventAdvancesChannels_application :
    aligningState.noEntryDue ∧ aligningState.lanesSound
    ∧ ((aligningState.lanes.get .lane0).state = .aligning
      ∧ aligningState.currentStep (aligningState.lanes.get .lane0) = some partsStep
      ∧ (aligningState.chans.get .L1).staged = none)
    ∧ aligningState.dueNext (aligningState.lanes.get .lane0) partsStep
    ∧ (∀ l : LaneId, l ≠ .lane0 → (aligningState.lanes.get l).state = .idle)
    ∧ (let t := after (.sampleEvent order) aligningState
       t.lanes.n0.state = .dwell ∧ t.chans.l1.active.word = 73819750 ∧ t.chans.l1.active.overlay = 7
       ∧ t.chans.l1.env = 1024000 ∧ t.chans.l1.phase = (aligningState.advanceOf .L1).after + 2147483648#32
       ∧ t.chans.l2.phase = (aligningState.advanceOf .L2).after + 2147483648#32) := by
  refine ⟨noEntryDue_of_links (by decide +kernel), ?_, by decide +kernel, ?_, othersIdle rfl rfl, by decide +kernel⟩
  · exact lanesSound_withLane { lastDwell with state := .aligning, dwell := none } partsStep .keep (by decide)
  · intro p h
    cases h
    decide +kernel

/-- NORMAL, with L1 near 90 degrees at 120 % of the greatest amplitude: its next value lies outside the code range. -/
def clipping : State :=
  driving.setChan .L1 { driving.chans.l1 with
    phase := 1065353216#32, active := { ParamSet.reset with amp := 32767 }, env := 1228800 }

theorem test_witness_SampleEventSendsSetpointFrames_clip :
    let t := after (.sampleEvent order) clipping
    t.chans.l1.clip = 1 ∧ (t.ports.get .A).alerts.kinds.clipping = true
    ∧ (t.links.get .L1).tx = setpointFrame 0 32767 false
    ∧ (after (.sampleEvent order) (clipping.setChan .L1 { clipping.chans.l1 with clip := 65535 })).chans.l1.clip = 65535
    ∧ setpointFrame 255 (-32767) true = [0xFF#8, 0x80#8, 0x01#8, 0x01#8, crc8 [0xFF#8, 0x80#8, 0x01#8, 0x01#8]] := by
  decide +kernel

theorem test_witness_SampleEventSendsSetpointFrames :
    ((after (.sampleEvent order) State.reset).trip.outputs.get .L1 ≠ .driving ∧ order.started.get .L1 = false)
    ∧ (driving.lanesIdle ∧ driving.noEntryDue ∧ (after (.sampleEvent order) driving).trip.outputs.get .L1 = .driving) := by
  refine ⟨by decide +kernel, fun l => by cases l <;> rfl, Or.inr fun k => ?_, by decide +kernel⟩
  cases k <;> decide +kernel

/-- A ramp with `n` sample events left on a channel that a dwelling lane binds. -/
def ramping (n : Nat) : State :=
  let s := withLane { lastDwell with dwell := some ⟨2, .samples⟩ } plain .keep
  s.setChan .L1 { s.chans.l1 with levelRamp := some ⟨0, 1024, 1000, n⟩, freqRamp := some ⟨0, 8388608, 1000, n⟩ }

theorem test_ramping_spared (n : Nat) (part : StepRecord → Prop) : (ramping n).spared .L1 part := by
  refine ⟨Or.inl rfl, fun l h => ⟨noEntryDue_of_links ?_, ?_⟩⟩
  · intro k hk
    cases k <;> exact ⟨fun e => (by cases e), fun e => (by cases e)⟩
  · cases l
    · exact Or.inr (Or.inr (Or.inr (Or.inl ⟨rfl, fun d e => by cases e; exact Or.inl (by decide)⟩)))
    · exact (Bool.false_ne_true h).elim
    · exact (Bool.false_ne_true h).elim

theorem test_witness_RampEndSetsTarget :
    (∀ n ∈ [1, 2, 65535], ((ramping n).chans.get .L1).levelRamp = some ⟨0, 1024, 1000, n⟩
      ∧ ((ramping n).chans.get .L1).freqRamp = some ⟨0, 8388608, 1000, n⟩)
    ∧ (after (.levelRampEnd .L1 order) (ramping 1)).chans.l1.env = 1024
    ∧ (after (.frequencyRampEnd .L1 order) (ramping 1)).chans.l1.active.word = 8388608
    ∧ (after (.sampleEvent order) (ramping 2)).chans.l1.env = 1025000
    ∧ (after (.sampleEvent order) (ramping 2)).chans.l1.active.word = 8389608 := by decide +kernel

/-- A follower that no lane binds, with a staged set pending and a ramp in progress, while its leader is bound: it is
spared when no entry is due. -/
def following : State :=
  let s := ramping 2
  s.setChan .L2 { s.chans.l2 with staged := some ParamSet.reset, levelRamp := some ⟨0, 1024, 1000, 2⟩ }

theorem test_witness_RampEndSetsTarget_follower :
    following.spared .L2 (StepRecord.levels .L2) ∧ (following.boundTo .L1).isSome = true
    ∧ (following.chans.get .L2).staged ≠ none ∧ (following.chans.get .L2).link.isSome = true
    ∧ (after (.sampleEvent order) following).chans.l2.env = 1025000 := by
  refine ⟨⟨Or.inr ⟨by decide +kernel, fun _ _ => noEntryDue_of_links (by decide +kernel)⟩, fun l h => ?_⟩,
    by decide +kernel⟩
  cases l <;> exact (Bool.false_ne_true h).elim

theorem test_witness_LinkLossAndRecovery :
    let s := linkAt driving .good 3 0 none
    let t := linkAt State.reset .lost 4 15 (some answer0)
    (s.links.get .L1).outstanding = some 0 ∧ (s.links.get .L1).health = .good ∧ (s.links.get .L1).missingRun = 3
    ∧ (s.links.get .L1).answer = none ∧ s.trip.active.loss.get .L1 = false
    ∧ (after (.linkLost .L1 order) s).trip.first = ⟨.linkLoss .L1, none⟩
    ∧ (t.links.get .L1).outstanding = some 0 ∧ (t.links.get .L1).health = .lost ∧ (t.links.get .L1).goodRun = 15
    ∧ (t.links.get .L1).answer.isSome = true
    ∧ (after (.linkRecovered .L1 order) t).links.l1.health = .good := by decide +kernel

theorem test_witness_TruncationAndPulseEnd :
    let s : State := (linkAt State.reset .good 0 0 (some answer0)).setSense .L1
      { Sense.reset with isOpen := true, polarity := some .positive, n := 1023 }
    let t : State := { State.reset with marker2 := ⟨true, true⟩ }
    (s.sense.get .L1).isOpen = true ∧ (s.advanceOf .L1).wraps = false ∧ (s.advanceOf .L1).halves = false
    ∧ ((s.sense.get .L1).attribute (s.links.get .L1).verdict.2).n = 1024
    ∧ ((after (.truncated .L1 order) s).sense.get .L1).n = 0 ∧ s.trip.state = .tripped
    ∧ (t.marker .M2).pulse = true ∧ (after (.markerPulseEnd .M2 order) t).marker2 = ⟨false, false⟩ := by decide +kernel

/-- The attribution of a received sample, the wrap and the half-cycle point, and a step's marker actions. -/
theorem test_witness_TruncationAndPulseEnd_boundaries :
    let s : State := (linkAt State.reset .good 0 0 (some answer0)).setSense .L1
      { Sense.reset with isOpen := true, polarity := some .negative }
    let half : State := s.setChan .L1 { s.chans.l1 with phase := 2147483647#32 }
    let x := (s.sense.get .L1).attribute (s.links.get .L1).verdict.2
    (x.isOpen = true ∧ x.polarity = some .negative ∧ x.n = 1 ∧ x.sumV = 10000 ∧ (s.sense.get .L2).isOpen = false)
    ∧ (((atWrap s).advanceOf .L1).wraps = true
      ∧ ((after (.sampleEvent order) (atWrap s)).sense.get .L1).polarity = some .positive
      ∧ (((after (.sampleEvent order) (atWrap s)).sense.get .L1).record.map Measurement.rmsV) = some 100)
    ∧ ((half.advanceOf .L1).wraps = false ∧ (half.advanceOf .L1).halves = true
      ∧ ((after (.sampleEvent order) half).sense.get .L1).polarity = some .negative)
    ∧ ((s.advanceOf .L1).wraps = false ∧ (s.advanceOf .L1).halves = false)
    ∧ partsStep.markers = some ⟨.set, .pulse⟩
    ∧ (after (.sampleEvent order) aligningState).marker1 = ⟨true, false⟩
    ∧ (after (.sampleEvent order) aligningState).marker2 = ⟨true, true⟩ := by decide +kernel

/-- The sense unit of a state closes a measurement of one sample of voltage 101 on L1 at its next sample event. -/
def closing101 (s : State) : State :=
  atWrap ((linkAt s .good 0 0 (some { answer0 with v := 101 })).setSense .L1
    { Sense.reset with isOpen := true, polarity := some .negative })

theorem test_witness_LaneRowsMoveTheLane :
    let waits : StepRecord := { plain with wait := some waitPart }
    let u := withLane lastDwell waits .restore
    let v := closing101 (withLane waitingLane waits .restore)
    let w := atWrap (withLane waitingLane waits .restore)
    (running.programOf (running.lanes.get .lane0) = some ⟨0, 1, .keep⟩ ∧ running.lanes.n0.position = some 0
      ∧ Store.get running.steps 0 = some plain ∧ running.lanes.n0.dwell = some ⟨1, .samples⟩)
    ∧ ((after (.dwellEnd .lane0 order) running).lanes.n0.ending.reason = .completed)
    ∧ ((after (.dwellEnd .lane0 order) u).lanes.n0.state = .waiting)
    ∧ ((v.closes .L1).map Measurement.rmsV = some 101 ∧ (v.closes .L1).map Measurement.incomplete = some false)
    ∧ ((after (.waitMet .lane0 order) v).lanes.n0.state = .closing)
    ∧ (w.closes .L1 = none ∧ (w.advanceOf (lowest w.lanes.n0.channels)).wraps = true ∧ w.lanes.n0.timeout = 1)
    ∧ ((after (.waitTimeout .lane0 order) w).lanes.n0.ending.reason = .waitTimeout) := by decide +kernel

/-- No entry is due in the states of the witness above. -/
theorem test_witness_LaneRows_noEntry :
    running.noEntryDue ∧ (closing101 (withLane waitingLane { plain with wait := some waitPart } .restore)).noEntryDue := by
  constructor <;> (refine Or.inr fun k => ?_; cases k <;> decide +kernel)

/-- Lane 0 in the middle of a program of three steps whose second closes a group that the first opened. -/
def looping (release : Bool) : State :=
  { driving with
    lanes := ⟨{ lastDwell with position := some 1, stack := [⟨0, 0⟩], releasePending := release }, Lane.reset, Lane.reset⟩
    steps := [(0, { plain with groupOpen := some 0 }), (1, { plain with groupClose := some 1 }), (2, plain)]
    programs := [(0, ⟨0, 3, .keep⟩)] }

/-- The cases of a lane's work that the witness above does not meet: HELD, ALIGNING, the two counts of a dwell, the loop
back and the next step, a passed timeout, a measurement that is not met, and CLOSING. -/
theorem test_witness_LaneRows_cases :
    let dwelling (d : Duration) : State := withLane { lastDwell with dwell := some d } plain .keep
    let waits : StepRecord := { plain with wait := some { waitPart with onTimeout := .continue_ } }
    let high : StepRecord := { plain with wait := some { waitPart with threshold := 101 } }
    let twice : StepRecord := { plain with wait := some { waitPart with consecutive := 2 } }
    let closes : State := withLane { lastDwell with state := .closing, position := none, dwell := none } plain .restore
    let at_ (s : State) : Lane := (after (.sampleEvent order) s).lanes.n0
    at_ (withLane { lastDwell with state := .held } plain .keep) = { lastDwell with state := .held }
    ∧ at_ (dwelling ⟨2, .cycles⟩) = { lastDwell with dwell := some ⟨2, .cycles⟩ }
    ∧ at_ (dwelling ⟨2, .samples⟩) = lastDwell ∧ at_ (atWrap (dwelling ⟨2, .cycles⟩)) = { lastDwell with dwell := some ⟨1, .cycles⟩ }
    ∧ ((looping false).programOf (looping false).lanes.n0 = some ⟨0, 3, .keep⟩
      ∧ (after (.dwellEnd .lane0 order) (looping false)).lanes.n0.position = some 0
      ∧ (after (.dwellEnd .lane0 order) (looping false)).lanes.n0.stack = [⟨0, 0⟩])
    ∧ ((after (.dwellEnd .lane0 order) (looping true)).lanes.n0.position = some 2
      ∧ (after (.dwellEnd .lane0 order) (looping true)).lanes.n0.stack = [])
    ∧ (after (.waitTimeout .lane0 order) (atWrap (withLane waitingLane waits .keep))).lanes.n0.ending
      = ⟨.completed, 0, 1, false⟩
    ∧ (at_ (closing101 (withLane { waitingLane with timeout := 2, consecutive := 9 } high .keep))).consecutive = 0
    ∧ (at_ (closing101 (withLane { waitingLane with timeout := 2 } twice .keep))).consecutive = 1
    ∧ (at_ (atWrap closes)).state = .idle ∧ at_ closes = closes.lanes.n0 := by decide +kernel

/-- The premises on lanes and entries of those cases. -/
theorem test_witness_LaneRows_premises :
    (∀ release : Bool, (looping release).noEntryDue)
    ∧ (withLane { lastDwell with state := .closing, position := none, dwell := none } plain .restore).lanesSound
    ∧ ¬ (withLane { lastDwell with state := .aligning } partsStep .keep).dueNext lastDwell partsStep :=
  ⟨fun b => noEntryDue_of_links (by cases b <;> decide +kernel), lanesSound_withLane _ _ _ (by decide),
    fun h => absurd (h _ rfl) (by decide +kernel)⟩

theorem test_witness_CaptureRowsStoreAndEndPass_start :
    let taken : State := { aligningState with descs := [(15, oneWord)] }
    let busy : State := { taken with engine := (capturing oneWord).engine }
    aligningState.noEntryDue ∧ partsStep.capture = some 15 ∧ aligningState.lanes.n0.origin = some .A
    ∧ ((after (.sampleEvent order) taken).engine.originator = some (.lane .lane0 .A))
    ∧ ((after (.sampleEvent order) aligningState).engine.missed = true)
    ∧ ((after (.sampleEvent { order with startsFirst := 1 }) busy).lanes.n0.ending.missed = true) :=
  ⟨noEntryDue_of_links (by decide +kernel), rfl, rfl, by decide +kernel, by decide +kernel, by decide +kernel⟩

/-- A run in progress of each source on a DRIVING channel, a verdict delivered and a measurement that closes. -/
def offering (source : Source) (a : Option Status) : State :=
  let s := atWrap ((linkAt driving .good 0 0 a).setSense .L1 { Sense.reset with isOpen := true, polarity := some .negative })
  { s with descs := [(15, { oneWord with source := source })], engine := (capturing oneWord).engine }

theorem test_witness_CaptureRowsStoreAndEndPass_sources :
    let stored (source : Source) (a : Option Status) : Int :=
      Memory.read (after (.capturePassFull order) (offering source a)).mem 16383
    stored .senseV (some answer0) = 100 ∧ stored .senseI (some answer0) = 10 ∧ stored .senseV none = -32768
    ∧ stored .rmsV (some answer0) = 100 ∧ stored .rmsI (some answer0) = 10 ∧ stored .rmsV none = 0
    ∧ Memory.read (after (.capturePassFull order) { (offering .setpoint none) with
        chans := { driving.chans with l1 := { driving.chans.l1 with active := { ParamSet.reset with dc := -3276 } } } }).mem
        16383 = -3276
    ∧ ((capturing { oneWord with source := .senseV }).links.get .L1).verdict.2 = none
    ∧ (capturing { oneWord with source := .rmsI }).closes .L1 = none := by decide +kernel

theorem test_witness_CaptureRows_premises (source : Source) :
    (offering source none).noEntryDue ∧ (offering source none).noCaptureStart :=
  ⟨noEntryDue_of_links (by cases source <;> decide +kernel), fun l => Or.inl (by cases l <;> rfl)⟩

theorem test_witness_CaptureRowsStoreAndEndPass :
    let two : Descriptor := { oneWord with base := 0, count := 2 }
    (capturing two).engine.current = some 15 ∧ Store.get (capturing two).descs 15 = some two
    ∧ (capturing two).trip.outputs.get .L1 = .parked ∧ (capturing two).engine.phase + 1 = two.decimation
    ∧ (capturing two).engine.writeIndex + 1 < two.count
    ∧ (after (.decimationPass order) (capturing two)).engine.writeIndex = 1
    ∧ (capturing oneWord).engine.writeIndex + 1 = oneWord.count
    ∧ (after (.capturePassFull order) (capturing oneWord)).comps = [(15, ⟨1, .full, 0⟩)] := by decide +kernel

theorem test_witness_CrossingIsTheForwardArc :
    (Advance.mk 5#32 9#32).crosses 9#32 = true ∧ (Advance.mk 5#32 9#32).crosses 5#32 = false
    ∧ (9#32 - 5#32).toNat < 2147483648 := by decide +kernel

theorem test_witness_RmsIsFloorOfRoot : 1099444519936 ≤ 1024 * 1073676289 ∧ 0 ≤ 0 * 1073676289 := by decide

/-! ### Witnesses of the invariants' premises: a state with a sample event in its queue -/

/-- `driving` with a sample event to take. -/
def queued : State := { driving with pending := [.sampleEvent order] }

theorem test_queued_steps : step queued = .next (after (.sampleEvent order) driving) := rfl

theorem test_witness_StepKeepsMemoriesCanonical : queued.canonical := by
  unfold State.canonical
  decide +kernel

theorem test_witness_StepKeepsFollowersLocked : queued.phaseLocked :=
  ⟨rfl, fun o h => by cases h; decide +kernel, fun o h => by cases h; decide +kernel⟩

theorem test_witness_StepKeepsTripUnitSound : queued.tripSound := by
  refine ⟨fun _ => ⟨rfl, rfl, fun c => ?_⟩, fun h => ?_, fun k => ?_⟩
  · cases c <;> decide
  · exact absurd h (by decide)
  · cases k <;> decide

theorem test_witness_StepKeepsLanesDisjoint : queued.lanesSound := by
  constructor
  · intro l m c
    cases l <;> cases m <;> cases c <;> decide
  · intro l
    cases l <;> decide

theorem test_witness_StepKeepsMeasurementsBounded : queued.senseBounded := by
  constructor
  · intro c
    cases c <;> exact ⟨fun h => (by cases h), by decide, fun m h => (by cases h)⟩
  · intro k
    cases k <;> (intro q h; cases h)

theorem test_witness_StepKeepsCaptureInBuffer : queued.captureSound :=
  ⟨fun d x h => (by cases h), fun h => (by cases h), fun d r h => (by cases h), fun a _ => rfl⟩

theorem test_witness_StepKeepsEnvelopeAndFrequencyBounded : queued.synthesisBounded := by
  refine ⟨fun c => ?_, rfl, fun l c q h => ?_, fun n x h => (by cases h)⟩
  · cases c <;> exact ⟨by decide, by decide, ⟨by unfold wordInRange; decide, by decide⟩, fun q h => (by cases h),
      fun r h => (by cases h), fun r h => (by cases h), fun _ => rfl⟩
  · cases l <;> cases c <;> cases h

/-- Table 0 and overlay set 0 are named after reset, and overlay set 7 when L1's active set names it. -/
theorem test_witness_StepKeepsReferencedTablesReady_named :
    queued.tableReferenced 0 = true ∧ queued.overlayReferenced 0 = true
    ∧ (queued.setChan .L1 { queued.chans.l1 with active := { ParamSet.reset with overlay := 7 } }).overlayReferenced 7
      = true
    ∧ queued.pending.head? ≠ some (.resetNAssertion true) ∧ queued.pending.head? ≠ some (.resetNAssertion false) := by
  decide +kernel

theorem test_witness_StepKeepsReferencedTablesReady :
    queued.tablesReady ∧ ∀ i ∈ queued.pending, i.wf = true := by
  refine ⟨⟨List.Pairwise.nil, fun n q cov h => (by cases h), fun n q h => (by cases h), fun l h => ?_, fun t h => ?_⟩,
    by decide⟩
  · cases l <;> exact absurd h (by decide)
  · by_cases h0 : t = 0
    · subst h0; rfl
    · exfalso
      revert h
      simp [State.tableReferenced, State.named, State.activeHolders, State.stagedHolders, State.laneHolders,
        State.laneHolds, queued, driving, State.reset, State.resetWith, Chan.reset, ParamSet.reset, PerLane.all,
        Lane.running, Lane.reset, noChannels, anyLane, Ne.symm h0]

end Sys2Proof.Tests
end

section
/-! PROOF. What a command can do to the channels, the lanes' channel sets and snapshots, and the step store, said once:
`State.Quiet` (the channels stand), `State.Reverts` (reverts of bound channels to their snapshots, R42, R43) and
`State.CommandEffect`, which every command has (`exec_effect`). An invariant of the channels is then proved once per
constructor (`step_keeps`). -/

namespace Sys2Proof.Machine

/-! ### Lane records -/

/-- Lane record `y` is what may be left of record `x` by anything but a START: it runs only where `x` ran, over the same
channels, and it holds no snapshot that `x` did not hold. -/
def Lane.Follows (x y : Lane) : Prop :=
  (y.running = true → x.running = true ∧ y.channels = x.channels)
  ∧ ∀ (c : Channel) (q : ParamSet), y.snapshots.get c = some q → x.snapshots.get c = some q

theorem Lane.Follows.refl (x : Lane) : x.Follows x := ⟨fun h => ⟨h, rfl⟩, fun _ _ h => h⟩

theorem Lane.Follows.trans {x y z : Lane} (h : x.Follows y) (k : y.Follows z) : x.Follows z := by
  refine ⟨fun hz => ?_, fun c q hq => h.2 c q (k.2 c q hq)⟩
  obtain ⟨hy, eq⟩ := k.1 hz
  obtain ⟨hx, eq'⟩ := h.1 hy
  exact ⟨hx, eq.trans eq'⟩

/-- A channel bound by what is left of a lane was bound by the lane. -/
theorem Lane.Follows.binds {x y : Lane} (h : x.Follows y) {c : Channel} (hb : y.binds c = true) : x.binds c = true := by
  simp only [Lane.binds, Bool.and_eq_true] at hb ⊢
  obtain ⟨hx, eq⟩ := h.1 hb.1
  exact ⟨hx, eq ▸ hb.2⟩

@[simp] theorem Lane.toIdle_running (x : Lane) : x.toIdle.running = false := rfl

@[simp] theorem Lane.toIdle_snapshots (x : Lane) : x.toIdle.snapshots = PerChannel.all none := rfl

theorem Lane.follows_toIdle (x y : Lane) : x.Follows y.toIdle :=
  ⟨fun h => by simp at h, fun c q h => by simp at h⟩

/-- Lane record `y` is record `x`, which runs, at some point of its run: the program, the channels and the snapshots are
those of `x`. -/
structure Lane.SameRun (x y : Lane) : Prop where
  running : x.running = true
  channels : y.channels = x.channels
  snapshots : y.snapshots = x.snapshots
  program : y.program = x.program

theorem Lane.SameRun.follows {x y : Lane} (h : x.SameRun y) : x.Follows y :=
  ⟨fun _ => ⟨h.running, h.channels⟩, fun c q hq => by rwa [← h.snapshots]⟩

/-- A change of a lane record that leaves its state, its channels and its snapshots. -/
theorem Lane.follows_of_state {x y : Lane} (h : y.state = x.state) (hc : y.channels = x.channels)
    (hs : y.snapshots = x.snapshots) : x.Follows y :=
  ⟨fun hr => ⟨by rwa [Lane.running, h] at hr, hc⟩, fun c q hq => by rwa [← hs]⟩

/-! ### The channels stand -/

/-- The channels stand, each lane is followed by what is left of it, and the step store holds no new record. -/
structure State.Quiet (s t : State) : Prop where
  chans : t.chans = s.chans
  lanes : ∀ l : LaneId, (s.lanes.get l).Follows (t.lanes.get l)
  steps : ∀ (n : Nat) (x : StepRecord), Store.get t.steps n = some x → Store.get s.steps n = some x

theorem State.Quiet.of_eq {s t : State} (hc : t.chans = s.chans) (hl : t.lanes = s.lanes) (hs : t.steps = s.steps) :
    s.Quiet t := ⟨hc, fun _ => hl ▸ Lane.Follows.refl _, fun _ _ h => hs ▸ h⟩

theorem State.Quiet.refl (s : State) : s.Quiet s := .of_eq rfl rfl rfl

theorem State.Quiet.trans {s t u : State} (h : s.Quiet t) (k : t.Quiet u) : s.Quiet u :=
  ⟨k.chans.trans h.chans, fun l => (h.lanes l).trans (k.lanes l), fun n x e => h.steps n x (k.steps n x e)⟩

theorem State.quiet_setLane (s : State) (l : LaneId) {y : Lane} (h : (s.lanes.get l).Follows y) :
    s.Quiet (s.setLane l y) := by
  refine ⟨rfl, fun m => ?_, fun _ _ e => e⟩
  by_cases hm : m = l
  · subst hm; simpa using h
  · simpa [PerLane.get_set_ne _ _ hm] using Lane.Follows.refl _

theorem State.quiet_alertOrigin (s : State) (o : Option Port) (a : Alert) : s.Quiet (s.alertOrigin o a) := by
  cases o <;> exact .of_eq rfl rfl rfl

theorem State.quiet_goIdle (s : State) (l : LaneId) : s.Quiet (s.goIdle l) :=
  (s.quiet_setLane l (Lane.follows_toIdle _ _)).trans (State.quiet_alertOrigin _ _ _)

theorem State.quiet_holdLane (s : State) (l : LaneId) {y : Lane} (r : HoldReason) (f : HeldFrom)
    (h : (s.lanes.get l).Follows (y.toHeld r f)) : s.Quiet (s.holdLane l y r f) :=
  (s.quiet_setLane l h).trans (State.quiet_alertOrigin _ _ _)

theorem State.quiet_answer (s : State) (p : Port) (code : Nat) (r : Reply) : s.Quiet (State.answer p code (s, r)) :=
  .of_eq rfl rfl rfl

/-! ### Reverts of bound channels -/

/-- What an ending of lanes can do: bound channels are taken back to their snapshots, and the rest is quiet (R42, R43). -/
inductive State.Reverts : State → State → Prop
  | quiet {s t : State} : s.Quiet t → State.Reverts s t
  | revert {s : State} {l : LaneId} {c : Channel} {q : ParamSet} : (s.lanes.get l).binds c = true →
      (s.lanes.get l).snapshots.get c = some q → State.Reverts s (s.setChan c ((s.chans.get c).takeSet q))
  | trans {s t u : State} : State.Reverts s t → State.Reverts t u → State.Reverts s u

theorem State.Reverts.refl (s : State) : s.Reverts s := .quiet (.refl s)

theorem State.Reverts.lanes {s t : State} (h : s.Reverts t) (l : LaneId) :
    (s.lanes.get l).Follows (t.lanes.get l) := by
  induction h with
  | quiet h => exact h.lanes l
  | revert => exact Lane.Follows.refl _
  | trans _ _ ih ih' => exact ih.trans ih'

theorem State.Reverts.steps {s t : State} (h : s.Reverts t) {n : Nat} {x : StepRecord}
    (hx : Store.get t.steps n = some x) : Store.get s.steps n = some x := by
  induction h with
  | quiet h => exact h.steps n x hx
  | revert => exact hx
  | trans _ _ ih ih' => exact ih (ih' hx)

/-- A revert leaves every accumulator, link and staged set. -/
theorem State.Reverts.stand {s t : State} (h : s.Reverts t) (c : Channel) :
    (t.chans.get c).phase = (s.chans.get c).phase ∧ (t.chans.get c).link = (s.chans.get c).link
    ∧ (t.chans.get c).staged = (s.chans.get c).staged := by
  induction h with
  | quiet h => rw [h.chans]; exact ⟨rfl, rfl, rfl⟩
  | @revert s l d q =>
    by_cases hd : c = d
    · subst hd; simp [Chan.takeSet]
    · simp [PerChannel.get_set_ne _ _ hd]
  | trans _ _ ih ih' =>
    obtain ⟨hp, hl, hs⟩ := ih
    obtain ⟨hp', hl', hs'⟩ := ih'
    exact ⟨hp'.trans hp, hl'.trans hl, hs'.trans hs⟩

/-- No lane binds channel `c`. -/
def State.Unbound (s : State) (c : Channel) : Prop := ∀ l : LaneId, (s.lanes.get l).binds c = false

theorem State.Unbound.follows {s t : State} {c : Channel} (hc : s.Unbound c)
    (h : ∀ l : LaneId, (s.lanes.get l).Follows (t.lanes.get l)) : t.Unbound c := by
  intro l
  by_contra hb
  have := (h l).binds (by simpa using hb)
  rw [hc l] at this
  cases this

/-- A channel that no lane binds is not reverted. -/
theorem State.Reverts.unbound {s t : State} (h : s.Reverts t) {c : Channel} (hc : s.Unbound c) :
    t.chans.get c = s.chans.get c := by
  induction h with
  | quiet h => rw [h.chans]
  | @revert s l d q hb _ =>
    have hd : c ≠ d := by
      rintro rfl
      rw [hc l] at hb
      cases hb
    exact PerChannel.get_set_ne _ _ hd
  | trans h _ ih ih' => rw [ih' (hc.follows h.lanes), ih hc]

/-- The revert of a channel by a record of the lane that binds it. -/
theorem State.reverts_revert {s : State} {x : Lane} {l : LaneId} {c : Channel} (hb : (s.lanes.get l).binds c = true)
    (hx : x.snapshots = (s.lanes.get l).snapshots) : s.Reverts (s.revert x c) := by
  unfold State.revert
  split
  · rename_i q hq
    exact .revert hb (hx ▸ hq)
  · exact .refl s

theorem State.reverts_revertUnreverted {s : State} {x : Lane} {l : LaneId} (c : Channel)
    (hl : (s.lanes.get l).running = true) (hc : x.channels = (s.lanes.get l).channels)
    (hx : x.snapshots = (s.lanes.get l).snapshots) : s.Reverts (s.revertUnreverted x c) := by
  unfold State.revertUnreverted
  split
  · rename_i h
    rw [Bool.and_eq_true, hc] at h
    exact State.reverts_revert (by rw [Lane.binds, hl, h.1]; rfl) hx
  · exact .refl s

theorem State.reverts_endLane (r : EndReason) (s : State) (l : LaneId) : s.Reverts (s.endLane r l) := by
  by_cases h : (s.lanes.get l).running = true
  · unfold State.endLane
    dsimp only
    rw [if_pos h]
    set x := s.lanes.get l with hx
    set e := if x.state = .closing then x.ending else x.ending.close r (x.position.getD 0)
    have one : ∀ (t : State) (c : Channel), t.lanes.get l = { x with ending := e } →
        t.Reverts (t.revertUnreverted x c) ∧ (t.revertUnreverted x c).lanes.get l = { x with ending := e } :=
      fun t c ht => ⟨State.reverts_revertUnreverted c (by rw [ht]; exact h) (by rw [ht]) (by rw [ht]), by simpa using ht⟩
    have written : s.Reverts (s.setLane l { x with ending := e }) :=
      .quiet (s.quiet_setLane l (Lane.follows_of_state rfl rfl rfl))
    obtain ⟨r1, h1⟩ := one (s.setLane l { x with ending := e }) .L1 (by simp)
    obtain ⟨r2, h2⟩ := one _ .L2 h1
    obtain ⟨r3, -⟩ := one _ .L3 h2
    exact (((written.trans r1).trans r2).trans r3).trans (.quiet (State.quiet_goIdle _ l))
  · rw [State.endLane_of_idle r s l (by simpa using h)]
    exact .refl s

theorem State.reverts_endLanes (r : EndReason) (s : State) : s.Reverts (s.endLanes r) :=
  ((State.reverts_endLane r s .lane0).trans (State.reverts_endLane r _ .lane1)).trans
    (State.reverts_endLane r _ .lane2)

theorem State.reverts_takeCause (s : State) (c : Cause) (p : Option Port) : s.Reverts (s.takeCause c p) := by
  unfold State.takeCause
  split
  · unfold State.enterTripped
    have entered : s.Quiet (s.setTrip { s.trip with
        state := .tripped, causes := CauseSet.empty.add c, first := ⟨c, p⟩, outputs := PerChannel.all .parked }) :=
      .of_eq rfl rfl rfl
    have alerted : ∀ u : State, u.Quiet (u.parkFrames.alertBoth .trip) := fun u => .of_eq rfl rfl rfl
    exact ((State.Reverts.quiet entered).trans (State.reverts_endLanes _ _)).trans (.quiet (alerted _))
  · exact .quiet (.of_eq rfl rfl rfl)

theorem State.reverts_takeSource (s : State) (c : Cause) (on : Bool) : s.Reverts (s.takeSource c on) := by
  unfold State.takeSource
  split
  · split
    · exact .refl s
    · have joined : s.Quiet (s.setTrip { s.trip with active := s.trip.active.put c true }) := .of_eq rfl rfl rfl
      exact (State.Reverts.quiet joined).trans (State.reverts_takeCause _ _ _)
  · exact .quiet (.of_eq rfl rfl rfl)

/-! ### Quiet commands -/

theorem quiet_beginTable (s : State) (p : Port) (n : Nat) : s.Quiet (s.beginTable p n).1 := by
  unfold State.beginTable
  split_ifs <;> exact .of_eq rfl rfl rfl

theorem quiet_writeTableChunk (s : State) (p : Port) (n c : Nat) (e : List Int) :
    s.Quiet (s.writeTableChunk p n c e).1 := by
  unfold State.writeTableChunk
  split
  · exact .refl s
  · split
    · exact .refl s
    · exact .refl s
    · split
      · exact .refl s
      · exact .of_eq rfl rfl rfl

theorem quiet_commitTable (s : State) (p : Port) (n : Nat) : s.Quiet (s.commitTable p n).1 := by
  unfold State.commitTable
  split
  · exact .refl s
  · split
    · exact .refl s
    · exact .refl s
    · split_ifs <;> exact .of_eq rfl rfl rfl

theorem quiet_discardTable (s : State) (n : Nat) : s.Quiet (s.discardTable n).1 := by
  unfold State.discardTable
  split_ifs <;> exact .of_eq rfl rfl rfl

theorem quiet_writeOverlaySet (s : State) (n count : Nat) (slots : List OverlaySlot) :
    s.Quiet (s.writeOverlaySet n count slots).1 := by
  unfold State.writeOverlaySet
  split_ifs <;> exact .of_eq rfl rfl rfl

/-- CLEAR_STEP takes a record out of the step store. -/
theorem quiet_clearStep (s : State) (n : Nat) : s.Quiet (s.clearStep n).1 := by
  unfold State.clearStep
  split_ifs
  · exact .refl s
  · refine ⟨rfl, fun l => Lane.Follows.refl _, fun k x h => ?_⟩
    by_cases hk : k = n
    · subst hk
      exact absurd (h.symm.trans (Store.get_del_self _ _)) (by simp)
    · exact (Store.get_del_ne s.steps hk).symm.trans h
  · exact .refl s

theorem quiet_defineProgram (s : State) (n first count policy : Nat) :
    s.Quiet (s.defineProgram n first count policy).1 := by
  unfold State.defineProgram
  split
  · exact .refl s
  · split_ifs <;> exact .of_eq rfl rfl rfl

theorem quiet_undefineProgram (s : State) (n : Nat) : s.Quiet (s.undefineProgram n).1 := by
  unfold State.undefineProgram
  split_ifs <;> exact .of_eq rfl rfl rfl

/-- A lane that can be held runs. -/
theorem Lane.running_of_holdable {x : Lane} {f : HeldFrom} (h : x.state.holdable = some f) : x.running = true := by
  rw [Lane.running_iff]
  rintro e
  rw [e] at h
  cases h

theorem quiet_holdCommand (s : State) (n : Nat) : s.Quiet (s.holdCommand n).1 := by
  unfold State.holdCommand
  split
  · exact .refl s
  · split
    · rename_i f hf
      exact s.quiet_holdLane _ _ _ (Lane.SameRun.follows ⟨Lane.running_of_holdable hf, rfl, rfl, rfl⟩)
    · exact .refl s

@[simp] theorem Lane.resumed_channels (x : Lane) : x.resumed.channels = x.channels := by
  unfold Lane.resumed
  split <;> rfl

@[simp] theorem Lane.resumed_snapshots (x : Lane) : x.resumed.snapshots = x.snapshots := by
  unfold Lane.resumed
  split <;> rfl

@[simp] theorem Lane.resumed_program (x : Lane) : x.resumed.program = x.program := by
  unfold Lane.resumed
  split <;> rfl

theorem quiet_resumeCommand (s : State) (n : Nat) : s.Quiet (s.resumeCommand n).1 := by
  unfold State.resumeCommand
  split
  · exact .refl s
  · rename_i l _
    split
    · rename_i h
      have hr : (s.lanes.get l).running = true := (Lane.running_iff _).2 (by rw [h]; decide)
      exact s.quiet_setLane l (Lane.SameRun.follows ⟨hr, by simp, by simp, by simp⟩)
    · exact .refl s

theorem quiet_releaseCommand (s : State) (n : Nat) : s.Quiet (s.releaseCommand n).1 := by
  unfold State.releaseCommand
  split
  · exact .refl s
  · split
    · exact s.quiet_setLane _ (Lane.follows_of_state rfl rfl rfl)
    · exact .refl s

theorem quiet_abortCommand (s : State) (p : Port) (n : Nat) : s.Quiet (s.abortCommand p n).1 := by
  unfold State.abortCommand
  split
  · exact .refl s
  · split
    · exact .refl s
    · rename_i h
      exact s.quiet_setLane _ (Lane.SameRun.follows
        ⟨(Lane.running_iff _).2 fun e => h (Or.inl e), rfl, rfl, rfl⟩)

theorem quiet_changeKey (s : State) (key : Nat) (b : Bool) : s.Quiet (s.changeKey key b).1 := by
  unfold State.changeKey
  split
  · exact .refl s
  · rename_i k _
    cases k <;> exact .of_eq rfl rfl rfl

theorem quiet_defineDescriptor (s : State) (d : Nat) (r : RawDescriptor) : s.Quiet (s.defineDescriptor d r).1 := by
  unfold State.defineDescriptor
  split
  · exact .refl s
  · split_ifs <;> exact .of_eq rfl rfl rfl

theorem quiet_undefineDescriptor (s : State) (d : Nat) : s.Quiet (s.undefineDescriptor d).1 := by
  unfold State.undefineDescriptor
  split_ifs <;> exact .of_eq rfl rfl rfl

theorem quiet_startCapture (s : State) (p : Port) (d : Nat) : s.Quiet (s.startCapture p d).1 := by
  unfold State.startCapture
  split_ifs <;> exact .of_eq rfl rfl rfl

theorem State.quiet_setEngine (s : State) (e : Engine) : s.Quiet (s.setEngine e) := .of_eq rfl rfl rfl

theorem State.quiet_closePass (s : State) (d : Nat) (r : PassReason) : s.Quiet (s.closePass d r) := .of_eq rfl rfl rfl

theorem State.quiet_endRun (s : State) : s.Quiet s.endRun :=
  (s.quiet_setEngine _).trans (State.quiet_alertOrigin _ _ _)

theorem State.quiet_stopRun (s : State) (d : Nat) : s.Quiet (s.stopRun d) :=
  (s.quiet_closePass d .stopped).trans (State.quiet_endRun _)

theorem State.quiet_stopAny (s : State) : s.Quiet s.stopAny := by
  unfold State.stopAny
  split
  · exact s.quiet_stopRun _
  · exact .refl s

theorem quiet_stopCapture (s : State) : s.Quiet s.stopCapture.1 := by
  unfold State.stopCapture
  split
  · exact s.quiet_stopRun _
  · exact .refl s

theorem quiet_setAlertMask (s : State) (p : Port) (mask : Nat) : s.Quiet (s.setAlertMask p mask).1 := by
  unfold State.setAlertMask
  split <;> exact .of_eq rfl rfl rfl

theorem quiet_restart (s : State) : s.Quiet s.restart.1 := by
  unfold State.restart
  split_ifs <;> exact .of_eq rfl rfl rfl

theorem quiet_getLink (s : State) (link clear : Nat) : s.Quiet (s.getLink link clear).1 := by
  unfold State.getLink
  split
  · dsimp only
    split_ifs <;> exact .of_eq rfl rfl rfl
  · exact .refl s

/-- MASTER_CLEAR ends the lanes and makes the entry; the rest of it leaves the channels. -/
theorem reverts_masterClear (s : State) (p : Port) : s.Reverts (s.masterClear p).1 := by
  have entry := (State.reverts_endLanes .cleared s).trans (State.reverts_takeCause _ .masterClear (some p))
  have cleared : ∀ u : State, u.Quiet u.emptyLoading.clearLines := fun u => .of_eq rfl rfl rfl
  exact (entry.trans (.quiet (State.quiet_stopAny _))).trans (.quiet (cleared _))

/-! ### The effect of a command -/

/-- What a command can do to the channels, the lanes and the step store, up to what is quiet. -/
inductive State.CommandEffect (s : State) : State → Prop
  /-- Nothing, or the endings of lanes. -/
  | reverts {t : State} : s.Reverts t → State.CommandEffect s t
  /-- RESET_N (R184). -/
  | reset (low : Bool) : State.CommandEffect s { State.resetWith low with pending := s.pending }
  /-- A sample event (R4). -/
  | sample (o : TickOrder) : State.CommandEffect s (tick o s).st
  /-- SET_CHANNEL (R36, R37). -/
  | written {t : State} (c : Channel) (r : RawParams) : (s.writeSet c (paramSetOf r)).Quiet t → State.CommandEffect s t
  /-- GET_CHANNEL with the clear of the clip counter (R23). -/
  | clipCleared {t : State} (c : Channel) :
      (s.setChan c { s.chans.get c with clip := 0 }).Quiet t → State.CommandEffect s t
  /-- LINK_CHANNEL follow (R32). -/
  | followed {t : State} (c : Channel) (offset : Phase) : c ≠ .L1 →
      (s.setChan c ((s.chans.get c).follow s.chans.l1 offset)).Quiet t → State.CommandEffect s t
  /-- LINK_CHANNEL unlink (R33). -/
  | unlinked {t : State} (c : Channel) : c ≠ .L1 →
      (s.setChan c ((s.chans.get c).unlink s.chans.l1)).Quiet t → State.CommandEffect s t
  /-- WRITE_STEP (R62). -/
  | stepWritten {t : State} (n : Nat) (r : RawStep) (x : StepRecord) : stepOf r = some x →
      State.Quiet { s with steps := Store.put s.steps n x } t → State.CommandEffect s t
  /-- START: the new lane's snapshots are the active sets (R83, R41). -/
  | launched {t : State} (l : LaneId) (x : Lane) :
      (∀ (c : Channel) (q : ParamSet), x.snapshots.get c = some q → q = (s.chans.get c).active) →
      (s.setLane l x).Quiet t → State.CommandEffect s t

theorem State.CommandEffect.quiet {s t : State} (h : s.Quiet t) : s.CommandEffect t := .reverts (.quiet h)

/-- A response leaves the effect of its command. -/
theorem State.CommandEffect.answer {s : State} {v : State × Reply} {p : Port} {code : Nat} (h : s.Quiet v.1) :
    s.CommandEffect (State.answer p code v) := .quiet (h.trans (v.1.quiet_answer p code v.2))

theorem setChannel_effect (p : Port) (code ch : Nat) (r : RawParams) (s : State) :
    s.CommandEffect (State.answer p code (s.setChannel ch r)) := by
  unfold State.setChannel
  split
  · exact .answer (.refl s)
  · rename_i c _
    split_ifs
    · exact .answer (.refl s)
    · exact .answer (.refl s)
    · exact .written c r (State.quiet_answer _ _ _ _)
    · exact .answer (.refl s)

theorem getChannel_effect (p : Port) (code ch clear : Nat) (s : State) :
    s.CommandEffect (State.answer p code (s.getChannel ch clear)) := by
  unfold State.getChannel
  split
  · rename_i c b _ _
    cases b
    · exact .answer (.refl s)
    · exact .clipCleared c (State.quiet_answer _ p code _)
  · exact .answer (.refl s)

/-- LINK_CHANNEL changes no channel, or the record of L2 or L3 alone (R31). -/
theorem relink_cases (s : State) (ch : Nat) (change : Chan → Chan) :
    (s.relink ch change).1 = s
    ∨ ∃ c : Channel, c ≠ .L1 ∧ (s.relink ch change).1 = s.setChan c (change (s.chans.get c)) := by
  unfold State.relink
  split
  · exact .inl rfl
  · rename_i c _
    split
    · exact .inl rfl
    · rename_i hr
      refine .inr ⟨c, ?_, rfl⟩
      rintro rfl
      simp [State.linkRefusal] at hr

theorem follow_effect (p : Port) (code ch : Nat) (offset : Phase) (s : State) :
    s.CommandEffect (State.answer p code (s.relink ch fun x => x.follow s.chans.l1 offset)) := by
  obtain h | ⟨c, hc, h⟩ := relink_cases s ch fun x => x.follow s.chans.l1 offset
  · exact .answer (h.symm ▸ .refl s)
  · exact .followed c offset hc (h ▸ State.quiet_answer _ p code _)

theorem unlink_effect (p : Port) (code ch : Nat) (s : State) :
    s.CommandEffect (State.answer p code (s.relink ch fun x => x.unlink s.chans.l1)) := by
  obtain h | ⟨c, hc, h⟩ := relink_cases s ch fun x => x.unlink s.chans.l1
  · exact .answer (h.symm ▸ .refl s)
  · exact .unlinked c hc (h ▸ State.quiet_answer _ p code _)

theorem writeStep_effect (p : Port) (code n : Nat) (r : RawStep) (s : State) :
    s.CommandEffect (State.answer p code (s.writeStep n r)) := by
  unfold State.writeStep
  split
  · exact .answer (.refl s)
  · rename_i x hx
    split_ifs
    · exact .answer (.refl s)
    · exact .stepWritten n r x hx (State.quiet_answer _ p code _)
    · exact .answer (.refl s)

/-- The snapshots of an accepted START are the active sets of its channels (R41). -/
theorem State.freshLane_snapshots (s : State) (p : Port) (program : Nat) (chans : ChannelSet) (c : Channel) :
    (s.freshLane p program chans).snapshots.get c = s.snapshotOf chans c := by cases c <;> rfl

/-- The launch of a program sets the record of its lane, whose snapshots are the active sets, and alerts a hold. -/
theorem launch_effect (s : State) (p : Port) (program : Nat) (q : Program) (chans : ChannelSet) (l : LaneId)
    {t : State} (ht : (s.launch p program q chans l).Quiet t) : s.CommandEffect t := by
  have active : ∀ x : Lane, x.snapshots = (s.freshLane p program chans).snapshots →
      ∀ (c : Channel) (q : ParamSet), x.snapshots.get c = some q → q = (s.chans.get c).active := by
    intro x hx c q hq
    rw [hx, State.freshLane_snapshots, State.snapshotOf] at hq
    split_ifs at hq
    exact (Option.some.inj hq).symm
  unfold State.launch at ht
  split at ht
  · unfold State.enterBetween at ht
    dsimp only at ht
    split at ht
    · exact .launched l _ (active (Lane.toHeld _ _ _) rfl) ((State.quiet_alertOrigin _ _ _).trans ht)
    · exact .launched l _ (active { Lane.atStep _ _ _ _ with state := .aligning } rfl) ht
  · exact .quiet ht

theorem start_effect (p : Port) (code program channels : Nat) (s : State) :
    s.CommandEffect (State.answer p code (s.start p program channels)) := by
  unfold State.start
  split
  · exact .answer (.refl s)
  · split
    · split
      · exact .answer (.refl s)
      · unfold State.startOn
        split
        · exact .answer (.refl s)
        · split
          · exact .answer (.refl s)
          · split
            · exact .answer (.refl s)
            · split
              · exact .answer (.refl s)
              · exact launch_effect s p program _ _ _ (State.quiet_answer _ _ _ _)
    · exact .answer (.refl s)

theorem tickWhen_effect (e : TickEvent) (o : TickOrder) (s : State) : s.CommandEffect (tickWhen e o s) := by
  unfold tickWhen
  split
  · exact .sample o
  · exact .quiet (.refl s)

/-- A deselect takes a frame's command as its row, or changes nothing. -/
theorem takeCommand_cases (i : Instr) (s : State) : takeCommand i s = exec i s ∨ takeCommand i s = .next s := by
  cases i <;> first | exact .inl rfl | exact .inr rfl

/-- Every command but the deselect itself has an effect of the list. -/
theorem exec_effect_of_ne (i : Instr) (hi : ∀ p : Port, i ≠ .frameError p) (s : State) :
    ∃ t : State, exec i s = .next t ∧ s.CommandEffect t := by
  cases i with
  | frameError p => exact absurd rfl (hi p)
  | resetNAssertion low => exact ⟨_, rfl, .reset low⟩
  | sampleEvent o => exact ⟨_, rfl, .sample o⟩
  | levelRampEnd c o => exact ⟨_, rfl, tickWhen_effect _ o s⟩
  | frequencyRampEnd c o => exact ⟨_, rfl, tickWhen_effect _ o s⟩
  | linkLost k o => exact ⟨_, rfl, tickWhen_effect _ o s⟩
  | linkRecovered k o => exact ⟨_, rfl, tickWhen_effect _ o s⟩
  | truncated c o => exact ⟨_, rfl, tickWhen_effect _ o s⟩
  | markerPulseEnd m o => exact ⟨_, rfl, tickWhen_effect _ o s⟩
  | dwellEnd l o => exact ⟨_, rfl, tickWhen_effect _ o s⟩
  | waitMet l o => exact ⟨_, rfl, tickWhen_effect _ o s⟩
  | waitTimeout l o => exact ⟨_, rfl, tickWhen_effect _ o s⟩
  | decimationPass o => exact ⟨_, rfl, tickWhen_effect _ o s⟩
  | capturePassFull o => exact ⟨_, rfl, tickWhen_effect _ o s⟩
  | statusFrame k chars stops => exact ⟨_, rfl, .quiet (.of_eq rfl rfl rfl)⟩
  | tripNAsserted => exact ⟨_, rfl, .reverts (s.reverts_takeSource .tripN true)⟩
  | tripNReleased => exact ⟨_, rfl, .reverts (s.reverts_takeSource .tripN false)⟩
  | spiSelect p => exact ⟨_, rfl, .quiet (.of_eq rfl rfl rfl)⟩
  | spiByteCompleted p b =>
    simp only [exec, execSpiByteCompleted]
    split
    · exact ⟨_, rfl, .quiet (.of_eq rfl rfl rfl)⟩
    · exact ⟨_, rfl, .quiet (.refl s)⟩
  | nop p => exact ⟨_, rfl, .answer (.refl s)⟩
  | identify p => exact ⟨_, rfl, .answer (.refl s)⟩
  | getAlerts p => exact ⟨_, rfl, .answer (.of_eq rfl rfl rfl)⟩
  | setAlertMask p mask => exact ⟨_, rfl, .answer (quiet_setAlertMask s p mask)⟩
  | masterClear p => exact ⟨_, rfl, .reverts ((reverts_masterClear s p).trans (.quiet (State.quiet_answer _ _ _ _)))⟩
  | setChannel p ch r => exact ⟨_, rfl, setChannel_effect p _ ch r s⟩
  | getChannel p ch clear => exact ⟨_, rfl, getChannel_effect p _ ch clear s⟩
  | linkChannelFollow p ch offset => exact ⟨_, rfl, follow_effect p _ ch _ s⟩
  | linkChannelUnlink p ch => exact ⟨_, rfl, unlink_effect p _ ch s⟩
  | beginTable p n => exact ⟨_, rfl, .answer (quiet_beginTable s p n)⟩
  | writeTableChunk p n c e => exact ⟨_, rfl, .answer (quiet_writeTableChunk s p n c e)⟩
  | commitTable p n => exact ⟨_, rfl, .answer (quiet_commitTable s p n)⟩
  | discardTable p n => exact ⟨_, rfl, .answer (quiet_discardTable s n)⟩
  | readTableChunk p n c => exact ⟨_, rfl, .answer (.refl s)⟩
  | getTableState p n => exact ⟨_, rfl, .answer (.refl s)⟩
  | writeOverlaySet p n count slots => exact ⟨_, rfl, .answer (quiet_writeOverlaySet s n count slots)⟩
  | readOverlaySet p n => exact ⟨_, rfl, .answer (.refl s)⟩
  | writeStep p n r => exact ⟨_, rfl, writeStep_effect p _ n r s⟩
  | readStep p n => exact ⟨_, rfl, .answer (.refl s)⟩
  | clearStep p n => exact ⟨_, rfl, .answer (quiet_clearStep s n)⟩
  | writeProgramDefine p n first count policy =>
    exact ⟨_, rfl, .answer (quiet_defineProgram s n first count policy)⟩
  | writeProgramUndefine p n => exact ⟨_, rfl, .answer (quiet_undefineProgram s n)⟩
  | readProgram p n => exact ⟨_, rfl, .answer (.refl s)⟩
  | start p program channels => exact ⟨_, rfl, start_effect p _ program channels s⟩
  | hold p lane => exact ⟨_, rfl, .answer (quiet_holdCommand s lane)⟩
  | resume p lane => exact ⟨_, rfl, .answer (quiet_resumeCommand s lane)⟩
  | release p lane => exact ⟨_, rfl, .answer (quiet_releaseCommand s lane)⟩
  | abort p lane => exact ⟨_, rfl, .answer (quiet_abortCommand s p lane)⟩
  | getLane p lane => exact ⟨_, rfl, .answer (.refl s)⟩
  | setHoldKey p key => exact ⟨_, rfl, .answer (quiet_changeKey s key true)⟩
  | clearHoldKey p key => exact ⟨_, rfl, .answer (quiet_changeKey s key false)⟩
  | getMeasurement p ch => exact ⟨_, rfl, .answer (.refl s)⟩
  | writeDescriptorDefine p d r => exact ⟨_, rfl, .answer (quiet_defineDescriptor s d r)⟩
  | writeDescriptorUndefine p d => exact ⟨_, rfl, .answer (quiet_undefineDescriptor s d)⟩
  | readDescriptor p d => exact ⟨_, rfl, .answer (.refl s)⟩
  | startCapture p d => exact ⟨_, rfl, .answer (quiet_startCapture s p d)⟩
  | stopCapture p => exact ⟨_, rfl, .answer (quiet_stopCapture s)⟩
  | readCapture p a c => exact ⟨_, rfl, .answer (.refl s)⟩
  | getCapture p => exact ⟨_, rfl, .answer (.refl s)⟩
  | trip p =>
    exact ⟨_, rfl, .reverts ((s.reverts_takeCause .portTrip (some p)).trans (.quiet (State.quiet_answer _ _ _ _)))⟩
  | restart p => exact ⟨_, rfl, .answer (quiet_restart s)⟩
  | getTrip p => exact ⟨_, rfl, .answer (.refl s)⟩
  | getLink p link clear => exact ⟨_, rfl, .answer (quiet_getLink s link clear)⟩

/-- The deselect of a port leaves a response, or takes the frame's command. -/
theorem frameError_effect (p : Port) (s : State) : ∃ t : State, exec (.frameError p) s = .next t ∧ s.CommandEffect t := by
  simp only [exec, execFrameError]
  split
  · split
    · exact ⟨_, rfl, .quiet (.of_eq rfl rfl rfl)⟩
    · split
      · rename_i i _
        by_cases hi : ∀ q : Port, i ≠ .frameError q
        · obtain h | h := takeCommand_cases i s
          · rw [h]; exact exec_effect_of_ne i hi s
          · exact ⟨s, h, .quiet (.refl s)⟩
        · obtain ⟨q, rfl⟩ : ∃ q : Port, i = .frameError q := by simpa using hi
          exact ⟨s, rfl, .quiet (.refl s)⟩
      · exact ⟨_, rfl, .answer (.refl s)⟩
  · exact ⟨s, rfl, .quiet (.refl s)⟩

/-- Every command answers a next state and has an effect of the list. -/
theorem exec_effect (i : Instr) (s : State) : ∃ t : State, exec i s = .next t ∧ s.CommandEffect t := by
  by_cases hi : ∀ p : Port, i ≠ .frameError p
  · exact exec_effect_of_ne i hi s
  · obtain ⟨p, rfl⟩ : ∃ p : Port, i = .frameError p := by simpa using hi
    exact frameError_effect p s

/-- An invariant that does not read the queue and that every effect keeps is kept by every step. -/
theorem step_keeps {P : State → Prop} (queue : ∀ (s : State) (rest : List Instr), P s → P { s with pending := rest })
    (keeps : ∀ s t : State, P s → s.CommandEffect t → P t) {s t : State} (hs : P s) (h : step s = .next t) : P t := by
  unfold step at h
  split at h
  · cases h; exact hs
  · rename_i i rest _
    obtain ⟨u, hu, effect⟩ := exec_effect i { s with pending := rest }
    rw [hu] at h
    cases h
    exact keeps _ _ (queue s rest hs) effect

end Sys2Proof.Machine
end

section
/-! PROOF. What a lane's work at a sample event can do to the channels, said once (`laneWork_effect`): nothing, the fields
of one applied step (`Tick.applyFields`, R88), or the reverts of a CLOSING lane (R42); and what the applied fields leave
in each channel (`applyFields_chan`). -/

namespace Sys2Proof.Machine

/-! ### Quiet work -/

/-- Work of lane `l` that leaves the channels, the trip unit, the links, the other lanes and what the sample event has
noted of the channels; events may be added. -/
structure Tick.Quiet (l : LaneId) (t u : Tick) : Prop where
  st : t.st.Quiet u.st
  trip : u.st.trip = t.st.trip
  links : u.st.links = t.st.links
  others : ∀ m : LaneId, m ≠ l → u.st.lanes.get m = t.st.lanes.get m
  adv : u.adv = t.adv
  closed : u.closed = t.closed
  jump1 : u.jump1 = t.jump1
  freshLevel : u.freshLevel = t.freshLevel
  freshFreq : u.freshFreq = t.freshFreq
  events : t.events ⊆ u.events

theorem Tick.Quiet.refl (l : LaneId) (t : Tick) : t.Quiet l t :=
  ⟨.refl _, rfl, rfl, fun _ _ => rfl, rfl, rfl, rfl, rfl, rfl, fun _ h => h⟩

theorem Tick.Quiet.trans {l : LaneId} {t u v : Tick} (h : t.Quiet l u) (k : u.Quiet l v) : t.Quiet l v :=
  ⟨h.st.trans k.st, k.trip.trans h.trip, k.links.trans h.links, fun m hm => (k.others m hm).trans (h.others m hm),
    k.adv.trans h.adv, k.closed.trans h.closed, k.jump1.trans h.jump1, k.freshLevel.trans h.freshLevel,
    k.freshFreq.trans h.freshFreq, fun _ he => k.events (h.events he)⟩

/-- A quiet change of the state within the scratch record. -/
theorem Tick.quiet_withState {l : LaneId} {t : Tick} {s : State} (h : t.st.Quiet s) (ht : s.trip = t.st.trip)
    (hk : s.links = t.st.links) (ho : ∀ m : LaneId, m ≠ l → s.lanes.get m = t.st.lanes.get m) :
    t.Quiet l (t.withState s) :=
  ⟨h, ht, hk, ho, rfl, rfl, rfl, rfl, rfl, fun _ h => h⟩

theorem Tick.quiet_happens (l : LaneId) (t : Tick) (e : TickEvent) : t.Quiet l (t.happens e) :=
  ⟨.refl _, rfl, rfl, fun _ _ => rfl, rfl, rfl, rfl, rfl, rfl, fun _ h => List.mem_cons_of_mem _ h⟩

theorem Tick.quiet_setLane {l : LaneId} {t : Tick} {y : Lane} (h : (t.st.lanes.get l).Follows y) :
    t.Quiet l (t.setLane l y) :=
  Tick.quiet_withState (t.st.quiet_setLane l h) rfl rfl fun _ hm => PerLane.get_set_ne _ _ hm

theorem Tick.quiet_holdLane {l : LaneId} {t : Tick} {y : Lane} (r : HoldReason) (f : HeldFrom)
    (h : (t.st.lanes.get l).SameRun y) : t.Quiet l (t.withState (t.st.holdLane l y r f)) := by
  refine Tick.quiet_withState (t.st.quiet_holdLane l r f (Lane.SameRun.follows ⟨h.1, h.2, h.3, h.4⟩)) ?_ ?_
    fun m hm => ?_
  · unfold State.holdLane
    rw [State.alertOrigin_frame]
    rfl
  · unfold State.holdLane
    rw [State.alertOrigin_frame]
    rfl
  · unfold State.holdLane
    rw [State.lanes_alertOrigin]
    exact PerLane.get_set_ne _ _ hm

theorem Tick.quiet_goIdle (l : LaneId) (t : Tick) : t.Quiet l (t.withState (t.st.goIdle l)) := by
  refine Tick.quiet_withState (t.st.quiet_goIdle l) ?_ ?_ fun m hm => ?_
  · rw [State.goIdle_frame]
  · rw [State.goIdle_frame]
  · rw [State.lanes_goIdle]
    exact PerLane.get_set_ne _ _ hm

theorem Tick.quiet_applyMarkers (l : LaneId) (t : Tick) (step : StepRecord) : t.Quiet l (t.applyMarkers step) := by
  unfold Tick.applyMarkers
  split
  · exact .refl l t
  · exact ⟨.of_eq rfl rfl rfl, rfl, rfl, fun _ _ => rfl, rfl, rfl, rfl, rfl, rfl, fun _ h => h⟩

theorem Tick.quiet_applyCapture (l : LaneId) (t : Tick) (step : StepRecord) (x : Lane) :
    t.Quiet l (t.applyCapture step l x) := by
  unfold Tick.applyCapture
  split
  · exact ⟨.refl _, rfl, rfl, fun _ _ => rfl, rfl, rfl, rfl, rfl, rfl, fun _ h => h⟩
  · exact .refl l t

/-! ### The fields of an applied step -/

/-- The parts of a step that channel `c` of lane record `x` takes, on the channel's record (R12, R14, R88). -/
def Chan.takeParts (y : Chan) (step : StepRecord) (x : Lane) (c : Channel) : Chan :=
  let level := if (reached step x).get c then step.level else none
  let shape := if (reached step x).get c then step.shape else none
  let freq := if x.channels.get c && y.link.isNone then step.freq else none
  let y := (level.map y.applyLevel).getD y
  let y := (shape.map y.applyShape).getD y
  (freq.map y.applyFreq).getD y

/-- The jump word that a step makes channel `c` of lane record `x` take (R10, R88). -/
def StepRecord.jumpOf (step : StepRecord) (x : Lane) (c : Channel) : Phase :=
  if (reached step x).get c then (step.jump.map fun p => BitVec.ofInt 32 p.word).getD 0#32 else 0#32

/-- What of L1's jump is carried to channel `c`: all of it for a follower that has advanced (R10). -/
def Tick.carried (t : Tick) (j : Phase) (c : Channel) : Phase :=
  if c ≠ .L1 ∧ (t.st.chans.get c).link.isSome = true ∧ (t.adv.get c).isSome = true then j else 0#32

/-- The three parts of a step on the channels of its lane. -/
def Tick.applyAllParts (t : Tick) (step : StepRecord) (x : Lane) : Tick :=
  ((t.applyParts step x .L1).applyParts step x .L2).applyParts step x .L3

/-- All that an applied step changes of the channels: its parts and its phase jump (R88). -/
def Tick.applyFields (t : Tick) (step : StepRecord) (x : Lane) : Tick :=
  (t.applyAllParts step x).applyJump step x

theorem Tick.applyAllParts_chan (t : Tick) (step : StepRecord) (x : Lane) (c : Channel) :
    (t.applyAllParts step x).st.chans.get c = (t.st.chans.get c).takeParts step x c := by cases c <;> rfl

theorem Tick.applyAllParts_freshLevel (t : Tick) (step : StepRecord) (x : Lane) (c : Channel) :
    (t.applyAllParts step x).freshLevel.get c
      = (t.freshLevel.get c || ((reached step x).get c && step.level.isSome)) := by
  have one : ((if (reached step x).get c then step.level else none).isSome)
      = ((reached step x).get c && step.level.isSome) := by
    cases (reached step x).get c <;> rfl
  rw [← one]
  cases c <;> rfl

theorem Tick.applyAllParts_freshFreq (t : Tick) (step : StepRecord) (x : Lane) (c : Channel) :
    (t.applyAllParts step x).freshFreq.get c
      = (t.freshFreq.get c || (x.channels.get c && (t.st.chans.get c).link.isNone && step.freq.isSome)) := by
  have one : ((if x.channels.get c && (t.st.chans.get c).link.isNone then step.freq else none).isSome)
      = (x.channels.get c && (t.st.chans.get c).link.isNone && step.freq.isSome) := by
    cases (x.channels.get c && (t.st.chans.get c).link.isNone) <;> rfl
  rw [← one]
  cases c <;> rfl

/-! ### Phase jumps -/

/-- A channel record with its accumulator moved by `a` and the offset of a follower by `o` (R10). -/
def Chan.movedBy (y : Chan) (a o : Phase) : Chan := { y with phase := y.phase + a, link := y.link.map (· + o) }

@[simp] theorem Chan.movedBy_zero (y : Chan) : y.movedBy 0#32 0#32 = y := by
  unfold Chan.movedBy
  cases h : y.link <;> simp [← h]

@[simp] theorem Chan.movedBy_movedBy (y : Chan) (a b o p : Phase) :
    (y.movedBy a o).movedBy b p = y.movedBy (a + b) (o + p) := by
  simp [Chan.movedBy, BitVec.add_assoc, Function.comp_def]

@[simp] theorem Chan.movedBy_link_isSome (y : Chan) (a o : Phase) : (y.movedBy a o).link.isSome = y.link.isSome := by
  simp [Chan.movedBy]

theorem Chan.jump_eq_movedBy (y : Chan) (j : Phase) : y.jump j = y.movedBy j 0#32 := by
  simp [Chan.jump, Chan.movedBy]

theorem Chan.jumpOffset_jump_eq_movedBy (y : Chan) (j : Phase) : (y.jump j).jumpOffset j = y.movedBy j j := rfl

theorem Tick.carryJump_chan (t : Tick) (j : Phase) (d c : Channel) :
    (t.carryJump j d).st.chans.get c = (t.st.chans.get c).movedBy
      (if c = d ∧ (t.st.chans.get d).link.isSome = true ∧ (t.adv.get d).isSome = true then j else 0#32) 0#32 := by
  unfold Tick.carryJump
  dsimp only
  simp only [Bool.and_eq_true]
  by_cases hd : c = d
  · subst hd
    split_ifs <;> simp_all [Tick.withState, Chan.jump_eq_movedBy]
  · split_ifs <;> simp_all [Tick.withState, PerChannel.get_set_ne]

theorem Tick.carryJump_frame (t : Tick) (j : Phase) (d : Channel) :
    t.carryJump j d = { t with st := { t.st with chans := (t.carryJump j d).st.chans } } := by
  unfold Tick.carryJump
  dsimp only
  split_ifs <;> rfl

/-- A phase jump moves accumulators and offsets and notes L1's jump; nothing else changes. -/
theorem Tick.jump_frame (t : Tick) (j : Phase) (d : Channel) :
    t.jump j d = { t with
      st := { t.st with chans := (t.jump j d).st.chans }, jump1 := t.jump1 + if d = .L1 then j else 0#32 } := by
  cases d with
  | L1 =>
    unfold Tick.jump
    dsimp only
    rw [Tick.carryJump_frame, Tick.carryJump_frame]
    rfl
  | L2 => simp [Tick.jump, Tick.withState, State.setChan]
  | L3 => simp [Tick.jump, Tick.withState, State.setChan]

/-- The jump of one channel: its own accumulator and offset, and what L1's jump carries to the followers. -/
theorem Tick.jump_chan (t : Tick) (j : Phase) (d c : Channel) :
    (t.jump j d).st.chans.get c = (t.st.chans.get c).movedBy
      ((if c = d then j else 0#32) + if d = .L1 then t.carried j c else 0#32) (if c = d ∧ d ≠ .L1 then j else 0#32) := by
  cases d with
  | L1 =>
    unfold Tick.jump
    dsimp only
    rw [Tick.carryJump_chan, Tick.carryJump_frame]
    simp only [Tick.carryJump_chan]
    cases c <;> simp [Tick.carried, Tick.withState, PerChannel.get, PerChannel.set, Chan.jump_eq_movedBy]
  | L2 => cases c <;> simp [Tick.jump, Tick.withState, PerChannel.get, PerChannel.set, Chan.jumpOffset_jump_eq_movedBy]
  | L3 => cases c <;> simp [Tick.jump, Tick.withState, PerChannel.get, PerChannel.set, Chan.jumpOffset_jump_eq_movedBy]

/-- A jump taken by channel `d` when `b` holds. -/
theorem Tick.jumpIf_chan (t : Tick) (b : Bool) (j : Phase) (d c : Channel) :
    (if b then t.jump j d else t).st.chans.get c = (t.st.chans.get c).movedBy
      ((if c = d then (if b then j else 0#32) else 0#32) + if d = .L1 then t.carried (if b then j else 0#32) c else 0#32)
      (if c = d ∧ d ≠ .L1 then (if b then j else 0#32) else 0#32) := by
  cases b
  · simp [Tick.carried]
  · simpa using t.jump_chan j d c

theorem Tick.jumpIf_frame (t : Tick) (b : Bool) (j : Phase) (d : Channel) :
    (if b then t.jump j d else t) = { t with
      st := { t.st with chans := (if b then t.jump j d else t).st.chans }
      jump1 := t.jump1 + if d = .L1 then (if b then j else 0#32) else 0#32 } := by
  cases b
  · simp
  · simpa using t.jump_frame j d

theorem Tick.applyJump_frame (t : Tick) (step : StepRecord) (x : Lane) :
    t.applyJump step x = { t with
      st := { t.st with chans := (t.applyJump step x).st.chans }, jump1 := t.jump1 + step.jumpOf x .L1 } := by
  unfold Tick.applyJump
  split
  · rename_i h
    simp [StepRecord.jumpOf, h]
  · rename_i p h
    dsimp only
    rw [Tick.jumpIf_frame _ _ _ .L3, Tick.jumpIf_frame _ _ _ .L2, Tick.jumpIf_frame _ _ _ .L1]
    simp [StepRecord.jumpOf, h, PerChannel.get]

/-- The phase jump of a step: each channel that it reaches is moved, L1 without an offset, and L1's jump is carried to
the followers that have advanced (R10). -/
theorem Tick.applyJump_chan (t : Tick) (step : StepRecord) (x : Lane) (c : Channel) :
    (t.applyJump step x).st.chans.get c = (t.st.chans.get c).movedBy
      (step.jumpOf x c + t.carried (step.jumpOf x .L1) c) (if c = .L1 then 0#32 else step.jumpOf x c) := by
  unfold Tick.applyJump
  split
  · rename_i h
    simp [StepRecord.jumpOf, Tick.carried, h]
  · rename_i p h
    dsimp only
    rw [Tick.jumpIf_chan, Tick.jumpIf_chan, Tick.jumpIf_chan]
    cases c <;> simp [StepRecord.jumpOf, h, PerChannel.get, Tick.carried, BitVec.add_comm]

/-! ### The whole of the fields -/

/-- The parts of a step leave the accumulator, the link, the staged set and the clip counter. -/
theorem Chan.takeParts_frame (y : Chan) (step : StepRecord) (x : Lane) (c : Channel) :
    y.takeParts step x c = { y with
      active := (y.takeParts step x c).active, env := (y.takeParts step x c).env
      levelRamp := (y.takeParts step x c).levelRamp, freqRamp := (y.takeParts step x c).freqRamp } := by
  have level : ∀ (z : Chan) (o : Option LevelPart), (o.map z.applyLevel).getD z = { z with
      active := ((o.map z.applyLevel).getD z).active, env := ((o.map z.applyLevel).getD z).env
      levelRamp := ((o.map z.applyLevel).getD z).levelRamp } := by
    rintro z (_ | p)
    · rfl
    · simp only [Option.map_some, Option.getD_some, Chan.applyLevel]
      split_ifs <;> rfl
  have shape : ∀ (z : Chan) (o : Option ShapePart), (o.map z.applyShape).getD z = { z with
      active := ((o.map z.applyShape).getD z).active } := by
    rintro z (_ | p) <;> rfl
  have freq : ∀ (z : Chan) (o : Option FreqPart), (o.map z.applyFreq).getD z = { z with
      active := ((o.map z.applyFreq).getD z).active, freqRamp := ((o.map z.applyFreq).getD z).freqRamp } := by
    rintro z (_ | p)
    · rfl
    · simp only [Option.map_some, Option.getD_some, Chan.applyFreq]
      split_ifs <;> rfl
  unfold Chan.takeParts
  dsimp only
  rw [freq, shape, level]

@[simp] theorem Chan.takeParts_phase (y : Chan) (step : StepRecord) (x : Lane) (c : Channel) :
    (y.takeParts step x c).phase = y.phase := by rw [Chan.takeParts_frame]

@[simp] theorem Chan.takeParts_link (y : Chan) (step : StepRecord) (x : Lane) (c : Channel) :
    (y.takeParts step x c).link = y.link := by rw [Chan.takeParts_frame]

@[simp] theorem Chan.takeParts_staged (y : Chan) (step : StepRecord) (x : Lane) (c : Channel) :
    (y.takeParts step x c).staged = y.staged := by rw [Chan.takeParts_frame]

/-- A step changes the channels, L1's noted jump and the fresh marks. -/
theorem Tick.applyFields_frame (t : Tick) (step : StepRecord) (x : Lane) :
    t.applyFields step x = { t with
      st := { t.st with chans := (t.applyFields step x).st.chans }
      jump1 := t.jump1 + step.jumpOf x .L1
      freshLevel := (t.applyFields step x).freshLevel, freshFreq := (t.applyFields step x).freshFreq } := by
  unfold Tick.applyFields
  rw [Tick.applyJump_frame]
  rfl

/-- What an applied step leaves of each channel: its parts taken, its accumulator and offset moved (R88, R10). -/
theorem Tick.applyFields_chan (t : Tick) (step : StepRecord) (x : Lane) (c : Channel) :
    (t.applyFields step x).st.chans.get c = ((t.st.chans.get c).takeParts step x c).movedBy
      (step.jumpOf x c + t.carried (step.jumpOf x .L1) c) (if c = .L1 then 0#32 else step.jumpOf x c) := by
  have carried : (t.applyAllParts step x).carried (step.jumpOf x .L1) c = t.carried (step.jumpOf x .L1) c := by
    unfold Tick.carried
    rw [Tick.applyAllParts_chan, Chan.takeParts_link]
    rfl
  unfold Tick.applyFields
  rw [Tick.applyJump_chan, Tick.applyAllParts_chan, carried]

theorem Tick.applyFields_freshLevel (t : Tick) (step : StepRecord) (x : Lane) (c : Channel) :
    (t.applyFields step x).freshLevel.get c
      = (t.freshLevel.get c || ((reached step x).get c && step.level.isSome)) := by
  unfold Tick.applyFields
  rw [Tick.applyJump_frame]
  exact t.applyAllParts_freshLevel step x c

theorem Tick.applyFields_freshFreq (t : Tick) (step : StepRecord) (x : Lane) (c : Channel) :
    (t.applyFields step x).freshFreq.get c
      = (t.freshFreq.get c || (x.channels.get c && (t.st.chans.get c).link.isNone && step.freq.isSome)) := by
  unfold Tick.applyFields
  rw [Tick.applyJump_frame]
  exact t.applyAllParts_freshFreq step x c

/-- Only the channels of the lane are reached (R60, R88). -/
theorem reached_get (step : StepRecord) (x : Lane) (c : Channel) :
    (reached step x).get c = true ↔ x.channels.get c = true ∧ step.masks c := by
  unfold reached StepRecord.masks
  by_cases h : noChannels step.mask = true
  · simp [h]
  · cases c <;> simp [h, bothChannels, PerChannel.get, and_comm]

/-- A channel that is not of the lane takes no part of its step. -/
theorem Chan.takeParts_of_not_mem (y : Chan) (step : StepRecord) {x : Lane} {c : Channel}
    (h : x.channels.get c = false) : y.takeParts step x c = y := by
  have hr : (reached step x).get c = false := by
    rw [← Bool.not_eq_true, reached_get, h]
    simp
  simp [Chan.takeParts, hr, h]

theorem StepRecord.jumpOf_of_not_mem (step : StepRecord) {x : Lane} {c : Channel} (h : x.channels.get c = false) :
    step.jumpOf x c = 0#32 := by
  have hr : ¬ (reached step x).get c = true := by
    rw [reached_get, h]
    simp
  simp [StepRecord.jumpOf, hr]

/-! ### A lane's work -/

/-- Lane record `x` finishes its current step at this sample event: its duration ends and the step has no wait, or its
wait closes a measurement or counts its timeout out (R90 to R93). -/
def Tick.Finishes (t : Tick) (x : Lane) : Prop :=
  ∃ cur : StepRecord, t.st.currentStep x = some cur
    ∧ ((x.state = .dwell ∧ cur.wait = none
          ∧ ∃ d : Duration, x.dwell = some d ∧ d.count ≤ 1
            ∧ (d.unit = .cycles → t.wraps (lowest x.channels) = true))
      ∨ (x.state = .waiting ∧ ∃ w : WaitPart, cur.wait = some w
          ∧ (t.closed.get w.channel ≠ none ∨ (x.timeout = 1 ∧ t.wraps (lowest x.channels) = true))))

/-- Lane record `x` may apply `step` at this sample event: it aligns on it and the step is due, or it finishes its current
step and `step` lies in its range (R86, R87, R94, R95). -/
def Tick.Applies (t : Tick) (x : Lane) (step : StepRecord) : Prop :=
  (x.state = .aligning ∧ t.st.currentStep x = some step ∧ t.due x step = true)
  ∨ (t.Finishes x ∧ ∃ k : Nat, t.st.stepAt x k = some step)

/-- What lane `l`'s work can do to the channels. -/
inductive Tick.LaneEffect (t : Tick) (l : LaneId) : Tick → Prop
  /-- Nothing. -/
  | quiet {u : Tick} : t.Quiet l u → Tick.LaneEffect t l u
  /-- The fields of one step that the lane applies. -/
  | applied {t' u : Tick} (step : StepRecord) : t.Applies (t.st.lanes.get l) step → t.Quiet l t' →
      (t'.applyFields step (t.st.lanes.get l)).Quiet l u → Tick.LaneEffect t l u
  /-- The reverts of a CLOSING lane at the wraps of its channels. -/
  | reverted {u : Tick} (v : State) : (t.st.lanes.get l).state = .closing → t.st.Reverts v → v.trip = t.st.trip →
      v.links = t.st.links → v.lanes = t.st.lanes →
      (∀ c : Channel, t.revertsNow (t.st.lanes.get l) c = false → v.chans.get c = t.st.chans.get c) →
      (t.withState v).Quiet l u → Tick.LaneEffect t l u

/-- The application of a step of record `y`, a lane record of the same run, is its fields and quiet work. -/
theorem Tick.applyStep_quiet (t : Tick) (l : LaneId) {y : Lane} (step : StepRecord)
    (h : (t.st.lanes.get l).SameRun y) :
    (t.applyFields step (t.st.lanes.get l)).Quiet l (t.applyStep l y step) := by
  have reach : reached step y = reached step (t.st.lanes.get l) := by rw [reached, reached, h.channels]
  have parts : ∀ (u : Tick) (c : Channel), u.applyParts step y c = u.applyParts step (t.st.lanes.get l) c := by
    intro u c
    unfold Tick.applyParts
    rw [reach, h.channels]
  have jump : ∀ u : Tick, u.applyJump step y = u.applyJump step (t.st.lanes.get l) := by
    intro u
    unfold Tick.applyJump
    rw [reach]
  have fields : t.applyFields step y = t.applyFields step (t.st.lanes.get l) := by
    unfold Tick.applyFields Tick.applyAllParts
    rw [parts, parts, parts, jump]
  have same : (t.applyFields step y).st.lanes.get l = t.st.lanes.get l := by rw [Tick.applyFields_frame]
  have noted := ((t.applyFields step y).quiet_applyMarkers l step).trans (Tick.quiet_applyCapture l _ step y)
  rw [← fields]
  refine noted.trans (Tick.quiet_setLane ?_)
  have lanes : ∀ u : Tick, ((u.applyMarkers step).applyCapture step l y).st.lanes = u.st.lanes := by
    intro u
    unfold Tick.applyCapture Tick.applyMarkers
    split <;> split <;> rfl
  rw [lanes, same]
  exact Lane.SameRun.follows ⟨h.running, h.channels, h.snapshots, h.program⟩

/-- What the entry of a step and the end of a program leave: nothing of the channels changed, or the fields of one step of
the lane's range applied. -/
inductive Tick.EntryEffect (t : Tick) (l : LaneId) : Tick → Prop
  | quiet {u : Tick} : t.Quiet l u → Tick.EntryEffect t l u
  | applied {u : Tick} (k : Nat) (step : StepRecord) : t.st.stepAt (t.st.lanes.get l) k = some step →
      (t.applyFields step (t.st.lanes.get l)).Quiet l u → Tick.EntryEffect t l u

theorem Tick.enter_effect (t : Tick) (l : LaneId) {y : Lane} (pos : Nat) (push : Bool)
    (h : (t.st.lanes.get l).SameRun y) : t.EntryEffect l (t.enter l y pos push) := by
  have at_ : ∀ k : Nat, t.st.stepAt y k = t.st.stepAt (t.st.lanes.get l) k := fun k => by
    simp only [State.stepAt, State.programOf, h.program]
  have entered : ∀ step : StepRecord, (t.st.lanes.get l).SameRun (y.atStep pos push step) :=
    fun step => ⟨h.running, h.channels, h.snapshots, h.program⟩
  unfold Tick.enter
  split
  · exact .quiet (.refl l t)
  · rename_i step hs
    dsimp only
    split
    · exact .quiet (Tick.quiet_holdLane _ _ (entered step))
    · unfold Tick.align
      split
      · exact .applied pos step (at_ pos ▸ hs) (t.applyStep_quiet l step (entered step))
      · exact .quiet (Tick.quiet_setLane (Lane.SameRun.follows ⟨h.running, h.channels, h.snapshots, h.program⟩))

theorem Tick.complete_quiet (t : Tick) (l : LaneId) {y : Lane} (policy : ExitPolicy)
    (h : (t.st.lanes.get l).SameRun y) : t.Quiet l (t.complete l y policy) := by
  cases policy with
  | keep =>
    have ended : t.Quiet l (t.setLane l { y with ending := y.ending.close .completed (y.position.getD 0) }) :=
      Tick.quiet_setLane (Lane.SameRun.follows ⟨h.running, h.channels, h.snapshots, h.program⟩)
    exact ended.trans (Tick.quiet_goIdle l _)
  | restore => exact Tick.quiet_setLane (Lane.SameRun.follows ⟨h.running, h.channels, h.snapshots, h.program⟩)

theorem Tick.finish_effect (t : Tick) (l : LaneId) {y : Lane} (step : StepRecord)
    (h : (t.st.lanes.get l).SameRun y) : t.EntryEffect l (t.finish l y step) := by
  unfold Tick.finish
  split
  · rename_i back stack release pos q _ _ _
    have closed : (t.st.lanes.get l).SameRun { y with stack := stack.reverse, releasePending := release } :=
      ⟨h.running, h.channels, h.snapshots, h.program⟩
    dsimp only
    split
    · exact t.enter_effect l _ _ closed
    · split
      · exact t.enter_effect l _ _ closed
      · exact .quiet (t.complete_quiet l _ closed)
  · exact .quiet (.refl l t)

/-- A lane that finishes its step, which is an event, has the effect of the finish. -/
theorem Tick.laneEffect_of_finishes {t u : Tick} {l : LaneId} (e : TickEvent) (hf : t.Finishes (t.st.lanes.get l))
    (he : (t.happens e).EntryEffect l u) : t.LaneEffect l u := by
  cases he with
  | quiet h => exact .quiet ((t.quiet_happens l e).trans h)
  | applied k step hk h => exact .applied step (.inr ⟨hf, k, hk⟩) (t.quiet_happens l e) h

theorem Tick.align_effect (t : Tick) (l : LaneId) (step : StepRecord) (hx : (t.st.lanes.get l).state = .aligning)
    (hs : t.st.currentStep (t.st.lanes.get l) = some step) :
    t.LaneEffect l (t.align l (t.st.lanes.get l) step) := by
  have hr : (t.st.lanes.get l).running = true := (Lane.running_iff _).2 (by rw [hx]; decide)
  unfold Tick.align
  split
  · rename_i due
    exact .applied step (.inl ⟨hx, hs, due⟩) (.refl l t) (t.applyStep_quiet l step ⟨hr, rfl, rfl, rfl⟩)
  · exact .quiet (Tick.quiet_setLane (Lane.SameRun.follows ⟨hr, rfl, rfl, rfl⟩))

theorem Tick.dwellWork_effect (t : Tick) (l : LaneId) (step : StepRecord) (hx : (t.st.lanes.get l).state = .dwell)
    (hs : t.st.currentStep (t.st.lanes.get l) = some step) :
    t.LaneEffect l (t.dwellWork l (t.st.lanes.get l) step) := by
  have hr : (t.st.lanes.get l).running = true := (Lane.running_iff _).2 (by rw [hx]; decide)
  unfold Tick.dwellWork
  split
  · exact .quiet (.refl l t)
  · rename_i d hd
    dsimp only
    split_ifs with counts last
    · exact .quiet (.refl l t)
    · unfold Tick.dwellDone
      dsimp only
      split
      · refine .quiet ((t.quiet_happens l _).trans (Tick.quiet_setLane ?_))
        exact Lane.SameRun.follows ⟨hr, rfl, rfl, rfl⟩
      · rename_i hw
        refine Tick.laneEffect_of_finishes (.dwellEnd l) ⟨step, hs, .inl ⟨hx, hw, d, hd, last, fun hu => ?_⟩⟩
          (Tick.finish_effect _ l step ⟨hr, rfl, rfl, rfl⟩)
        simpa [hu] using counts
    · exact .quiet (Tick.quiet_setLane (Lane.SameRun.follows ⟨hr, rfl, rfl, rfl⟩))

theorem Tick.timeoutWork_effect (t : Tick) (l : LaneId) (step : StepRecord) (w : WaitPart) {y : Lane}
    (hx : (t.st.lanes.get l).state = .waiting) (hs : t.st.currentStep (t.st.lanes.get l) = some step)
    (hw : step.wait = some w) (h : (t.st.lanes.get l).SameRun y) (ht : y.timeout = (t.st.lanes.get l).timeout) :
    t.LaneEffect l (t.timeoutWork l y step w) := by
  unfold Tick.timeoutWork
  dsimp only
  split_ifs with counts zero
  · rw [Bool.and_eq_true, decide_eq_true_iff, ht, h.channels] at counts
    unfold Tick.timedOut
    dsimp only
    split
    · refine Tick.laneEffect_of_finishes (.waitTimeout l) ⟨step, hs, .inr ⟨hx, w, hw, .inr ⟨?_, counts.2⟩⟩⟩
        (Tick.finish_effect _ l step ⟨h.running, h.channels, h.snapshots, h.program⟩)
      have := counts.1
      omega
    · exact .quiet ((t.quiet_happens l _).trans (Tick.quiet_setLane
        (Lane.SameRun.follows ⟨h.running, h.channels, h.snapshots, h.program⟩)))
  · exact .quiet (Tick.quiet_setLane (Lane.SameRun.follows ⟨h.running, h.channels, h.snapshots, h.program⟩))
  · exact .quiet (Tick.quiet_setLane h.follows)

theorem WaitPart.closed_of_met (w : WaitPart) (n : Nat) (m : Option Measurement) (h : (w.count n m).2 = true) :
    m ≠ none := by
  rintro rfl
  cases h

theorem Tick.waitWork_effect (t : Tick) (l : LaneId) (step : StepRecord) (hx : (t.st.lanes.get l).state = .waiting)
    (hs : t.st.currentStep (t.st.lanes.get l) = some step) :
    t.LaneEffect l (t.waitWork l (t.st.lanes.get l) step) := by
  have hr : (t.st.lanes.get l).running = true := (Lane.running_iff _).2 (by rw [hx]; decide)
  unfold Tick.waitWork
  split
  · exact .quiet (.refl l t)
  · rename_i w hw
    dsimp only
    split_ifs with met
    · exact Tick.laneEffect_of_finishes (.waitMet l)
        ⟨step, hs, .inr ⟨hx, w, hw, .inl (w.closed_of_met _ _ met)⟩⟩
        (Tick.finish_effect _ l step ⟨hr, rfl, rfl, rfl⟩)
    · exact t.timeoutWork_effect l step w hx hs hw ⟨hr, rfl, rfl, rfl⟩ rfl

theorem Tick.closingWork_effect (t : Tick) (l : LaneId) (hx : (t.st.lanes.get l).state = .closing) :
    t.LaneEffect l (t.closingWork l (t.st.lanes.get l)) := by
  have hr : (t.st.lanes.get l).running = true := (Lane.running_iff _).2 (by rw [hx]; decide)
  set x := t.st.lanes.get l with hxdef
  let f (s : State) (c : Channel) : State := if t.revertsNow x c then s.revert x c else s
  have lanes : ∀ (s : State) (c : Channel),
      (f s c).lanes = s.lanes ∧ (f s c).trip = s.trip ∧ (f s c).links = s.links := by
    intro s c
    by_cases h : t.revertsNow x c = true
    · simp only [f, h, if_true]
      rw [State.revert_frame]
      exact ⟨rfl, rfl, rfl⟩
    · simp [f, h]
  have reverts : ∀ (s : State) (c : Channel), s.lanes = t.st.lanes → s.Reverts (f s c) := by
    intro s c hs
    by_cases h : t.revertsNow x c = true
    · simp only [f, h, if_true]
      refine State.reverts_revert (l := l) ?_ (by rw [hs])
      simp only [Tick.revertsNow, Bool.and_eq_true] at h
      rw [hs, Lane.binds, ← hxdef, hr, h.1.1]
      rfl
    · simp only [f, h]
      exact .refl s
  have spared : ∀ (s : State) (c d : Channel), t.revertsNow x d = false → (f s c).chans.get d = s.chans.get d := by
    intro s c d hd
    by_cases h : t.revertsNow x c = true
    · have hne : d ≠ c := fun e => by rw [e, h] at hd; cases hd
      simp only [f, h, if_true]
      exact s.revert_get_ne x hne
    · simp [f, h]
  have h1 := lanes t.st .L1
  have h2 := lanes (f t.st .L1) .L2
  have h3 := lanes (f (f t.st .L1) .L2) .L3
  have hl : (f (f (f t.st .L1) .L2) .L3).lanes = t.st.lanes := h3.1.trans (h2.1.trans h1.1)
  refine .reverted (f (f (f t.st .L1) .L2) .L3) hx
    (((reverts _ _ rfl).trans (reverts _ _ h1.1)).trans (reverts _ _ (h2.1.trans h1.1)))
    (h3.2.1.trans (h2.2.1.trans h1.2.1)) (h3.2.2.trans (h2.2.2.trans h1.2.2)) hl
    (fun c hc => (spared _ _ _ hc).trans ((spared _ _ _ hc).trans (spared _ _ _ hc))) ?_
  let g (c : Channel) : Bool := x.reverted.get c || t.revertsNow x c
  have marked : (t.withState (f (f (f t.st .L1) .L2) .L3)).Quiet l
      ((t.withState (f (f (f t.st .L1) .L2) .L3)).setLane l { x with reverted := ⟨g .L1, g .L2, g .L3⟩ }) :=
    Tick.quiet_setLane (by
      show ((f (f (f t.st .L1) .L2) .L3).lanes.get l).Follows _
      rw [hl]
      exact Lane.SameRun.follows ⟨hr, rfl, rfl, rfl⟩)
  unfold Tick.closingWork
  dsimp only
  split
  · exact marked.trans (Tick.quiet_goIdle l _)
  · exact marked

/-- Every lane's work has an effect of the list (R85). -/
theorem Tick.laneWork_effect (t : Tick) (l : LaneId) : t.LaneEffect l (t.laneWork l) := by
  unfold Tick.laneWork
  dsimp only
  split
  · rename_i hx hs
    exact t.align_effect l _ hx hs
  · rename_i hx hs
    exact t.dwellWork_effect l _ hx hs
  · rename_i hx hs
    exact t.waitWork_effect l _ hx hs
  · rename_i hx
    exact t.closingWork_effect l hx
  · exact .quiet (.refl l t)

/-- A lane that is not running does nothing. -/
theorem Tick.laneWork_of_idle (t : Tick) (l : LaneId) (h : (t.st.lanes.get l).state = .idle) : t.laneWork l = t := by
  unfold Tick.laneWork
  dsimp only
  rw [h]

end Sys2Proof.Machine
end

section
/-! PROOF. The other parts of a sample event, each said once: the verdicts, a channel's stages before and after the lanes
(`Tick.opening_spec`, `Tick.ending_spec`), the links' sources, and what follows the channels' work (`tick_tail`). -/

namespace Sys2Proof.Machine

@[simp] theorem PerChannel.set_set {α : Type} (x : PerChannel α) (c : Channel) (v w : α) :
    (x.set c v).set c w = x.set c w := by cases c <;> rfl

/-! ### The verdicts -/

/-- The verdict of a link does not read the model's mark of a waiting frame. -/
theorem Link.verdict_waiting (x : Link) (b : Bool) :
    ({ x with waiting := b } : Link).verdict = ({ x.verdict.1 with waiting := b }, x.verdict.2) := by
  unfold Link.verdict
  dsimp only
  split
  · rfl
  · simp only [Link.healthGood]
    split <;> (try split) <;> rfl
  · simp only [Link.healthMissing]
    split <;> (try split) <;> rfl

/-- One verdict changes its link's record, notes what is delivered, and may be an event. -/
theorem Tick.takeVerdict_eq (t : Tick) (k : Channel) : ∃ e : List TickEvent, t.takeVerdict k = { t with
    st := t.st.setLink k { (t.st.links.get k).verdict.1 with waiting := false }
    verdict := t.verdict.set k (t.st.links.get k).verdict.2, events := e } := by
  unfold Tick.takeVerdict
  dsimp only
  rw [Link.verdict_waiting]
  split_ifs <;> exact ⟨_, rfl⟩

/-- The scratch record after the verdicts: the links as their verdicts leave them, and what they deliver. -/
theorem Tick.verdicts_eq (s : State) : ∃ e : List TickEvent, Tick.verdicts s = { Tick.begin s with
    st := { s with links := ⟨{ s.afterVerdict .L1 with waiting := false }, { s.afterVerdict .L2 with waiting := false },
      { s.afterVerdict .L3 with waiting := false }⟩ }
    verdict := ⟨s.links.l1.verdict.2, s.links.l2.verdict.2, s.links.l3.verdict.2⟩, events := e } := by
  obtain ⟨e1, h1⟩ := (Tick.begin s).takeVerdict_eq .L1
  obtain ⟨e2, h2⟩ := ((Tick.begin s).takeVerdict .L1).takeVerdict_eq .L2
  obtain ⟨e3, h3⟩ := (((Tick.begin s).takeVerdict .L1).takeVerdict .L2).takeVerdict_eq .L3
  refine ⟨e3, ?_⟩
  unfold Tick.verdicts
  rw [h3, h2, h1]
  rfl

/-! ### A channel's stages before the lanes -/

/-- L1's value that a follower's advance is derived from: the new one once L1 has advanced (R7). -/
def Tick.leader (t : Tick) : Phase :=
  match t.adv.l1 with
  | some a => a.after
  | none => t.st.chans.l1.phase

/-- The link that channel `c` follows by; L1 follows nothing. -/
def State.followed (s : State) (c : Channel) : Option Phase := if c = .L1 then none else (s.chans.get c).link

/-- The advance that channel `c` makes next (R6, R7). -/
def Tick.nextAdvance (t : Tick) (c : Channel) : Advance :=
  match t.st.followed c with
  | none => ⟨(t.st.chans.get c).phase, (t.st.chans.get c).phase + BitVec.ofInt 32 (t.st.chans.get c).active.word⟩
  | some offset => ⟨(t.st.chans.get c).phase, t.leader + offset⟩

/-- The jump that a follower takes with its advance: L1's of this sample event (R10). -/
def Tick.lateJump (t : Tick) (c : Channel) : Phase := if (t.st.followed c).isSome then t.jump1 else 0#32

/-- The channel's record after its advance `a`: a pending staged set promoted at a wrap (R38). -/
def Chan.promoted (x : Chan) (a : Advance) : Chan :=
  match x.staged with
  | some q => if a.wraps then { x.takeSet q with staged := none } else x
  | none => x

theorem Chan.promoted_of_none {x : Chan} (h : x.staged = none) (a : Advance) : x.promoted a = x := by
  simp [Chan.promoted, h]

theorem Chan.promoted_of_not_wraps (x : Chan) {a : Advance} (h : a.wraps = false) : x.promoted a = x := by
  unfold Chan.promoted
  split <;> simp [h]

theorem Chan.promoted_of_wraps {x : Chan} {q : ParamSet} (hq : x.staged = some q) {a : Advance} (h : a.wraps = true) :
    x.promoted a = { x.takeSet q with staged := none } := by
  simp [Chan.promoted, hq, h]

/-- Without a pending staged set, or without a wrap, nothing is promoted. -/
theorem Chan.promoted_eq_self {x : Chan} {a : Advance} (h : x.staged = none ∨ a.wraps = false) : x.promoted a = x :=
  h.elim (fun e => Chan.promoted_of_none e a) fun e => x.promoted_of_not_wraps e

/-- A promotion leaves the channel, or takes its staged set. -/
theorem Chan.promoted_cases (x : Chan) (a : Advance) :
    x.promoted a = x ∨ ∃ q : ParamSet, x.staged = some q ∧ x.promoted a = { x.takeSet q with staged := none } := by
  cases hw : a.wraps with
  | false => exact .inl (x.promoted_of_not_wraps hw)
  | true =>
    cases hq : x.staged with
    | none => exact .inl (Chan.promoted_of_none hq a)
    | some q => exact .inr ⟨q, rfl, Chan.promoted_of_wraps hq hw⟩

@[simp] theorem Chan.promoted_phase (x : Chan) (a : Advance) : (x.promoted a).phase = x.phase := by
  obtain h | ⟨q, -, h⟩ := x.promoted_cases a <;> rw [h]
  rfl

@[simp] theorem Chan.promoted_link (x : Chan) (a : Advance) : (x.promoted a).link = x.link := by
  obtain h | ⟨q, -, h⟩ := x.promoted_cases a <;> rw [h]
  rfl

theorem Tick.advance_eq (t : Tick) (c : Channel) : t.advance c = { t with
    st := t.st.setChan c { t.st.chans.get c with phase := (t.nextAdvance c).after + t.lateJump c }
    adv := t.adv.set c (some (t.nextAdvance c)) } := by
  unfold Tick.advance Tick.nextAdvance Tick.lateJump State.followed Tick.leader
  dsimp only
  split
  · rename_i h
    simp [h]
  · rename_i o h
    simp only [h, Option.isSome_some, if_true] <;> rfl

/-- What stage 1, the sense work, a promotion and the unparking of channel `c` leave (R4, R6, R7, R38, R114, R149). -/
structure Tick.Opened (t : Tick) (c : Channel) (u : Tick) : Prop where
  chans : u.st.chans = t.st.chans.set c (Chan.promoted
    { t.st.chans.get c with phase := (t.nextAdvance c).after + t.lateJump c } (t.nextAdvance c))
  trip : u.st.trip = { t.st.trip with
    outputs :=
      if (t.nextAdvance c).wraps = true ∧ t.st.trip.outputs.get c = .unparking then t.st.trip.outputs.set c .driving
      else t.st.trip.outputs }
  lanes : u.st.lanes = t.st.lanes
  links : u.st.links = t.st.links
  sense : ∀ d : Channel, d ≠ c → u.st.sense.get d = t.st.sense.get d
  adv : u.adv = t.adv.set c (some (t.nextAdvance c))
  verdict : u.verdict = t.verdict
  closed : u.closed = t.closed.set c ((t.st.sense.get c).work (t.verdict.get c) (t.nextAdvance c)).2
  jump1 : u.jump1 = t.jump1
  freshLevel : u.freshLevel = t.freshLevel
  freshFreq : u.freshFreq = t.freshFreq
  events : t.events ⊆ u.events

theorem Tick.senseWork_eq (t : Tick) (c : Channel) {a : Advance} (h : t.adv.get c = some a) :
    ∃ e : List TickEvent, t.events ⊆ e ∧ t.senseWork c = { t with
      st := t.st.setSense c ((t.st.sense.get c).work (t.verdict.get c) a).1
      closed := t.closed.set c ((t.st.sense.get c).work (t.verdict.get c) a).2, events := e } := by
  unfold Tick.senseWork
  rw [h]
  dsimp only
  split_ifs
  · exact ⟨_, fun _ he => List.mem_cons_of_mem _ he, rfl⟩
  · exact ⟨_, fun _ he => he, rfl⟩

theorem PerChannel.set_get {α : Type} (x : PerChannel α) (c : Channel) : x.set c (x.get c) = x := by cases c <;> rfl

theorem State.setChan_get (s : State) (c : Channel) : s.setChan c (s.chans.get c) = s := by
  unfold State.setChan
  rw [PerChannel.set_get]

theorem Tick.promote_eq (t : Tick) (c : Channel) {a : Advance} (h : t.adv.get c = some a) :
    t.promote c = t.withState (t.st.setChan c ((t.st.chans.get c).promoted a)) := by
  have wraps : t.wraps c = a.wraps := by rw [Tick.wraps, h]; rfl
  unfold Tick.promote
  dsimp only
  split
  · rename_i q hq
    split_ifs with hw
    · rw [Chan.promoted_of_wraps hq (wraps ▸ hw)]
    · rw [Chan.promoted_of_not_wraps _ (by simpa [wraps] using hw), State.setChan_get]
      rfl
  · rename_i hq
    rw [Chan.promoted_of_none hq, State.setChan_get]
    rfl

theorem Tick.unpark_eq (t : Tick) (c : Channel) {a : Advance} (h : t.adv.get c = some a) :
    t.unpark c = t.withState (t.st.setTrip { t.st.trip with
      outputs :=
        if a.wraps = true ∧ t.st.trip.outputs.get c = .unparking then t.st.trip.outputs.set c .driving
        else t.st.trip.outputs }) := by
  unfold Tick.unpark Tick.wraps
  rw [h]
  dsimp only [Option.any]
  split_ifs <;> rfl

theorem Tick.opening_spec (t : Tick) (c : Channel) : t.Opened c (t.opening c) := by
  have adv : (t.advance c).adv.get c = some (t.nextAdvance c) := by rw [Tick.advance_eq]; simp
  obtain ⟨e, sub, hs⟩ := (t.advance c).senseWork_eq c adv
  have adv' : ((t.advance c).senseWork c).adv.get c = some (t.nextAdvance c) := by rw [hs]; exact adv
  have hp := ((t.advance c).senseWork c).promote_eq c adv'
  have adv'' : (((t.advance c).senseWork c).promote c).adv.get c = some (t.nextAdvance c) := by rw [hp]; exact adv'
  have hu := (((t.advance c).senseWork c).promote c).unpark_eq c adv''
  unfold Tick.opening
  rw [hu, hp, hs, Tick.advance_eq]
  rw [Tick.advance_eq] at sub
  exact ⟨by simp [Tick.withState], rfl, rfl, rfl, fun d hd => PerChannel.get_set_ne _ _ hd, rfl, rfl, rfl, rfl, rfl, rfl,
    sub⟩

/-! ### A channel's stages after the lanes -/

/-- The channel's record after stage 3, the marks of stage 2 given (R13, R14). -/
def Chan.rampsStepped (x : Chan) (freshLevel freshFreq : Bool) : Chan :=
  let y := if freshLevel then x else x.stepLevel
  if freshFreq then y else y.stepFreq

/-- What stages 3 to 5 of channel `c` leave: its ramps stepped, clips counted, the ends of ramps noted (R13, R14, R22). -/
structure Tick.Ended (t : Tick) (c : Channel) (u : Tick) : Prop where
  chans : ∃ n : Nat, u.st.chans = t.st.chans.set c
    { (t.st.chans.get c).rampsStepped (t.freshLevel.get c) (t.freshFreq.get c) with clip := n }
  trip : u.st.trip = t.st.trip
  lanes : u.st.lanes = t.st.lanes
  links : u.st.links = t.st.links
  adv : u.adv = t.adv
  jump1 : u.jump1 = t.jump1
  freshLevel : u.freshLevel = t.freshLevel
  freshFreq : u.freshFreq = t.freshFreq
  events : t.events ⊆ u.events
  levelEnd : t.freshLevel.get c = false → ∀ r ∈ (t.st.chans.get c).levelRamp, r.remaining ≤ 1 →
    .levelRampEnd c ∈ u.events
  freqEnd : t.freshFreq.get c = false → ∀ r ∈ (t.st.chans.get c).freqRamp, r.remaining ≤ 1 →
    .frequencyRampEnd c ∈ u.events

/-- The event of a ramp's end, if the ramp steps and this is its last step. -/
def rampEnds (steps : Bool) (r : Option Ramp) (e : TickEvent) : List TickEvent :=
  if steps && r.any (fun r => decide (r.remaining ≤ 1)) then [e] else []

theorem mem_rampEnds {r : Ramp} (h : r.remaining ≤ 1) (e : TickEvent) : e ∈ rampEnds true (some r) e := by
  simp [rampEnds, h]

theorem Tick.ramps_eq (t : Tick) (c : Channel) : t.ramps c = { t with
    st := t.st.setChan c ((t.st.chans.get c).rampsStepped (t.freshLevel.get c) (t.freshFreq.get c))
    events := rampEnds (!t.freshFreq.get c) (t.st.chans.get c).freqRamp (.frequencyRampEnd c)
      ++ (rampEnds (!t.freshLevel.get c) (t.st.chans.get c).levelRamp (.levelRampEnd c) ++ t.events) } := by
  have stepped : (if !t.freshFreq.get c then
        (if !t.freshLevel.get c then (t.st.chans.get c).stepLevel else t.st.chans.get c).stepFreq
      else if !t.freshLevel.get c then (t.st.chans.get c).stepLevel else t.st.chans.get c)
      = (t.st.chans.get c).rampsStepped (t.freshLevel.get c) (t.freshFreq.get c) := by
    cases h1 : t.freshLevel.get c <;> cases h2 : t.freshFreq.get c <;> rfl
  unfold Tick.ramps rampEnds
  dsimp only
  rw [stepped]
  split_ifs <;> rfl

/-- What one channel hands off, and its clips, leave its synthesis state. -/
theorem Tick.emit_eq (t : Tick) (c : Channel) : ∃ (n : Nat) (p : PerPort PortRecord) (h : PerChannel (Int × Bool)),
    t.emit c = { t with
      st := { t.st with chans := t.st.chans.set c { t.st.chans.get c with clip := n }, ports := p }, handed := h } := by
  have same : t.st.chans.set c { t.st.chans.get c with clip := (t.st.chans.get c).clip } = t.st.chans :=
    PerChannel.set_get _ _
  let handed := t.handed.set c (handOff (t.st.trip.outputs.get c) (clampCode (t.st.compute (t.st.chans.get c))))
  unfold Tick.emit
  dsimp only
  split
  · refine ⟨(t.st.chans.get c).clip, t.st.ports, handed, ?_⟩
    rw [same]
  · refine ⟨bump (t.st.chans.get c).clip, (t.st.countClip c).ports, handed, ?_⟩
    unfold State.countClip
    dsimp only
    split <;> rfl

theorem Tick.ending_spec (t : Tick) (c : Channel) : t.Ended c (t.ending c) := by
  obtain ⟨n, p, h, he⟩ := (t.ramps c).emit_eq c
  unfold Tick.ending
  rw [he, Tick.ramps_eq]
  refine ⟨⟨n, by simp⟩, rfl, rfl, rfl, rfl, rfl, rfl, rfl, ?_, ?_, ?_⟩
  · exact fun e he => List.mem_append_right _ (List.mem_append_right _ he)
  · intro hf r hr h1
    refine List.mem_append_right _ (List.mem_append_left _ ?_)
    rw [hf, Option.mem_def.1 hr]
    exact mem_rampEnds h1 _
  · intro hf r hr h1
    refine List.mem_append_left _ ?_
    rw [hf, Option.mem_def.1 hr]
    exact mem_rampEnds h1 _

/-! ### The links' sources -/

theorem State.reverts_takeLinks (s : State) (o : LinkOrder) : s.Reverts (s.takeLinks o) := by
  have one : ∀ (t : State) (k : Channel), t.Reverts (t.takeLink k) := fun t k =>
    (t.reverts_takeSource _ _).trans (State.reverts_takeSource _ _ _)
  exact ((one _ _).trans (one _ _)).trans (one _ _)

/-- No link holds a source active that makes an entry: the trip unit is TRIPPED, or it holds them all already. -/
def State.Settled (s : State) : Prop :=
  s.trip.state = .tripped ∨ ∀ k : Channel,
    ((s.links.get k).health = .lost → s.trip.active.loss.get k = true)
    ∧ ((s.links.get k).fault = true → s.trip.active.fault.get k = true)

/-- The trip unit alone changed, and neither its state nor an output. -/
structure State.SourcesMoved (s t : State) : Prop where
  frame : t = { s with trip := t.trip }
  state : t.trip.state = s.trip.state
  outputs : t.trip.outputs = s.trip.outputs

theorem State.SourcesMoved.trans {s t u : State} (h : s.SourcesMoved t) (k : t.SourcesMoved u) : s.SourcesMoved u := by
  refine ⟨?_, k.state.trans h.state, k.outputs.trans h.outputs⟩
  rw [k.frame, h.frame]

/-- A source that is passive, or that the trip unit holds already, or any source while TRIPPED makes no entry. -/
theorem State.takeSource_moved (s : State) (c : Cause) (on : Bool)
    (h : s.trip.state = .tripped ∨ (on = true → s.trip.active.has c = true)) : s.SourcesMoved (s.takeSource c on) := by
  unfold State.takeSource
  split_ifs with hon has
  · exact ⟨rfl, rfl, rfl⟩
  · have ht : s.trip.state = .tripped := h.resolve_right fun k => has (k hon)
    unfold State.takeCause
    rw [if_neg (by show s.trip.state ≠ .normal; rw [ht]; decide)]
    exact ⟨rfl, rfl, rfl⟩
  · exact ⟨rfl, rfl, rfl⟩

theorem PerChannel.get_set {α : Type} (x : PerChannel α) (c d : Channel) (v : α) :
    (x.set c v).get d = if d = c then v else x.get d := by
  split_ifs with h
  · rw [h, PerChannel.get_set_self]
  · exact PerChannel.get_set_ne x v h

theorem State.takeSource_loss (s : State) (k : Channel) (b : Bool) :
    (s.takeSource (.linkLoss k) b).trip.active.fault = s.trip.active.fault
    ∧ ∀ j : Channel, (s.takeSource (.linkLoss k) b).trip.active.loss.get j
        = if j = k then b else s.trip.active.loss.get j := by
  rw [State.takeSource_active]
  split_ifs with h
  · refine ⟨rfl, fun j => ?_⟩
    simp only [SourceSet.has, Bool.and_eq_true] at h
    split_ifs with hj
    · rw [hj, h.1, h.2]
    · rfl
  · exact ⟨rfl, fun j => PerChannel.get_set _ _ _ _⟩

theorem State.takeSource_fault (s : State) (k : Channel) (b : Bool) :
    (s.takeSource (.linkFault k) b).trip.active.loss = s.trip.active.loss
    ∧ ∀ j : Channel, (s.takeSource (.linkFault k) b).trip.active.fault.get j
        = if j = k then b else s.trip.active.fault.get j := by
  rw [State.takeSource_active]
  split_ifs with h
  · refine ⟨rfl, fun j => ?_⟩
    simp only [SourceSet.has, Bool.and_eq_true] at h
    split_ifs with hj
    · rw [hj, h.1, h.2]
    · rfl
  · exact ⟨rfl, fun j => PerChannel.get_set _ _ _ _⟩

/-- A link's sources taken: its loss and its fault are as its record says, the other links' as they were. -/
theorem State.takeLink_active (s : State) (k j : Channel) :
    ((s.takeLink k).trip.active.loss.get j
        = if j = k then (s.links.get k).health == .lost else s.trip.active.loss.get j)
    ∧ ((s.takeLink k).trip.active.fault.get j = if j = k then (s.links.get k).fault else s.trip.active.fault.get j) := by
  obtain ⟨hf, hl⟩ := s.takeSource_loss k ((s.links.get k).health == .lost)
  obtain ⟨hl', hf'⟩ := (s.takeSource (.linkLoss k) ((s.links.get k).health == .lost)).takeSource_fault k
    (s.links.get k).fault
  exact ⟨(congrArg (·.get j) hl').trans (hl j), (hf' j).trans (by rw [hf])⟩

/-- The sources of a link of a settled state make no entry, and leave it settled. -/
theorem State.Settled.takeLink {s : State} (h : s.Settled) (k : Channel) :
    s.SourcesMoved (s.takeLink k) ∧ (s.takeLink k).Settled := by
  have loss : s.SourcesMoved (s.takeSource (.linkLoss k) ((s.links.get k).health == .lost)) :=
    s.takeSource_moved _ _ (h.imp id fun a e => (a k).1 (by simpa using e))
  have moved : s.SourcesMoved (s.takeLink k) := loss.trans <| by
    refine State.takeSource_moved _ _ _ (h.imp (fun a => loss.state.trans a) fun a e => ?_)
    rw [SourceSet.has, (s.takeSource_loss k _).1]
    exact (a k).2 e
  have links : (s.takeLink k).links = s.links := by rw [moved.frame]
  refine ⟨moved, h.imp (fun a => moved.state.trans a) fun a j => ?_⟩
  rw [links, (s.takeLink_active k j).1, (s.takeLink_active k j).2]
  split_ifs with hj
  · subst hj
    simp
  · exact a j

/-- The sources of the links of a settled state, in any order, make no entry. -/
theorem State.Settled.takeLinks {s : State} (h : s.Settled) (o : LinkOrder) : s.SourcesMoved (s.takeLinks o) := by
  obtain ⟨m1, h1⟩ := h.takeLink (linksInOrder o).1
  obtain ⟨m2, h2⟩ := h1.takeLink (linksInOrder o).2.1
  exact (m1.trans m2).trans (h2.takeLink (linksInOrder o).2.2).1

/-! ### After the channels' work -/

/-- What the setpoint frames, the ends of pulses and the capture engine's work leave: the channels, the trip unit and the
lanes but for their capture-missed flags. -/
structure Tick.Tail (t u : Tick) : Prop where
  chans : u.st.chans = t.st.chans
  trip : u.st.trip = t.st.trip
  lanes : ∀ l : LaneId, (u.st.lanes.get l).butMissed = (t.st.lanes.get l).butMissed
  events : t.events ⊆ u.events

theorem Tick.Tail.refl (t : Tick) : t.Tail t := ⟨rfl, rfl, fun _ => rfl, fun _ h => h⟩

theorem Tick.Tail.trans {t u v : Tick} (h : t.Tail u) (k : u.Tail v) : t.Tail v :=
  ⟨k.chans.trans h.chans, k.trip.trans h.trip, fun l => (k.lanes l).trans (h.lanes l), fun _ e => k.events (h.events e)⟩

theorem Tick.tail_withState {t : Tick} {s : State} (hc : s.chans = t.st.chans) (ht : s.trip = t.st.trip)
    (hl : s.lanes = t.st.lanes) : t.Tail (t.withState s) := ⟨hc, ht, fun _ => by rw [← hl]; rfl, fun _ h => h⟩

theorem Tick.tail_happens (t : Tick) (e : TickEvent) : t.Tail (t.happens e) :=
  ⟨rfl, rfl, fun _ => rfl, fun _ h => List.mem_cons_of_mem _ h⟩

theorem Tick.tail_frames (t : Tick) (o : TickOrder) (f : Channel → Bool) : t.Tail (t.frames o f) := by
  have one : ∀ (u : Tick) (k : Channel) (b w : Bool), u.Tail (u.sendFrame k b w) := fun _ _ _ _ =>
    Tick.tail_withState rfl rfl rfl
  exact ((one _ _ _ _).trans (one _ _ _ _)).trans (one _ _ _ _)

theorem Tick.tail_endPulse (t : Tick) (m : MarkerLine) (b : Bool) : t.Tail (t.endPulse m b) := by
  unfold Tick.endPulse
  split
  · refine Tick.Tail.trans ?_ (Tick.tail_happens _ _)
    cases m <;> exact Tick.tail_withState rfl rfl rfl
  · exact .refl t

/-- An end of a pass changes the capture engine, its records and its memory, and raises an alert. -/
theorem State.endPass_frame (s : State) (d : Nat) (x : Descriptor) (r : PassReason) :
    s.endPass d x r = { s with comps := (s.endPass d x r).comps, engine := (s.endPass d x r).engine
                               ports := (s.endPass d x r).ports } := by
  have run : ∀ u : State, u.endRun = { u with engine := u.endRun.engine, ports := u.endRun.ports } := by
    intro u
    unfold State.endRun
    dsimp only
    rw [State.alertOrigin_frame]
    rfl
  unfold State.endPass State.followNext
  split
  · split
    · rfl
    · rw [run]; rfl
  · rw [run]; rfl

/-- An offer changes the capture engine, its records and its memory, and raises an alert. -/
theorem State.takeOffer_frame (s : State) (d : Nat) (x : Descriptor) (o : Offer) :
    (s.takeOffer d x o).st = { s with
      comps := (s.takeOffer d x o).st.comps, engine := (s.takeOffer d x o).st.engine
      mem := (s.takeOffer d x o).st.mem, ports := (s.takeOffer d x o).st.ports } := by
  have fill : ∀ u : State, (u.fillCheck d x).st = { u with
      comps := (u.fillCheck d x).st.comps, engine := (u.fillCheck d x).st.engine
      ports := (u.fillCheck d x).st.ports } := by
    intro u
    unfold State.fillCheck
    split
    · exact u.endPass_frame d x .full
    · rfl
  unfold State.takeOffer
  split
  · rfl
  · unfold State.passOffer
    split
    · rw [fill]; rfl
    · split
      · dsimp only
        rw [State.endPass_frame]; rfl
      · split
        · rw [fill]; rfl
        · rfl

theorem Tick.tail_offerWork (t : Tick) (b : Bool) : t.Tail (t.offerWork b) := by
  unfold Tick.offerWork
  split
  · split
    · split
      · rename_i d _ _ x _ _ o _
        have taken : t.Tail (t.withState (t.st.takeOffer d x o).st) := by
          rw [State.takeOffer_frame]
          exact Tick.tail_withState rfl rfl rfl
        dsimp only
        split_ifs
        · exact (taken.trans (Tick.tail_happens _ _)).trans (Tick.tail_happens _ _)
        · exact taken.trans (Tick.tail_happens _ _)
        · exact taken.trans (Tick.tail_happens _ _)
        · exact taken
      · exact .refl t
    · exact .refl t
  · exact .refl t

theorem Tick.tail_laneStart (t : Tick) (l : LaneId) (p : Port) (d : Nat) :
    t.Tail (t.withState (t.st.laneStart l p d)) := by
  unfold State.laneStart
  split
  · exact Tick.tail_withState rfl rfl rfl
  · refine ⟨rfl, rfl, fun m => ?_, fun _ h => h⟩
    by_cases hm : m = l
    · subst hm
      simp only [Tick.withState, State.lanes_alert, State.lanes_setLane, PerLane.get_set_self]
      rfl
    · simp only [Tick.withState, State.lanes_alert, State.lanes_setLane, PerLane.get_set_ne _ _ hm]
      rfl

theorem Tick.tail_takeStarts (t : Tick) (starts : List (LaneId × Port × Nat)) : t.Tail (t.takeStarts starts) := by
  induction starts generalizing t with
  | nil => exact .refl t
  | cons e starts ih => exact (t.tail_laneStart e.1 e.2.1 e.2.2).trans (ih _)

theorem Tick.tail_captureWork (t : Tick) (b : Bool) (n : Nat) : t.Tail (t.captureWork b n) :=
  ((t.tail_takeStarts _).trans (Tick.tail_offerWork _ b)).trans (Tick.tail_takeStarts _ _)

/-- The scratch record of a sample event after the channels' work (R4). -/
def tickChannels (o : TickOrder) (s : State) : Tick :=
  (Tick.verdicts s).channelWork o ((Tick.verdicts s).st.firstGroup o.before)

/-- What follows the channels' work in a sample event leaves the channels, the trip unit and the lanes. -/
theorem tick_tail (o : TickOrder) (s : State) : (tickChannels o s).Tail (tick o s) :=
  (((Tick.tail_frames _ _ _).trans (Tick.tail_endPulse _ _ _)).trans (Tick.tail_endPulse _ _ _)).trans
    (Tick.tail_captureWork _ _ _)

/-! ### The groups of channels -/

theorem State.mates_self (s : State) (c : Channel) : (s.mates c).get c = true := by
  unfold State.mates
  split
  · rename_i l h
    have := State.boundTo_some h
    rw [Lane.binds, Bool.and_eq_true] at this
    exact this.2
  · exact PerChannel.get_set_self _ _ _

/-- A follower whose work comes before an entry has its leader's work before it too (R103). -/
theorem State.firstGroup_leader (s : State) (mask : ChannelSet) {c : Channel} (hc : c ≠ .L1)
    (hl : (s.chans.get c).link.isSome = true) (hg : (s.firstGroup mask).get c = true) :
    (s.firstGroup mask).get .L1 = true := by
  unfold State.firstGroup at hg ⊢
  split_ifs at hg ⊢
  · have follows : s.worksFirst mask c = true → channelsWithin (s.mates .L1) mask = true := by
      intro h
      have self := s.mates_self c
      unfold State.worksFirst at h
      rw [Bool.and_eq_true] at h
      have leader := h.2
      cases c
      · exact absurd rfl hc
      · simp only [PerChannel.get] at self hl
        simpa [self, hl] using leader
      · simp only [PerChannel.get] at self hl
        simpa [self, hl] using leader
    have within := follows (by cases c <;> exact hg)
    show s.worksFirst mask .L1 = true
    simp [State.worksFirst, within]
  · rfl

/-- With no entry due every channel's work comes first. -/
theorem State.firstGroup_of_settled {s : State} (h : s.Settled) (mask : ChannelSet) :
    s.firstGroup mask = PerChannel.all true := by
  unfold State.firstGroup
  refine if_neg ?_
  rintro ⟨hn, hsrc⟩
  obtain ht | ha := h
  · rw [hn] at ht; cases ht
  · have none : ∀ k : Channel, s.newSource k = false := by
      intro k
      unfold State.newSource
      have := ha k
      cases hh : (s.links.get k).health <;> cases hf : (s.links.get k).fault <;> simp_all
    simp [none] at hsrc

/-- The state after the verdicts is settled when no entry is due. -/
theorem State.noEntryDue.settled {s : State} (h : s.noEntryDue) : (Tick.verdicts s).st.Settled := by
  obtain ⟨e, he⟩ := Tick.verdicts_eq s
  rw [he]
  exact h.imp id fun a k => by cases k <;> exact a _

end Sys2Proof.Machine
end

section
/-! PROOF. The followers of L1 stay locked (R7, R30). Within a sample event `Tick.Locked` is kept by every piece of work:
L1's accumulator is its advance and the jumps it has made, and a follower that has advanced is at L1's accumulator plus
its offset. -/

namespace Sys2Proof.Machine

/-! ### What a lane's work leaves -/

/-- What the lanes' work leaves of the scratch record: the advances, the closed measurements, the trip unit, the links,
whether a channel follows, and the lanes but for their ends. -/
structure Tick.LanesKept (t u : Tick) : Prop where
  adv : u.adv = t.adv
  closed : u.closed = t.closed
  trip : u.st.trip = t.st.trip
  lanes : ∀ l : LaneId, (t.st.lanes.get l).Follows (u.st.lanes.get l)
  links : u.st.links = t.st.links
  follows : ∀ c : Channel, (u.st.chans.get c).link.isSome = (t.st.chans.get c).link.isSome
  events : t.events ⊆ u.events

theorem Tick.LanesKept.refl (t : Tick) : t.LanesKept t :=
  ⟨rfl, rfl, rfl, fun _ => .refl _, rfl, fun _ => rfl, fun _ h => h⟩

theorem Tick.LanesKept.trans {t u v : Tick} (h : t.LanesKept u) (k : u.LanesKept v) : t.LanesKept v :=
  ⟨k.adv.trans h.adv, k.closed.trans h.closed, k.trip.trans h.trip, fun l => (h.lanes l).trans (k.lanes l),
    k.links.trans h.links, fun c => (k.follows c).trans (h.follows c), fun _ e => k.events (h.events e)⟩

theorem Tick.Quiet.kept {t u : Tick} {l : LaneId} (h : t.Quiet l u) : t.LanesKept u :=
  ⟨h.adv, h.closed, h.trip, h.st.lanes, h.links, fun c => by rw [h.st.chans], h.events⟩

theorem Tick.applyFields_kept (t : Tick) (step : StepRecord) (x : Lane) : t.LanesKept (t.applyFields step x) := by
  have links : ∀ c : Channel, ((t.applyFields step x).st.chans.get c).link.isSome = (t.st.chans.get c).link.isSome := by
    intro c
    rw [Tick.applyFields_chan]
    simp
  rw [Tick.applyFields_frame] at links ⊢
  exact ⟨rfl, rfl, rfl, fun _ => .refl _, rfl, links, fun _ h => h⟩

theorem Tick.LaneEffect.kept {t u : Tick} {l : LaneId} (h : t.LaneEffect l u) : t.LanesKept u := by
  cases h with
  | quiet h => exact h.kept
  | applied step _ h k => exact (h.kept.trans (Tick.applyFields_kept _ _ _)).trans k.kept
  | reverted v _ hr ht hk hl _ h =>
    have reverts : t.LanesKept (t.withState v) :=
      ⟨rfl, rfl, ht, fun m => by rw [Tick.withState, hl]; exact .refl _, hk,
        fun c => by rw [Tick.withState, (hr.stand c).2.1], fun _ e => e⟩
    exact reverts.trans h.kept

theorem Tick.LaneEffect.others {t u : Tick} {l : LaneId} (h : t.LaneEffect l u) {m : LaneId} (hm : m ≠ l) :
    u.st.lanes.get m = t.st.lanes.get m := by
  cases h with
  | quiet h => exact h.others m hm
  | applied step _ h k =>
    rw [k.others m hm, Tick.applyFields_frame]
    exact h.others m hm
  | reverted v _ _ _ _ hl _ h =>
    rw [h.others m hm, Tick.withState, hl]

theorem Tick.laneIn_kept (t : Tick) (g : ChannelSet) (l : LaneId) : t.LanesKept (t.laneIn g l) := by
  unfold Tick.laneIn
  split
  · exact (t.laneWork_effect l).kept
  · exact .refl t

/-! ### The three parts of the work of a group -/

/-- The work of a group before its lanes. -/
def Tick.openings (t : Tick) (g : ChannelSet) : Tick := t.forChannels g Tick.opening

/-- The work of the lanes over a group. -/
def Tick.lanesIn (t : Tick) (g : ChannelSet) : Tick := ((t.laneIn g .lane0).laneIn g .lane1).laneIn g .lane2

/-- The work of a group after its lanes. -/
def Tick.endings (t : Tick) (g : ChannelSet) : Tick := t.forChannels g Tick.ending

theorem Tick.work_eq (t : Tick) (g : ChannelSet) : t.work g = ((t.openings g).lanesIn g).endings g := rfl

theorem Tick.lanesIn_kept (t : Tick) (g : ChannelSet) : t.LanesKept (t.lanesIn g) :=
  ((t.laneIn_kept g .lane0).trans (Tick.laneIn_kept _ g .lane1)).trans (Tick.laneIn_kept _ g .lane2)

/-- A property that each lane's work over a group keeps is kept by the lanes' work. -/
theorem Tick.lanesIn_keeps {P : Tick → Prop} {g : ChannelSet}
    (lane : ∀ (u : Tick) (l : LaneId), P u → g.get (lowest (u.st.lanes.get l).channels) = true → P (u.laneWork l))
    {t : Tick} (h : P t) : P (t.lanesIn g) := by
  have one : ∀ (u : Tick) (l : LaneId), P u → P (u.laneIn g l) := by
    intro u l hu
    unfold Tick.laneIn
    split
    · rename_i hg
      exact lane u l hu hg
    · exact hu
  exact one _ _ (one _ _ (one _ _ h))

/-- A property that a piece of work keeps for every channel of a group is kept by it for the group. -/
theorem Tick.forChannels_keeps {P : Tick → Prop} {g : ChannelSet} {work : Tick → Channel → Tick}
    (one : ∀ (u : Tick) (c : Channel), g.get c = true → P u → P (work u c)) {t : Tick} (h : P t) :
    P (t.forChannels g work) := by
  have step : ∀ (u : Tick) (c : Channel), P u → P (u.when g work c) := by
    intro u c hu
    unfold Tick.when
    split
    · rename_i hg
      exact one u c hg hu
    · exact hu
  exact step _ _ (step _ _ (step _ _ h))

/-! ### The advances of a group -/

/-- Exactly the channels of the group have advanced since `t`. -/
def Tick.AdvancedBy (t u : Tick) (g : ChannelSet) : Prop :=
  ∀ c : Channel, (g.get c = true → u.adv.get c ≠ none) ∧ (g.get c = false → u.adv.get c = t.adv.get c)

theorem Tick.when_opening_adv (t : Tick) (g : ChannelSet) (c d : Channel) :
    (t.when g Tick.opening c).adv.get d
      = if d = c ∧ g.get c = true then some (t.nextAdvance c) else t.adv.get d := by
  unfold Tick.when
  split_ifs with hg hd hd
  · rw [(t.opening_spec c).adv, hd.1, PerChannel.get_set_self]
  · rw [(t.opening_spec c).adv, PerChannel.get_set_ne _ _ fun e => hd ⟨e, hg⟩]
  · exact absurd hd.2 hg
  · rfl

theorem Tick.openings_advanced (t : Tick) (g : ChannelSet) : t.AdvancedBy (t.openings g) g := by
  intro c
  unfold Tick.openings Tick.forChannels
  simp only [Tick.when_opening_adv]
  cases c <;> constructor <;> intro hg <;> simp [hg]

theorem Tick.endings_adv (t : Tick) (g : ChannelSet) : (t.endings g).adv = t.adv :=
  Tick.forChannels_keeps (P := fun u => u.adv = t.adv) (fun u c _ h => (u.ending_spec c).adv.trans h) rfl

theorem Tick.work_advanced (t : Tick) (g : ChannelSet) : t.AdvancedBy (t.work g) g := by
  intro c
  rw [Tick.work_eq, Tick.endings_adv, (Tick.lanesIn_kept _ g).adv]
  exact t.openings_advanced g c

/-! ### The lock within a sample event -/

/-- L1 is unlinked; once it has advanced its accumulator is its advance and its jumps; and a follower that has advanced is
at L1's accumulator plus its offset, L1 having advanced before it (R7, R10). -/
structure Tick.Locked (t : Tick) : Prop where
  unlinked : (t.st.chans.get .L1).link = none
  before : t.adv.get .L1 = none → t.jump1 = 0#32
  leader : ∀ a : Advance, t.adv.get .L1 = some a → (t.st.chans.get .L1).phase = a.after + t.jump1
  follower : ∀ c : Channel, c ≠ .L1 → t.adv.get c ≠ none → ∀ offset : Phase, (t.st.chans.get c).link = some offset →
    t.adv.get .L1 ≠ none ∧ (t.st.chans.get c).phase = (t.st.chans.get .L1).phase + offset

/-- The lock reads the accumulators, the links, the advances and L1's jump. -/
theorem Tick.Locked.of_stand {t u : Tick} (h : t.Locked)
    (hc : ∀ c : Channel, (u.st.chans.get c).phase = (t.st.chans.get c).phase
      ∧ (u.st.chans.get c).link = (t.st.chans.get c).link)
    (ha : u.adv = t.adv) (hj : u.jump1 = t.jump1) : u.Locked where
  unlinked := (hc .L1).2.trans h.unlinked
  before := by rw [ha, hj]; exact h.before
  leader := by rw [ha, hj, (hc .L1).1]; exact h.leader
  follower c hne := by rw [ha, (hc c).1, (hc c).2, (hc .L1).1]; exact h.follower c hne

theorem Tick.Quiet.locked {t u : Tick} {l : LaneId} (q : t.Quiet l u) (h : t.Locked) : u.Locked :=
  h.of_stand (fun c => by rw [q.st.chans]; exact ⟨rfl, rfl⟩) q.adv q.jump1

/-- The advance of L1, its first of the sample event, or of another channel, after L1's when it follows. -/
theorem Tick.Locked.opening {t : Tick} (h : t.Locked) (c : Channel) (first : c = .L1 → t.adv.get .L1 = none)
    (after : c ≠ .L1 → (t.st.chans.get c).link.isSome = true → t.adv.get .L1 ≠ none) : (t.opening c).Locked := by
  have spec := t.opening_spec c
  have chan : ∀ d : Channel, d ≠ c → (t.opening c).st.chans.get d = t.st.chans.get d := fun d hd => by
    rw [spec.chans, PerChannel.get_set_ne _ _ hd]
  have phase : ((t.opening c).st.chans.get c).phase = (t.nextAdvance c).after + t.lateJump c := by
    rw [spec.chans]; simp
  have link : ((t.opening c).st.chans.get c).link = (t.st.chans.get c).link := by rw [spec.chans]; simp
  have links : ∀ d : Channel, ((t.opening c).st.chans.get d).link = (t.st.chans.get d).link := fun d => by
    by_cases hd : d = c
    · rw [hd, link]
    · rw [chan d hd]
  by_cases hc : c = .L1
  · subst hc
    have none1 := first rfl
    refine ⟨(links _).trans h.unlinked, fun e => ?_, fun a e => ?_, fun d hd e offset ho => ?_⟩
    · rw [spec.adv] at e; simp at e
    · rw [spec.adv, PerChannel.get_set_self] at e
      obtain rfl := Option.some.inj e
      rw [phase, spec.jump1]
      simp [Tick.lateJump, State.followed, h.before none1]
    · rw [spec.adv, PerChannel.get_set_ne _ _ hd] at e
      rw [links] at ho
      exact absurd none1 (h.follower d hd e offset ho).1
  · have l1 : (t.opening c).st.chans.get .L1 = t.st.chans.get .L1 := chan _ (Ne.symm hc)
    have adv1 : (t.opening c).adv.get .L1 = t.adv.get .L1 := by
      rw [spec.adv, PerChannel.get_set_ne _ _ (Ne.symm hc)]
    refine ⟨by rw [l1]; exact h.unlinked, by rw [adv1, spec.jump1]; exact h.before,
      by rw [adv1, spec.jump1, l1]; exact h.leader, fun d hd e offset ho => ?_⟩
    rw [adv1, l1]
    by_cases hdc : d = c
    · subst hdc
      rw [links] at ho
      have adv := after hc (by rw [ho]; rfl)
      refine ⟨adv, ?_⟩
      obtain ⟨a, ha⟩ := Option.ne_none_iff_exists'.1 adv
      have followed : t.st.followed d = some offset := by simp [State.followed, hd, ho]
      have leader : t.leader = a.after := by
        rw [Tick.leader, show t.adv.l1 = some a from ha]
      rw [phase, h.leader a ha, Tick.nextAdvance, Tick.lateJump, followed]
      simp only [leader, Option.isSome_some, if_true]
      ac_rfl
    · rw [spec.adv, PerChannel.get_set_ne _ _ hdc] at e
      rw [chan d hdc] at ho ⊢
      exact h.follower d hd e offset ho

/-- The fields of a step keep the lock, L1 having advanced when the step's lane holds it. -/
theorem Tick.Locked.applyFields {t : Tick} (h : t.Locked) (step : StepRecord) (x : Lane)
    (h1 : x.channels.get .L1 = true → t.adv.get .L1 ≠ none) : (t.applyFields step x).Locked := by
  have adv : (t.applyFields step x).adv = t.adv := (t.applyFields_kept step x).adv
  have jump1 : (t.applyFields step x).jump1 = t.jump1 + step.jumpOf x .L1 := by rw [Tick.applyFields_frame]
  have phase : ∀ c : Channel, ((t.applyFields step x).st.chans.get c).phase
      = (t.st.chans.get c).phase + (step.jumpOf x c + t.carried (step.jumpOf x .L1) c) := fun c => by
    rw [Tick.applyFields_chan]; simp [Chan.movedBy]
  have link : ∀ c : Channel, ((t.applyFields step x).st.chans.get c).link
      = (t.st.chans.get c).link.map (· + if c = .L1 then 0#32 else step.jumpOf x c) := fun c => by
    rw [Tick.applyFields_chan]; simp [Chan.movedBy]
  have zero : t.adv.get .L1 = none → step.jumpOf x .L1 = 0#32 := fun e =>
    step.jumpOf_of_not_mem (by simpa [e] using h1)
  have carried1 : t.carried (step.jumpOf x .L1) .L1 = 0#32 := by simp [Tick.carried]
  refine ⟨by simp [link, h.unlinked], fun e => ?_, fun a e => ?_, fun c hc e offset ho => ?_⟩
  · rw [adv] at e
    simp [jump1, h.before e, zero e]
  · rw [adv] at e
    rw [phase, carried1, jump1, h.leader a e]
    simp [BitVec.add_assoc]
  · rw [adv] at e ⊢
    rw [link, if_neg hc, Option.map_eq_some_iff] at ho
    obtain ⟨o, ho, rfl⟩ := ho
    obtain ⟨some1, locked⟩ := h.follower c hc e o ho
    have carried : t.carried (step.jumpOf x .L1) c = step.jumpOf x .L1 := by
      unfold Tick.carried
      rw [if_pos ⟨hc, by rw [ho]; rfl, Option.isSome_iff_ne_none.2 e⟩]
    refine ⟨some1, ?_⟩
    rw [phase, phase, carried1, carried, locked]
    simp only [BitVec.add_zero]
    ac_rfl

theorem lowest_of_l1 {s : ChannelSet} (h : s.get .L1 = true) : lowest s = .L1 := by
  unfold lowest
  exact if_pos h

/-- A lane's work keeps the lock, L1 having advanced when the lane works with L1's group. -/
theorem Tick.Locked.laneWork {t : Tick} (h : t.Locked) (l : LaneId)
    (h1 : lowest (t.st.lanes.get l).channels = .L1 → t.adv.get .L1 ≠ none) : (t.laneWork l).Locked := by
  cases t.laneWork_effect l with
  | quiet q => exact q.locked h
  | applied step _ q q' =>
    refine q'.locked ((q.locked h).applyFields step _ fun hc => ?_)
    rw [q.adv]
    exact h1 (lowest_of_l1 hc)
  | reverted v _ hr _ _ _ _ q =>
    exact q.locked (h.of_stand (u := t.withState v) (fun c => ⟨(hr.stand c).1, (hr.stand c).2.1⟩) rfl rfl)

theorem Chan.stepLevel_frame (x : Chan) :
    x.stepLevel = { x with env := x.stepLevel.env, levelRamp := x.stepLevel.levelRamp } := by
  unfold Chan.stepLevel
  split <;> rfl

theorem Chan.stepFreq_frame (x : Chan) : x.stepFreq = { x with
    active := { x.active with word := x.stepFreq.active.word }, freqRamp := x.stepFreq.freqRamp } := by
  unfold Chan.stepFreq
  split <;> rfl

/-- The ramps move the envelope and the frequency word. -/
theorem Chan.rampsStepped_frame (x : Chan) (a b : Bool) : x.rampsStepped a b = { x with
    active := { x.active with word := (x.rampsStepped a b).active.word }
    env := (x.rampsStepped a b).env, levelRamp := (x.rampsStepped a b).levelRamp
    freqRamp := (x.rampsStepped a b).freqRamp } := by
  unfold Chan.rampsStepped
  cases a <;> cases b <;> simp only [Bool.false_eq_true, if_true, if_false]
  · rw [Chan.stepFreq_frame, Chan.stepLevel_frame]
  · rw [Chan.stepLevel_frame]
  · rw [Chan.stepFreq_frame]

theorem Tick.Ended.stand {t u : Tick} {c : Channel} (h : t.Ended c u) (d : Channel) :
    (u.st.chans.get d).phase = (t.st.chans.get d).phase ∧ (u.st.chans.get d).link = (t.st.chans.get d).link := by
  obtain ⟨n, hn⟩ := h.chans
  rw [hn, PerChannel.get_set]
  split_ifs with hd
  · rw [hd, Chan.rampsStepped_frame]
    exact ⟨rfl, rfl⟩
  · exact ⟨rfl, rfl⟩

theorem Tick.Locked.endings {t : Tick} (h : t.Locked) (g : ChannelSet) : (t.endings g).Locked :=
  Tick.forChannels_keeps (fun u c _ hu => hu.of_stand (u.ending_spec c).stand (u.ending_spec c).adv
    (u.ending_spec c).jump1) h

theorem Tick.Opened.link_eq {t u : Tick} {c : Channel} (h : t.Opened c u) (d : Channel) :
    (u.st.chans.get d).link = (t.st.chans.get d).link := by
  rw [h.chans, PerChannel.get_set]
  split_ifs with hd
  · rw [hd]; simp
  · rfl

/-- The openings of a group keep the lock: L1 has not advanced when it is of the group, and is of it or has advanced when
a follower is. -/
theorem Tick.Locked.openings {t : Tick} (h : t.Locked) (g : ChannelSet)
    (first : g.get .L1 = true → t.adv.get .L1 = none)
    (after : ∀ c : Channel, c ≠ .L1 → g.get c = true → (t.st.chans.get c).link.isSome = true →
      g.get .L1 = true ∨ t.adv.get .L1 ≠ none) : (t.openings g).Locked := by
  have leads : ∀ (u : Tick) (c : Channel), c ≠ .L1 → u.Locked →
      (g.get c = true → (u.st.chans.get c).link.isSome = true → u.adv.get .L1 ≠ none) →
      (u.when g Tick.opening c).Locked := by
    intro u c hc hu ha
    unfold Tick.when
    split
    · rename_i hg
      exact hu.opening c (fun e => absurd e hc) fun _ hl => ha hg hl
    · exact hu
  have links : ∀ (u : Tick) (c d : Channel),
      ((u.when g Tick.opening c).st.chans.get d).link = (u.st.chans.get d).link := by
    intro u c d
    unfold Tick.when
    split
    · exact (u.opening_spec c).link_eq d
    · rfl
  have l1 : (t.when g Tick.opening .L1).Locked := by
    unfold Tick.when
    split
    · rename_i hg
      exact h.opening .L1 (fun _ => first hg) fun e => absurd rfl e
    · exact h
  have adv1 : ∀ c : Channel, c ≠ .L1 → g.get c = true → (t.st.chans.get c).link.isSome = true →
      (t.when g Tick.opening .L1).adv.get .L1 ≠ none := by
    intro c hc hg hl
    rw [Tick.when_opening_adv]
    obtain h1 | h1 := after c hc hg hl
    · simp [h1]
    · split_ifs
      · simp
      · exact h1
  refine leads _ _ (by decide) (leads _ _ (by decide) l1 fun hg hl => ?_) fun hg hl => ?_
  · exact adv1 .L2 (by decide) hg (by rwa [links] at hl)
  · rw [Tick.when_opening_adv, if_neg (by simp)]
    exact adv1 .L3 (by decide) hg (by rwa [links, links] at hl)

theorem Tick.Locked.work {t : Tick} (h : t.Locked) (g : ChannelSet)
    (first : g.get .L1 = true → t.adv.get .L1 = none)
    (after : ∀ c : Channel, c ≠ .L1 → g.get c = true → (t.st.chans.get c).link.isSome = true →
      g.get .L1 = true ∨ t.adv.get .L1 ≠ none) : (t.work g).Locked := by
  rw [Tick.work_eq]
  refine Tick.Locked.endings ?_ g
  have opened : (t.openings g).Locked ∧ (g.get .L1 = true → (t.openings g).adv.get .L1 ≠ none) := by
    exact ⟨h.openings g first after, (t.openings_advanced g .L1).1⟩
  refine (Tick.lanesIn_keeps (P := fun u => u.Locked ∧ (g.get .L1 = true → u.adv.get .L1 ≠ none))
    (fun u l hu hg => ⟨hu.1.laneWork l fun e => hu.2 (e ▸ hg), fun e => ?_⟩) opened).1
  rw [(u.laneWork_effect l).kept.adv]
  exact hu.2 e

@[simp] theorem otherChannels_get (g : ChannelSet) (c : Channel) : (otherChannels g).get c = !g.get c := by
  cases c <;> rfl

/-- The channels' work in two groups keeps the lock, the leader of a follower of the first group being of it; and every
channel has advanced. -/
theorem Tick.Locked.channelWork {t : Tick} (h : t.Locked) (o : TickOrder) {g : ChannelSet}
    (fresh : ∀ c : Channel, t.adv.get c = none)
    (leader : ∀ c : Channel, c ≠ .L1 → (t.st.chans.get c).link.isSome = true → g.get c = true → g.get .L1 = true) :
    (t.channelWork o g).Locked ∧ ∀ c : Channel, (t.channelWork o g).adv.get c ≠ none := by
  have first : (t.work g).Locked := h.work g (fun _ => fresh _) fun c hc hg hl => .inl (leader c hc hl hg)
  have adv1 := t.work_advanced g
  have reverts := (t.work g).st.reverts_takeLinks o.sources
  set u := (t.work g).withState ((t.work g).st.takeLinks o.sources) with hu
  have taken : u.Locked := first.of_stand (fun c => ⟨(reverts.stand c).1, (reverts.stand c).2.1⟩) rfl rfl
  have adv2 := u.work_advanced (otherChannels g)
  have eq : t.channelWork o g = u.work (otherChannels g) := rfl
  rw [eq]
  refine ⟨taken.work _ (fun hg => ?_) fun c _ _ _ => ?_, fun c => ?_⟩
  · exact ((adv1 .L1).2 (by simpa using hg)).trans (fresh _)
  · cases hg1 : g.get .L1 with
    | false => exact .inl (by simp [hg1])
    | true => exact .inr ((adv1 .L1).1 hg1)
  · cases hg : g.get c with
    | false => exact (adv2 c).1 (by simp [hg])
    | true =>
      rw [(adv2 c).2 (by simp [hg])]
      exact (adv1 c).1 hg

/-- The channels' work of a sample event keeps the lock, and every channel has advanced. -/
theorem tickChannels_locked (o : TickOrder) {s : State} (h : s.phaseLocked) :
    (tickChannels o s).Locked ∧ ∀ c : Channel, (tickChannels o s).adv.get c ≠ none := by
  obtain ⟨e, he⟩ := Tick.verdicts_eq s
  have chans : (Tick.verdicts s).st.chans = s.chans := by rw [he]
  have noAdv : ∀ c : Channel, (Tick.verdicts s).adv.get c = none := fun c => by rw [he]; exact PerChannel.get_all c _
  have start : (Tick.verdicts s).Locked := by
    refine ⟨by rw [chans]; exact h.1, fun _ => by rw [he]; rfl, fun a ha => ?_, fun c _ hc => absurd (noAdv c) hc⟩
    rw [noAdv] at ha
    cases ha
  exact start.channelWork o noAdv fun c hc hl hg => (Tick.verdicts s).st.firstGroup_leader o.before hc hl hg

/-- The lock once every channel has advanced is the lock between sample events. -/
theorem Tick.Locked.phaseLocked {t : Tick} (h : t.Locked) (adv : ∀ c : Channel, t.adv.get c ≠ none) :
    t.st.phaseLocked :=
  ⟨h.unlinked, fun offset ho => (h.follower .L2 (by decide) (adv _) offset ho).2,
    fun offset ho => (h.follower .L3 (by decide) (adv _) offset ho).2⟩

/-- The lock between sample events reads the accumulators and the links. -/
theorem State.phaseLocked_of_stand {s t : State} (h : s.phaseLocked)
    (hc : ∀ c : Channel, (t.chans.get c).phase = (s.chans.get c).phase
      ∧ (t.chans.get c).link = (s.chans.get c).link) : t.phaseLocked := by
  have h1 := hc .L1
  have h2 := hc .L2
  have h3 := hc .L3
  simp only [PerChannel.get] at h1 h2 h3
  unfold State.phaseLocked
  rw [h1.1, h1.2, h2.1, h2.2, h3.1, h3.2]
  exact h

/-- A sample event keeps the followers locked. -/
theorem tick_phaseLocked (o : TickOrder) {s : State} (h : s.phaseLocked) : (tick o s).st.phaseLocked := by
  obtain ⟨locked, adv⟩ := tickChannels_locked o h
  exact State.phaseLocked_of_stand (locked.phaseLocked adv) fun c => by rw [(tick_tail o s).chans]; exact ⟨rfl, rfl⟩

/-! ### Every command -/

/-- The lock with the record of L2 or L3 replaced by one that is locked. -/
theorem State.phaseLocked_setChan {s t : State} (h : s.phaseLocked) {c : Channel} (hc : c ≠ .L1) {x : Chan}
    (hx : ∀ offset ∈ x.link, x.phase = s.chans.l1.phase + offset) (ht : (s.setChan c x).Quiet t) : t.phaseLocked := by
  obtain ⟨h1, h2, h3⟩ := h
  unfold State.phaseLocked
  rw [ht.chans]
  cases c with
  | L1 => exact absurd rfl hc
  | L2 => exact ⟨h1, hx, h3⟩
  | L3 => exact ⟨h1, h2, hx⟩

/-- A replaced record that keeps the accumulator and the link keeps the lock. -/
theorem State.stand_setChan {s t : State} {c : Channel} {x : Chan} (ht : (s.setChan c x).Quiet t)
    (hp : x.phase = (s.chans.get c).phase) (hl : x.link = (s.chans.get c).link) (d : Channel) :
    (t.chans.get d).phase = (s.chans.get d).phase ∧ (t.chans.get d).link = (s.chans.get d).link := by
  rw [ht.chans, State.chans_setChan, PerChannel.get_set]
  split_ifs with hd
  · rw [hd]; exact ⟨hp, hl⟩
  · exact ⟨rfl, rfl⟩

theorem State.reset_phaseLocked (low : Bool) : (State.resetWith low).phaseLocked := by
  refine ⟨rfl, fun offset h => ?_, fun offset h => ?_⟩ <;>
    · obtain rfl := Option.some.inj h
      exact (BitVec.zero_add _).symm

theorem Chan.unlink_link (x y : Chan) : (x.unlink y).link = none := by
  unfold Chan.unlink
  split
  · rfl
  · assumption

theorem State.CommandEffect.phaseLocked {s t : State} (e : s.CommandEffect t) (h : s.phaseLocked) : t.phaseLocked := by
  cases e with
  | reverts r => exact State.phaseLocked_of_stand h fun c => ⟨(r.stand c).1, (r.stand c).2.1⟩
  | reset low => exact State.reset_phaseLocked low
  | sample o => exact tick_phaseLocked o h
  | written c r q =>
    refine State.phaseLocked_of_stand h ?_
    unfold State.writeSet at q
    dsimp only at q
    split at q
    · exact State.stand_setChan q rfl rfl
    · exact State.stand_setChan q rfl rfl
  | clipCleared c q => exact State.phaseLocked_of_stand h (State.stand_setChan q rfl rfl)
  | followed c offset hc q =>
    refine State.phaseLocked_setChan h hc (fun o ho => ?_) q
    obtain rfl := Option.some.inj ho
    rfl
  | unlinked c hc q =>
    refine State.phaseLocked_setChan h hc (fun o ho => ?_) q
    rw [Chan.unlink_link] at ho
    cases ho
  | stepWritten n r x _ q => exact State.phaseLocked_of_stand h fun c => by rw [q.chans]; exact ⟨rfl, rfl⟩
  | launched l x _ q => exact State.phaseLocked_of_stand h fun c => by rw [q.chans]; exact ⟨rfl, rfl⟩

/-- Settles O53: the lock reads nothing of the queue, and every effect of a command keeps it. -/
theorem stepKeepsFollowersLocked : Obligations.StepKeepsFollowersLocked := by
  intro s t hs h
  exact step_keeps (fun _ _ k => k) (fun _ _ k e => e.phaseLocked k) hs h

end Sys2Proof.Machine
end

section
/-! PROOF. The envelope and the frequency word of every channel stay in range and within their ramps (R12 to R14):
`Chan.bounded` is a bounded value with its ramp twice over (`Chan.bounded_iff`), and every piece of work on a channel keeps
both. -/

namespace Sys2Proof.Machine

/-! ### A value and its ramp -/

/-- A ramp in progress at value `v`, sound and between its ends, which lie from `lo` to `hi` (R13, R14). -/
def Ramp.Within (lo hi : Int) (r : Ramp) (v : Int) : Prop :=
  r.sound v ∧ between r.start r.target v ∧ (lo ≤ r.start ∧ r.start ≤ hi) ∧ (lo ≤ r.target ∧ r.target ≤ hi)

/-- A value from `lo` to `hi`, its ramp within these ends while one is in progress. -/
def RampedIn (lo hi v : Int) (ramp : Option Ramp) : Prop := lo ≤ v ∧ v ≤ hi ∧ ∀ r ∈ ramp, r.Within lo hi v

theorem RampedIn.of_none {lo hi v : Int} (h1 : lo ≤ v) (h2 : v ≤ hi) : RampedIn lo hi v none :=
  ⟨h1, h2, fun _ h => by cases h⟩

/-- A ramp made present has made no step yet (R12). -/
theorem RampedIn.make {lo hi v target : Int} {n : Nat} (h1 : lo ≤ v) (h2 : v ≤ hi) (h3 : lo ≤ target)
    (h4 : target ≤ hi) (hn : n ≠ 0) : RampedIn lo hi v (some (Ramp.make v target n)) := by
  refine ⟨h1, h2, fun r hr => ?_⟩
  obtain rfl := Option.some.inj hr
  refine ⟨⟨0, Nat.pos_of_ne_zero hn, by simp [Ramp.make], by simp [Ramp.make]⟩, ?_, ⟨h1, h2⟩, h3, h4⟩
  simp only [between, Ramp.make]
  omega

/-- At most `n` steps of a distance over `n`, truncated toward zero, stay within the distance. -/
theorem between_mul_tdiv (start target : Int) {k n : Nat} (h : k ≤ n) :
    between start target (start + k * (target - start).tdiv n) := by
  have hk : (k : Int) ≤ n := by exact_mod_cast h
  unfold between
  obtain hd | hd := le_total 0 (target - start)
  · have h0 : 0 ≤ (target - start).tdiv n := Int.tdiv_nonneg hd (by omega)
    have h1 : (k : Int) * (target - start).tdiv n ≤ n * (target - start).tdiv n := mul_le_mul_of_nonneg_right hk h0
    have h2 : (n : Int) * (target - start).tdiv n ≤ target - start := Int.mul_tdiv_self_le hd
    have h3 : 0 ≤ (k : Int) * (target - start).tdiv n := mul_nonneg (by omega) h0
    omega
  · obtain ⟨d, hd'⟩ : ∃ d : Int, target - start = -d := ⟨start - target, by ring⟩
    rw [hd', Int.neg_tdiv]
    have hd0 : 0 ≤ d := by omega
    have h0 : 0 ≤ d.tdiv n := Int.tdiv_nonneg hd0 (by omega)
    have h1 : (k : Int) * d.tdiv n ≤ n * d.tdiv n := mul_le_mul_of_nonneg_right hk h0
    have h2 : (n : Int) * d.tdiv n ≤ d := Int.mul_tdiv_self_le hd0
    have h3 : 0 ≤ (k : Int) * d.tdiv n := mul_nonneg (by omega) h0
    rw [mul_neg]
    omega

/-- A ramp's step, the last one included, keeps the value and the ramp in range (R13). -/
theorem RampedIn.step {lo hi v : Int} {r : Ramp} (h : RampedIn lo hi v (some r)) :
    RampedIn lo hi (stepRamp r v).1 (stepRamp r v).2 := by
  obtain ⟨⟨made, left, step, value⟩, -, hs, ht⟩ := h.2.2 r rfl
  unfold stepRamp
  split_ifs with last
  · exact .of_none ht.1 ht.2
  · have within : between r.start r.target (v + r.step) := by
      have := between_mul_tdiv r.start r.target (k := made + 1) (n := made + r.remaining) (by omega)
      rw [← step] at this
      rw [value]
      convert this using 1
      push_cast
      ring
    have sound : Ramp.sound { r with remaining := r.remaining - 1 } (v + r.step) := by
      refine ⟨made + 1, by show 1 ≤ r.remaining - 1; omega, ?_, ?_⟩
      · rw [show made + 1 + (r.remaining - 1) = made + r.remaining by omega]
        exact step
      · show v + r.step = r.start + ((made + 1 : Nat) : Int) * r.step
        rw [value]
        push_cast
        ring
    refine ⟨?_, ?_, fun r' hr => ?_⟩
    · unfold between at within; omega
    · unfold between at within; omega
    · obtain rfl := Option.some.inj hr
      exact ⟨sound, within, hs, ht⟩

/-! ### A channel -/

/-- The envelope and its level ramp in range (R12, R13). -/
def Chan.LevelIn (x : Chan) : Prop := RampedIn 0 2048000 x.env x.levelRamp

/-- The frequency word and its ramp in range (R6, R14). -/
def Chan.FreqIn (x : Chan) : Prop := RampedIn 6710886 73819750 x.active.word x.freqRamp

theorem Chan.bounded_iff (x : Chan) : x.bounded ↔
    x.LevelIn ∧ x.FreqIn ∧ x.active.level ≤ 2000 ∧ (∀ q ∈ x.staged, q.inRange)
    ∧ (x.link.isSome = true → x.freqRamp = none) := by
  unfold Chan.bounded Chan.LevelIn Chan.FreqIn RampedIn Ramp.Within ParamSet.inRange wordInRange
  constructor
  · rintro ⟨h1, h2, ⟨⟨h3, h4⟩, h5⟩, h6, h7, h8, h9⟩
    exact ⟨⟨h1, h2, fun r hr => ⟨(h7 r hr).1, (h7 r hr).2.1, ⟨(h7 r hr).2.2.1, (h7 r hr).2.2.2.1⟩, (h7 r hr).2.2.2.2⟩⟩,
      ⟨h3, h4, fun r hr => ⟨(h8 r hr).1, (h8 r hr).2.1, (h8 r hr).2.2.1, (h8 r hr).2.2.2⟩⟩, h5, h6, h9⟩
  · rintro ⟨⟨h1, h2, h7⟩, ⟨h3, h4, h8⟩, h5, h6, h9⟩
    exact ⟨h1, h2, ⟨⟨h3, h4⟩, h5⟩, h6,
      fun r hr => ⟨(h7 r hr).1, (h7 r hr).2.1, (h7 r hr).2.2.1.1, (h7 r hr).2.2.1.2, (h7 r hr).2.2.2⟩,
      fun r hr => ⟨(h8 r hr).1, (h8 r hr).2.1, (h8 r hr).2.2.1, (h8 r hr).2.2.2⟩, h9⟩

/-- The bounds read the ranges of the active set and the staged set, the envelope, the ramps and whether the channel
follows. -/
theorem Chan.bounded.congr {x y : Chan} (h : x.bounded) (he : y.env = x.env) (hr : y.levelRamp = x.levelRamp)
    (hf : y.freqRamp = x.freqRamp) (ha : y.active.word = x.active.word) (hv : y.active.level = x.active.level)
    (hs : y.staged = x.staged) (hl : y.link.isSome = x.link.isSome) : y.bounded := by
  rw [Chan.bounded_iff, Chan.LevelIn, Chan.FreqIn] at h ⊢
  rw [he, hr, hf, ha, hv, hs, hl]
  exact h

theorem Chan.bounded.active {x : Chan} (h : x.bounded) : x.active.inRange := h.2.2.1

/-- A parameter set in range taken whole, with a staged set in range or none (R37, R38, R42). -/
theorem Chan.bounded_takeSet {x : Chan} {q : ParamSet} (hq : q.inRange) {o : Option ParamSet}
    (ho : ∀ p ∈ o, p.inRange) : Chan.bounded { x.takeSet q with staged := o } := by
  obtain ⟨⟨h1, h2⟩, h3⟩ := hq
  rw [Chan.bounded_iff]
  refine ⟨.of_none ?_ ?_, .of_none h1 h2, h3, ho, fun _ => rfl⟩
  · show (0 : Int) ≤ q.level * 1024; omega
  · show (q.level : Int) * 1024 ≤ 2048000; omega

theorem Chan.bounded.reverted {x : Chan} (h : x.bounded) {q : ParamSet} (hq : q.inRange) : (x.takeSet q).bounded :=
  Chan.bounded_takeSet (x := x) hq (o := x.staged) h.2.2.2.1

theorem Chan.bounded.promoted {x : Chan} (h : x.bounded) (a : Advance) : (x.promoted a).bounded := by
  obtain e | ⟨q, hq, e⟩ := x.promoted_cases a <;> rw [e]
  · exact h
  · exact Chan.bounded_takeSet (h.2.2.2.1 q hq) fun _ hp => by cases hp

theorem Chan.bounded.stepLevel {x : Chan} (h : x.bounded) : x.stepLevel.bounded := by
  rw [Chan.bounded_iff] at h ⊢
  obtain ⟨hl, hf, rest⟩ := h
  rw [Chan.stepLevel_frame]
  refine ⟨?_, hf, rest⟩
  unfold Chan.stepLevel
  split
  · rename_i r hr
    rw [Chan.LevelIn, hr] at hl
    exact hl.step
  · exact hl

theorem Chan.bounded.stepFreq {x : Chan} (h : x.bounded) : x.stepFreq.bounded := by
  rw [Chan.bounded_iff] at h ⊢
  obtain ⟨hl, hf, hv, hs, hk⟩ := h
  rw [Chan.stepFreq_frame]
  refine ⟨hl, ?_, hv, hs, fun link => ?_⟩
  · unfold Chan.stepFreq
    split
    · rename_i r hr
      rw [Chan.FreqIn, hr] at hf
      exact hf.step
    · exact hf
  · have none := hk link
    show x.stepFreq.freqRamp = Option.none
    unfold Chan.stepFreq
    rw [none]
    exact none

theorem Chan.bounded.rampsStepped {x : Chan} (h : x.bounded) (a b : Bool) : (x.rampsStepped a b).bounded := by
  unfold Chan.rampsStepped
  cases a <;> cases b
  · exact h.stepLevel.stepFreq
  · exact h.stepLevel
  · exact h.stepFreq
  · exact h

/-- The parts of a step record in range (R60 to R63). -/
def StepRecord.InRange (step : StepRecord) : Prop :=
  (∀ p ∈ step.level, p.target ≤ 2000) ∧ (∀ p ∈ step.freq, wordInRange p.word)

theorem Chan.bounded.applyLevel {x : Chan} (h : x.bounded) {p : LevelPart} (hp : p.target ≤ 2000) :
    (x.applyLevel p).bounded := by
  rw [Chan.bounded_iff] at h ⊢
  obtain ⟨hl, hf, -, hs, hk⟩ := h
  unfold Chan.applyLevel
  dsimp only
  split_ifs with hr
  · refine ⟨.of_none ?_ ?_, hf, hp, hs, hk⟩
    · show (0 : Int) ≤ p.target * 1024; omega
    · show (p.target : Int) * 1024 ≤ 2048000; omega
  · exact ⟨.make hl.1 hl.2.1 (by omega) (by omega) hr, hf, hp, hs, hk⟩

theorem Chan.bounded.applyFreq {x : Chan} (h : x.bounded) {p : FreqPart} (hp : wordInRange p.word)
    (hx : x.link.isSome = false) : (x.applyFreq p).bounded := by
  rw [Chan.bounded_iff] at h ⊢
  obtain ⟨hl, hf, hv, hs, -⟩ := h
  unfold Chan.applyFreq
  dsimp only
  split_ifs with hr
  · exact ⟨hl, .of_none hp.1 hp.2, hv, hs, fun _ => rfl⟩
  · exact ⟨hl, .make hf.1 hf.2.1 hp.1 hp.2 hr, hv, hs, fun e => by rw [hx] at e; cases e⟩

theorem Chan.applyLevel_link (x : Chan) (p : LevelPart) : (x.applyLevel p).link = x.link := by
  unfold Chan.applyLevel
  dsimp only
  split_ifs <;> rfl

/-- A step in range keeps the bounds of a channel that takes its parts (R12, R14, R88). -/
theorem Chan.bounded.takeParts {x : Chan} (h : x.bounded) {step : StepRecord} (hs : step.InRange) (l : Lane)
    (c : Channel) : (x.takeParts step l c).bounded := by
  have level : ∀ o : Option LevelPart, (∀ p ∈ o, p.target ≤ 2000) →
      ((o.map x.applyLevel).getD x).bounded ∧ ((o.map x.applyLevel).getD x).link = x.link := by
    rintro (_ | p) ho
    · exact ⟨h, rfl⟩
    · exact ⟨h.applyLevel (ho p rfl), x.applyLevel_link p⟩
  have shape : ∀ (y : Chan) (o : Option ShapePart), y.bounded →
      ((o.map y.applyShape).getD y).bounded ∧ ((o.map y.applyShape).getD y).link = y.link := by
    rintro y (_ | p) hy
    · exact ⟨hy, rfl⟩
    · exact ⟨hy.congr rfl rfl rfl rfl rfl rfl rfl, rfl⟩
  have freq : ∀ (y : Chan) (o : Option FreqPart), y.bounded → (∀ p ∈ o, wordInRange p.word) →
      (o ≠ none → y.link.isSome = false) → ((o.map y.applyFreq).getD y).bounded := by
    rintro y (_ | p) hy ho hl
    · exact hy
    · exact hy.applyFreq (ho p rfl) (hl (by simp))
  unfold Chan.takeParts
  dsimp only
  have part : ∀ (α : Type) (b : Bool) (o : Option α) (p : α), p ∈ (if b = true then o else none) → b = true ∧ p ∈ o := by
    intro α b o p hp
    cases b
    · cases hp
    · exact ⟨rfl, hp⟩
  obtain ⟨h1, l1⟩ := level (if (reached step l).get c = true then step.level else none)
    fun p hp => hs.1 p (part _ _ _ _ hp).2
  obtain ⟨h2, l2⟩ := shape _ (if (reached step l).get c = true then step.shape else none) h1
  refine freq _ _ h2 (fun p hp => hs.2 p (part _ _ _ _ hp).2) fun hne => ?_
  rw [l2, l1]
  obtain ⟨p, hp⟩ := Option.ne_none_iff_exists'.1 hne
  have := (part _ _ _ _ (Option.mem_def.2 hp)).1
  rw [Bool.and_eq_true] at this
  simpa using this.2

theorem Chan.bounded.movedBy {x : Chan} (h : x.bounded) (a o : Phase) : (x.movedBy a o).bounded :=
  h.congr rfl rfl rfl rfl rfl rfl (x.movedBy_link_isSome a o)

/-! ### The block -/

/-- Channels changed within their bounds, L1 still unlinked, the rest followed. -/
theorem State.synthesisBounded.of_chans {s t : State} (h : s.synthesisBounded)
    (hc : ∀ c : Channel, (t.chans.get c).bounded) (h1 : (t.chans.get .L1).link = (s.chans.get .L1).link)
    (hl : ∀ l : LaneId, (s.lanes.get l).Follows (t.lanes.get l))
    (hs : ∀ (n : Nat) (x : StepRecord), Store.get t.steps n = some x → Store.get s.steps n = some x) :
    t.synthesisBounded :=
  ⟨hc, h1.trans h.2.1, fun l c q hq => h.2.2.1 l c q ((hl l).2 c q hq), fun n x hx => h.2.2.2 n x (hs n x hx)⟩

theorem State.Quiet.bounded {s t : State} (q : s.Quiet t) (h : s.synthesisBounded) : t.synthesisBounded :=
  h.of_chans (fun c => by rw [q.chans]; exact h.1 c) (by rw [q.chans]) q.lanes q.steps

/-- One channel's record replaced within its bounds; for L1, without a link. -/
theorem State.synthesisBounded.setChan {s : State} (h : s.synthesisBounded) {c : Channel} {x : Chan} (hx : x.bounded)
    (hl : c = .L1 → x.link = none) : (s.setChan c x).synthesisBounded := by
  refine h.of_chans (fun d => ?_) ?_ (fun _ => .refl _) fun _ _ e => e
  · rw [State.chans_setChan, PerChannel.get_set]
    split_ifs
    · exact hx
    · exact h.1 d
  · rw [State.chans_setChan, PerChannel.get_set]
    split_ifs with hc
    · rw [hl hc.symm]; exact h.2.1.symm
    · rfl

theorem State.Reverts.bounded {s t : State} (r : s.Reverts t) (h : s.synthesisBounded) : t.synthesisBounded := by
  induction r with
  | quiet q => exact q.bounded h
  | @revert s l c q _ hq =>
    exact h.setChan ((h.1 c).reverted (h.2.2.1 l c q hq)) fun e => by rw [e]; exact h.2.1
  | trans _ _ ih ih' => exact ih' (ih h)

/-! ### A sample event -/

theorem Tick.opening_bounded (t : Tick) (c : Channel) (h : t.st.synthesisBounded) :
    (t.opening c).st.synthesisBounded := by
  have spec := t.opening_spec c
  obtain ⟨-, -, -, hsteps, -⟩ := kept_opening t c
  refine h.of_chans (fun d => ?_) (spec.link_eq .L1) (fun l => by rw [spec.lanes]; exact .refl _) fun n x e => ?_
  · rw [spec.chans, PerChannel.get_set]
    split_ifs
    · refine Chan.bounded.promoted ?_ _
      exact (h.1 c).congr rfl rfl rfl rfl rfl rfl rfl
    · exact h.1 d
  · rwa [hsteps] at e

theorem Tick.ending_bounded (t : Tick) (c : Channel) (h : t.st.synthesisBounded) :
    (t.ending c).st.synthesisBounded := by
  have spec := t.ending_spec c
  obtain ⟨n, hn⟩ := spec.chans
  obtain ⟨-, -, -, hsteps, -⟩ := kept_ending t c
  refine h.of_chans (fun d => ?_) (spec.stand .L1).2 (fun l => by rw [spec.lanes]; exact .refl _) fun n x e => ?_
  · rw [hn, PerChannel.get_set]
    split_ifs
    · exact ((h.1 c).rampsStepped _ _).congr rfl rfl rfl rfl rfl rfl rfl
    · exact h.1 d
  · rwa [hsteps] at e

theorem Tick.applyFields_bounded (t : Tick) (step : StepRecord) (x : Lane) (hs : step.InRange)
    (h : t.st.synthesisBounded) : (t.applyFields step x).st.synthesisBounded := by
  refine h.of_chans (fun c => ?_) ?_ (t.applyFields_kept step x).lanes fun n y e => ?_
  · rw [Tick.applyFields_chan]
    exact ((h.1 c).takeParts hs x c).movedBy _ _
  · rw [Tick.applyFields_chan]
    simp [Chan.movedBy]
  · rw [Tick.applyFields_frame] at e
    exact e

theorem State.stepAt_inRange {s : State} (h : s.synthesisBounded) {x : Lane} {k : Nat} {step : StepRecord}
    (hk : s.stepAt x k = some step) : step.InRange := by
  unfold State.stepAt at hk
  obtain ⟨q, -, hq⟩ := Option.bind_eq_some_iff.1 hk
  exact h.2.2.2 _ _ hq

/-- A step that a lane applies lies in its range. -/
theorem Tick.Applies.stepAt {t : Tick} {x : Lane} {step : StepRecord} (h : t.Applies x step) :
    ∃ k : Nat, t.st.stepAt x k = some step := by
  obtain ⟨-, hs, -⟩ | ⟨-, hk⟩ := h
  · obtain ⟨k, -, hk⟩ := Option.bind_eq_some_iff.1 hs
    exact ⟨k, hk⟩
  · exact hk

theorem Tick.laneWork_bounded (t : Tick) (l : LaneId) (h : t.st.synthesisBounded) :
    (t.laneWork l).st.synthesisBounded := by
  cases t.laneWork_effect l with
  | quiet q => exact q.st.bounded h
  | applied step ha q q' =>
    obtain ⟨k, hk⟩ := ha.stepAt
    exact q'.st.bounded (Tick.applyFields_bounded _ step _ (State.stepAt_inRange h hk) (q.st.bounded h))
  | reverted v _ hr _ _ _ _ q => exact q.st.bounded (hr.bounded h)

theorem Tick.work_bounded (t : Tick) (g : ChannelSet) (h : t.st.synthesisBounded) : (t.work g).st.synthesisBounded := by
  have opened : (t.openings g).st.synthesisBounded :=
    Tick.forChannels_keeps (P := fun u => u.st.synthesisBounded) (fun u c _ => u.opening_bounded c) h
  have worked := Tick.lanesIn_keeps (P := fun u => u.st.synthesisBounded) (g := g)
    (fun u l hu _ => u.laneWork_bounded l hu) opened
  exact Tick.forChannels_keeps (P := fun u => u.st.synthesisBounded) (fun u c _ => u.ending_bounded c) worked

theorem Lane.follows_of_butMissed {x y : Lane} (h : y.butMissed = x.butMissed) : x.Follows y := by
  have state : y.butMissed.state = x.butMissed.state := by rw [h]
  have channels : y.butMissed.channels = x.butMissed.channels := by rw [h]
  have snapshots : y.butMissed.snapshots = x.butMissed.snapshots := by rw [h]
  exact Lane.follows_of_state state channels snapshots

theorem tick_bounded (o : TickOrder) {s : State} (h : s.synthesisBounded) : (tick o s).st.synthesisBounded := by
  have verdicts : (Tick.verdicts s).st.synthesisBounded := by
    obtain ⟨e, he⟩ := Tick.verdicts_eq s
    rw [he]
    exact h
  have channels : (tickChannels o s).st.synthesisBounded :=
    Tick.work_bounded _ _ ((State.reverts_takeLinks _ _).bounded (Tick.work_bounded _ _ verdicts))
  have tail := tick_tail o s
  obtain ⟨-, -, -, steps, -⟩ := tick_kept o s
  refine ⟨fun c => by rw [tail.chans]; exact channels.1 c, ?_, fun l c q hq => ?_, fun n x hx => ?_⟩
  · rw [tail.chans]; exact channels.2.1
  · exact channels.2.2.1 l c q ((Lane.follows_of_butMissed (tail.lanes l)).2 c q hq)
  · rw [steps] at hx
    exact h.2.2.2 n x hx

/-! ### Every command -/

theorem clampNat_mem {lo hi : Nat} (h : lo ≤ hi) (n : Nat) : lo ≤ clampNat lo hi n ∧ clampNat lo hi n ≤ hi := by
  unfold clampNat
  split_ifs <;> omega

/-- The word of a frequency setting that was adjusted lies in its range (R11). -/
theorem freqWord_inRange (f : Nat) : wordInRange (freqWord (clampFreq f)) := by
  obtain ⟨h1, h2⟩ := clampNat_mem (lo := 4000) (hi := 44000) (by decide) f
  unfold wordInRange freqWord clampFreq
  generalize clampNat 4000 44000 f = g at h1 h2 ⊢
  simp only [Config.cycle, Config.sampleRate]
  omega

theorem paramSetOf_inRange (r : RawParams) : (paramSetOf r).inRange :=
  ⟨freqWord_inRange r.freq, (clampNat_mem (Nat.zero_le 2000) r.level).2⟩

/-- A part that is present is the reading of its subfields. -/
theorem eq_of_partOf {α : Type} {presence : Nat} {value : Option α} {o : Option α} {p : α}
    (h : partOf presence value = some o) (hp : p ∈ o) : value = some p := by
  unfold partOf at h
  split at h
  · obtain ⟨q, hq, rfl⟩ := Option.map_eq_some_iff.1 h
    rw [hq, Option.mem_def.1 hp]
  · obtain rfl := Option.some.inj h
    cases hp
  · cases h

/-- The record that WRITE_STEP holds has its level and its frequency word in range (R61, R63). -/
theorem stepOf_inRange {r : RawStep} {x : StepRecord} (h : stepOf r = some x) : x.InRange := by
  unfold stepOf at h
  obtain ⟨mask, -, h⟩ := Option.bind_eq_some_iff.1 h
  obtain ⟨unit, -, h⟩ := Option.bind_eq_some_iff.1 h
  obtain ⟨sync, -, h⟩ := Option.bind_eq_some_iff.1 h
  obtain ⟨hold, -, h⟩ := Option.bind_eq_some_iff.1 h
  obtain ⟨level, hlevel, h⟩ := Option.bind_eq_some_iff.1 h
  obtain ⟨freq, hfreq, h⟩ := Option.bind_eq_some_iff.1 h
  obtain ⟨jump, -, h⟩ := Option.bind_eq_some_iff.1 h
  obtain ⟨shape, -, h⟩ := Option.bind_eq_some_iff.1 h
  obtain ⟨markers, -, h⟩ := Option.bind_eq_some_iff.1 h
  obtain ⟨capture, -, h⟩ := Option.bind_eq_some_iff.1 h
  obtain ⟨wait, -, h⟩ := Option.bind_eq_some_iff.1 h
  obtain ⟨groupOpen, -, h⟩ := Option.bind_eq_some_iff.1 h
  obtain ⟨groupClose, -, h⟩ := Option.bind_eq_some_iff.1 h
  obtain rfl := Option.some.inj h
  refine ⟨fun p hp => ?_, fun p hp => ?_⟩
  · obtain rfl := Option.some.inj (eq_of_partOf hlevel hp)
    exact (clampNat_mem (Nat.zero_le 2000) r.level).2
  · obtain rfl := Option.some.inj (eq_of_partOf hfreq hp)
    exact freqWord_inRange r.freq

theorem Chan.reset_bounded (p : Phase) (l : Option Phase) : (Chan.reset p l).bounded := by
  have env : (Chan.reset p l).env = 1024000 := rfl
  have active : (Chan.reset p l).active.word = 8388608 ∧ (Chan.reset p l).active.level = 1000 := ⟨rfl, rfl⟩
  rw [Chan.bounded_iff, Chan.LevelIn, Chan.FreqIn, env, active.1, active.2]
  exact ⟨.of_none (by decide) (by decide), .of_none (by decide) (by decide), by decide, fun q h => (by cases h),
    fun _ => rfl⟩

theorem State.reset_bounded (low : Bool) : (State.resetWith low).synthesisBounded := by
  refine ⟨fun c => ?_, rfl, fun l c q h => ?_, fun n x h => by cases h⟩
  · cases c <;> exact Chan.reset_bounded _ _
  · cases l <;> cases c <;> cases h

theorem State.writeSet_bounded {s : State} (h : s.synthesisBounded) (c : Channel) {q : ParamSet} (hq : q.inRange) :
    (s.writeSet c q).synthesisBounded := by
  have l1 : c = .L1 → (s.chans.get c).link = none := fun e => by rw [e]; exact h.2.1
  unfold State.writeSet
  dsimp only
  split_ifs
  · exact h.setChan (Chan.bounded_takeSet hq fun _ hp => by cases hp) l1
  · obtain ⟨h1, h2, h3, -, h5⟩ := h.1 c
    exact h.setChan ⟨h1, h2, h3, fun p hp => by obtain rfl := Option.some.inj hp; exact hq, h5⟩ l1

theorem Chan.bounded.unlink {x y : Chan} (h : x.bounded) (hy : y.bounded) : (x.unlink y).bounded := by
  unfold Chan.unlink
  split
  · rename_i o ho
    rw [Chan.bounded_iff] at h ⊢
    obtain ⟨hl, -, hv, hs, hk⟩ := h
    have none : x.freqRamp = Option.none := hk (by rw [ho]; rfl)
    refine ⟨hl, ?_, hv, hs, fun _ => none⟩
    show RampedIn _ _ y.active.word x.freqRamp
    rw [none]
    exact .of_none hy.active.1.1 hy.active.1.2
  · exact h

theorem State.CommandEffect.bounded {s t : State} (e : s.CommandEffect t) (h : s.synthesisBounded) :
    t.synthesisBounded := by
  cases e with
  | reverts r => exact r.bounded h
  | reset low => exact State.reset_bounded low
  | sample o => exact tick_bounded o h
  | written c r q => exact q.bounded (State.writeSet_bounded h c (paramSetOf_inRange r))
  | clipCleared c q =>
    exact q.bounded (h.setChan ((h.1 c).congr rfl rfl rfl rfl rfl rfl rfl) fun e => by rw [e]; exact h.2.1)
  | followed c offset hc q =>
    have hb := (Chan.bounded_iff _).1 (h.1 c)
    obtain ⟨hl, hf, hv, hs, -⟩ := hb
    refine q.bounded (h.setChan ((Chan.bounded_iff _).2 ⟨hl, ?_, hv, hs, fun _ => rfl⟩) fun e => absurd e hc)
    exact .of_none hf.1 hf.2.1
  | unlinked c hc q => exact q.bounded (h.setChan ((h.1 c).unlink (h.1 .L1)) fun e => absurd e hc)
  | stepWritten n r x hx q =>
    refine q.bounded ⟨h.1, h.2.1, h.2.2.1, fun k y hy => ?_⟩
    by_cases hk : k = n
    · subst hk
      rw [Store.get_put_self] at hy
      obtain rfl := Option.some.inj hy
      exact stepOf_inRange hx
    · rw [Store.get_put_ne _ _ hk] at hy
      exact h.2.2.2 k y hy
  | launched l x hx q =>
    refine q.bounded ⟨h.1, h.2.1, fun m c p hp => ?_, h.2.2.2⟩
    by_cases hm : m = l
    · subst hm
      rw [State.lanes_setLane, PerLane.get_set_self] at hp
      rw [hx c p hp]
      exact (h.1 c).active
    · rw [State.lanes_setLane, PerLane.get_set_ne _ _ hm] at hp
      exact h.2.2.1 m c p hp

/-- Settles O58: the bounds read nothing of the queue, and every effect of a command keeps them. -/
theorem stepKeepsEnvelopeAndFrequencyBounded : Obligations.StepKeepsEnvelopeAndFrequencyBounded := by
  intro s t hs h
  exact step_keeps (fun _ _ k => k) (fun _ _ k e => e.bounded k) hs h

end Sys2Proof.Machine
end

section
/-! PROOF. The state after reset: the values of R2, and every invariant. -/

namespace Sys2Proof.Machine

/-! ### The channels -/

theorem roundHalfAway_zero (b : Int) : roundHalfAway 0 b = 0 := by simp [roundHalfAway]

/-- A channel with amplitude 0 computes its DC offset (R20). -/
theorem State.compute_of_amp_zero (s : State) {x : Chan} (h : x.active.amp = 0) : s.compute x = x.active.dc := by
  simp [State.compute, setpoint, h, roundHalfAway_zero]

/-- Settles O3: the reset record of each channel, whose amplitude and DC offset are 0. -/
theorem resetGivesChannelValues : Obligations.ResetGivesChannelValues := by
  intro low s
  refine ⟨{ State.resetWith low with pending := s.pending }, rfl, rfl, rfl, rfl, fun c => ⟨?_, ?_⟩⟩
  · exact PerChannel.get_all c _
  · cases c
    · exact State.compute_of_amp_zero _ rfl
    · exact State.compute_of_amp_zero _ rfl
    · exact State.compute_of_amp_zero _ rfl

/-! ### The invariants of the other blocks -/

theorem State.resetWith_lane (low : Bool) (l : LaneId) : (State.resetWith low).lanes.get l = Lane.reset :=
  PerLane.get_all l _

theorem State.resetWith_link (low : Bool) (k : Channel) : (State.resetWith low).links.get k = Link.reset :=
  PerChannel.get_all k _

theorem State.resetWith_sense (low : Bool) (c : Channel) : (State.resetWith low).sense.get c = Sense.reset :=
  PerChannel.get_all c _

theorem State.reset_canonical (low : Bool) : (State.resetWith low).canonical := by
  have empty : Memory.wf [] := ⟨List.Pairwise.nil, fun e he => (by cases he)⟩
  exact ⟨empty, empty, .nil, .nil, .nil, .nil, .nil, .nil⟩

/-- TRIPPED, every output PARKED, no lane running, no link source (R143, R148). -/
theorem State.reset_tripSound (low : Bool) : (State.resetWith low).tripSound := by
  refine ⟨fun h => (by cases h), fun _ => ⟨fun c => PerChannel.get_all c _, fun l => ?_⟩, fun k => ?_⟩
  · rw [State.resetWith_lane]; rfl
  · rw [State.resetWith_link]
    exact ⟨PerChannel.get_all k _, PerChannel.get_all k _⟩

theorem State.reset_lanesSound (low : Bool) : (State.resetWith low).lanesSound := by
  refine ⟨fun l m c h _ => ?_, fun l _ => ?_⟩
  · rw [State.resetWith_lane] at h; cases h
  · rw [State.resetWith_lane]; rfl

theorem State.reset_senseBounded (low : Bool) : (State.resetWith low).senseBounded := by
  refine ⟨fun c => ?_, fun k q h => ?_⟩
  · rw [State.resetWith_sense]
    exact ⟨fun h => (by cases h), by decide, fun m h => (by cases h)⟩
  · rw [State.resetWith_link] at h; cases h

theorem State.reset_captureSound (low : Bool) : (State.resetWith low).captureSound :=
  ⟨fun d x h => (by cases h), fun h => (by cases h), fun d r h => (by cases h), fun _ _ => rfl⟩

/-- After reset the channels name table 0 alone, and no lane runs (R2, R54). -/
theorem State.reset_tableReferenced (low : Bool) {t : Nat} (h : (State.resetWith low).tableReferenced t = true) :
    t = 0 := by
  by_contra h0
  have active : (State.resetWith low).activeHolders ParamSet.table t = ⟨false, false, false⟩ := by
    have : (0 == t) = false := by simpa using Ne.symm h0
    simp [State.activeHolders, State.resetWith, Chan.reset, ParamSet.reset, this]
  have staged : (State.resetWith low).stagedHolders ParamSet.table t = ⟨false, false, false⟩ := rfl
  have lanes : (State.resetWith low).laneHolders ParamSet.table ShapePart.table t = ⟨false, false, false⟩ := rfl
  rw [State.tableReferenced, State.named, active, staged, lanes] at h
  exact absurd h (by decide)

theorem State.reset_tablesReady (low : Bool) : (State.resetWith low).tablesReady := by
  refine ⟨.nil, fun n p cov h => (by cases h), fun n q h => (by cases h), fun l h => ?_, fun t h => ?_⟩
  · rw [State.resetWith_lane] at h; cases h
  · rw [State.reset_tableReferenced low h]; rfl

/-- Settles O60: the invariants of the reset state, one lemma each. -/
theorem resetMeetsInvariants : Obligations.ResetMeetsInvariants :=
  ⟨rfl, fun low => ⟨State.reset_canonical low, State.reset_phaseLocked low, State.reset_tripSound low,
    State.reset_lanesSound low, State.reset_senseBounded low, State.reset_captureSound low, State.reset_bounded low,
    State.reset_tablesReady low⟩⟩

end Sys2Proof.Machine
end

section
/-! PROOF. A sample event seen by one channel (R4, R7). `Tick.Apart c` says that a piece of work passes channel `c` by:
the other channels' stages, the lanes that do not bind it, the links' sources when it is unbound or no entry is due. What
is left for the channel is its own opening, the lanes that bind it, and its own ending (`tickChannels_of_settled`,
`tickChannels_of_unbound`). -/

namespace Sys2Proof.Machine

/-! ### Work that passes a channel by -/

/-- The work from `t` to `u` passes channel `c` by: only a jump of L1 that a follower has to take may move its
accumulator, and not before its advance, nor when `still`. No entry comes about where none is due. -/
structure Tick.Apart (still : Prop) (c : Channel) (t u : Tick) : Prop where
  chan : u.st.chans.get c = { t.st.chans.get c with phase := (u.st.chans.get c).phase }
  phase : still ∨ t.adv.get c = none → (u.st.chans.get c).phase = (t.st.chans.get c).phase
  jump1 : still → u.jump1 = t.jump1
  adv : u.adv.get c = t.adv.get c
  freshLevel : u.freshLevel.get c = t.freshLevel.get c
  freshFreq : u.freshFreq.get c = t.freshFreq.get c
  lanes : ∀ l : LaneId, (t.st.lanes.get l).Follows (u.st.lanes.get l)
  settled : t.st.Settled → u.st.Settled
  output : t.st.Settled → u.st.trip.outputs.get c = t.st.trip.outputs.get c
  kept : t.st.tickKept u.st
  events : t.events ⊆ u.events

theorem Tick.Apart.refl (still : Prop) (c : Channel) (t : Tick) : t.Apart still c t where
  chan := rfl
  phase _ := rfl
  jump1 _ := rfl
  adv := rfl
  freshLevel := rfl
  freshFreq := rfl
  lanes _ := .refl _
  settled h := h
  output _ := rfl
  kept := t.st.tickKept_refl
  events _ h := h

theorem Tick.Apart.trans {still : Prop} {c : Channel} {t u v : Tick} (h : t.Apart still c u) (k : u.Apart still c v) :
    t.Apart still c v where
  chan := by rw [k.chan, h.chan]
  phase e := (k.phase (h.adv.symm ▸ e)).trans (h.phase e)
  jump1 e := (k.jump1 e).trans (h.jump1 e)
  adv := k.adv.trans h.adv
  freshLevel := k.freshLevel.trans h.freshLevel
  freshFreq := k.freshFreq.trans h.freshFreq
  lanes l := (h.lanes l).trans (k.lanes l)
  settled e := k.settled (h.settled e)
  output e := (k.output (h.settled e)).trans (h.output e)
  kept := State.tickKept_trans h.kept k.kept
  events _ e := k.events (h.events e)

/-- The whole record stands when the accumulator does. -/
theorem Tick.Apart.chan_eq {still : Prop} {c : Channel} {t u : Tick} (h : t.Apart still c u)
    (e : still ∨ t.adv.get c = none) : u.st.chans.get c = t.st.chans.get c := by rw [h.chan, h.phase e]

theorem Tick.Apart.unbound {still : Prop} {c d : Channel} {t u : Tick} (h : t.Apart still c u) (hd : t.st.Unbound d) :
    u.st.Unbound d := hd.follows h.lanes

/-! ### The other channels' stages -/

/-- Settledness reads the trip unit's state and live sources, and the links. -/
theorem State.Settled.congr {s t : State} (h : s.Settled) (hs : t.trip.state = s.trip.state)
    (ha : t.trip.active = s.trip.active) (hl : t.links = s.links) : t.Settled := by
  unfold State.Settled
  rw [hs, ha, hl]
  exact h

/-- The work from `t` to `u`, before the lanes, passes channel `c` by. -/
structure Tick.Beside (c : Channel) (t u : Tick) : Prop where
  apart : t.Apart True c u
  sense : u.st.sense.get c = t.st.sense.get c
  verdict : u.verdict = t.verdict
  closed : u.closed.get c = t.closed.get c

theorem Tick.Beside.refl (c : Channel) (t : Tick) : t.Beside c t := ⟨.refl _ c t, rfl, rfl, rfl⟩

theorem Tick.Beside.trans {c : Channel} {t u v : Tick} (h : t.Beside c u) (k : u.Beside c v) : t.Beside c v :=
  ⟨h.apart.trans k.apart, k.sense.trans h.sense, k.verdict.trans h.verdict, k.closed.trans h.closed⟩

theorem Tick.Apart.mono {still : Prop} {c : Channel} {t u : Tick} (h : t.Apart True c u) : t.Apart still c u :=
  { h with phase := fun _ => h.phase (.inl trivial), jump1 := fun _ => h.jump1 trivial }

theorem Tick.Opened.settled {t u : Tick} {c : Channel} (h : t.Opened c u) (k : t.st.Settled) : u.st.Settled :=
  k.congr (by rw [h.trip]) (by rw [h.trip]) h.links

theorem Tick.opening_beside (t : Tick) {c d : Channel} (hd : d ≠ c) : t.Beside c (t.opening d) := by
  have spec := t.opening_spec d
  have chan : (t.opening d).st.chans.get c = t.st.chans.get c := by rw [spec.chans, PerChannel.get_set_ne _ _ hd.symm]
  refine ⟨⟨by rw [chan], fun _ => by rw [chan], fun _ => spec.jump1, ?_, by rw [spec.freshLevel], by rw [spec.freshFreq],
    fun l => by rw [spec.lanes]; exact .refl _, spec.settled, fun _ => ?_, kept_opening t d, spec.events⟩,
    spec.sense c hd.symm, spec.verdict, ?_⟩
  · rw [spec.adv, PerChannel.get_set_ne _ _ hd.symm]
  · rw [spec.trip]
    dsimp only
    split_ifs
    · exact PerChannel.get_set_ne _ _ hd.symm
    · rfl
  · rw [spec.closed, PerChannel.get_set_ne _ _ hd.symm]

theorem Tick.ending_apart (t : Tick) {c d : Channel} (hd : d ≠ c) : t.Apart True c (t.ending d) := by
  have spec := t.ending_spec d
  obtain ⟨n, hn⟩ := spec.chans
  have chan : (t.ending d).st.chans.get c = t.st.chans.get c := by rw [hn, PerChannel.get_set_ne _ _ hd.symm]
  exact ⟨by rw [chan], fun _ => by rw [chan], fun _ => spec.jump1, by rw [spec.adv], by rw [spec.freshLevel],
    by rw [spec.freshFreq], fun l => by rw [spec.lanes]; exact .refl _,
    fun h => h.congr (by rw [spec.trip]) (by rw [spec.trip]) spec.links, fun _ => by rw [spec.trip], kept_ending t d,
    spec.events⟩

/-! ### A channel's turn in a group -/

/-- The scratch record at channel `c`'s turn in the work of a group. -/
def Tick.turn (t : Tick) (g : ChannelSet) (work : Tick → Channel → Tick) : Channel → Tick
  | .L1 => t
  | .L2 => t.when g work .L1
  | .L3 => (t.when g work .L1).when g work .L2

/-- A relation that holds over the other channels' work holds up to a channel's turn and after it. -/
theorem Tick.forChannels_turn {R : Tick → Tick → Prop} {work : Tick → Channel → Tick} {c : Channel}
    (refl : ∀ t, R t t) (trans : ∀ {t u v}, R t u → R u v → R t v)
    (others : ∀ (u : Tick) (d : Channel), d ≠ c → R u (work u d)) (t : Tick) (g : ChannelSet) : R t (t.turn g work c)
      ∧ R ((t.turn g work c).when g work c) (t.forChannels g work) := by
  have other : ∀ (u : Tick) (d : Channel), d ≠ c → R u (u.when g work d) := by
    intro u d hd
    unfold Tick.when
    split
    · exact others u d hd
    · exact refl u
  cases c with
  | L1 => exact ⟨refl t, trans (other _ _ (by decide)) (other _ _ (by decide))⟩
  | L2 => exact ⟨other _ _ (by decide), other _ _ (by decide)⟩
  | L3 => exact ⟨trans (other _ _ (by decide)) (other _ _ (by decide)), refl _⟩

theorem Tick.when_of_mem (t : Tick) {g : ChannelSet} (work : Tick → Channel → Tick) {c : Channel} (h : g.get c = true) :
    t.when g work c = work t c := if_pos h

theorem Tick.when_of_not_mem (t : Tick) {g : ChannelSet} (work : Tick → Channel → Tick) {c : Channel}
    (h : g.get c = false) : t.when g work c = t := if_neg (by simp [h])

theorem Tick.openings_beside (t : Tick) {g : ChannelSet} {c : Channel} (hc : g.get c = false) :
    t.Beside c (t.openings g) := by
  obtain ⟨h1, h2⟩ := Tick.forChannels_turn (Tick.Beside.refl c) Tick.Beside.trans (fun u _ hd => u.opening_beside hd) t g
  rw [Tick.when_of_not_mem _ _ hc] at h2
  exact h1.trans h2

/-- The openings of a group at a channel's turn: what comes before and after its own passes it by. -/
theorem Tick.openings_turn (t : Tick) {g : ChannelSet} {c : Channel} (hc : g.get c = true) :
    t.Beside c (t.turn g Tick.opening c)
      ∧ ((t.turn g Tick.opening c).opening c).Beside c (t.openings g) := by
  obtain ⟨h1, h2⟩ := Tick.forChannels_turn (Tick.Beside.refl c) Tick.Beside.trans (fun u _ hd => u.opening_beside hd) t g
  rw [Tick.when_of_mem _ _ hc] at h2
  exact ⟨h1, h2⟩

/-- L1's advance at another channel's turn. -/
theorem Tick.turn_opening_l1 (t : Tick) (g : ChannelSet) {c : Channel} (hc : c ≠ .L1) :
    (t.turn g Tick.opening c).adv.get .L1
      = if g.get .L1 = true then some (t.nextAdvance .L1) else t.adv.get .L1 := by
  cases c with
  | L1 => exact absurd rfl hc
  | L2 => simp [Tick.turn, Tick.when_opening_adv]
  | L3 => simp [Tick.turn, Tick.when_opening_adv]

theorem Tick.endings_apart (t : Tick) {g : ChannelSet} {c : Channel} (hc : g.get c = false) :
    t.Apart True c (t.endings g) := by
  obtain ⟨h1, h2⟩ := Tick.forChannels_turn (Tick.Apart.refl True c) Tick.Apart.trans (fun u _ hd => u.ending_apart hd) t g
  rw [Tick.when_of_not_mem _ _ hc] at h2
  exact h1.trans h2

theorem Tick.endings_turn (t : Tick) {g : ChannelSet} {c : Channel} (hc : g.get c = true) :
    ∃ u : Tick, t.Apart True c u ∧ (u.ending c).Apart True c (t.endings g) := by
  obtain ⟨h1, h2⟩ := Tick.forChannels_turn (Tick.Apart.refl True c) Tick.Apart.trans (fun u _ hd => u.ending_apart hd) t g
  rw [Tick.when_of_mem _ _ hc] at h2
  exact ⟨_, h1, h2⟩

/-! ### Lanes that do not bind a channel -/

theorem Tick.Finishes.running {t : Tick} {x : Lane} (h : t.Finishes x) : x.running = true := by
  obtain ⟨cur, -, ⟨hx, -⟩ | ⟨hx, -⟩⟩ := h <;> exact (Lane.running_iff x).2 (by rw [hx]; decide)

theorem Tick.Applies.running {t : Tick} {x : Lane} {step : StepRecord} (h : t.Applies x step) : x.running = true := by
  obtain ⟨hx, -⟩ | ⟨hf, -⟩ := h
  · exact (Lane.running_iff x).2 (by rw [hx]; decide)
  · exact hf.running

theorem Lane.idle_of_follows {x y : Lane} (h : x.Follows y) (hx : x.state = .idle) : y.state = .idle := by
  by_contra hy
  exact absurd hx ((Lane.running_iff x).1 (h.1 ((Lane.running_iff y).2 hy)).1)

/-- A channel that is not of the lane takes no part of its step, and no jump but L1's, once it has advanced. -/
theorem Tick.applyFields_chan_of_not_mem (t : Tick) (step : StepRecord) {x : Lane} {c : Channel}
    (h : x.channels.get c = false) : (t.applyFields step x).st.chans.get c
      = { t.st.chans.get c with phase := (t.st.chans.get c).phase + t.carried (step.jumpOf x .L1) c } := by
  rw [Tick.applyFields_chan, Chan.takeParts_of_not_mem _ _ h, step.jumpOf_of_not_mem h]
  cases hl : (t.st.chans.get c).link <;> simp [Chan.movedBy, hl]

theorem Tick.applyFields_fresh_of_not_mem (t : Tick) (step : StepRecord) {x : Lane} {c : Channel}
    (h : x.channels.get c = false) : (t.applyFields step x).freshLevel.get c = t.freshLevel.get c
      ∧ (t.applyFields step x).freshFreq.get c = t.freshFreq.get c := by
  have hr : (reached step x).get c = false := by
    rw [← Bool.not_eq_true, reached_get, h]
    simp
  simp [Tick.applyFields_freshLevel, Tick.applyFields_freshFreq, hr, h]

/-- A lane that does not bind the channel passes it by; `still` when the lane is idle. -/
theorem Tick.laneWork_apart {still : Prop} {t : Tick} {l : LaneId} {c : Channel}
    (h : (t.st.lanes.get l).binds c = false) (idle : still → (t.st.lanes.get l).state = .idle) :
    t.Apart still c (t.laneWork l) := by
  have kept := (t.laneWork_effect l).kept
  have free : (t.st.lanes.get l).running = true → (t.st.lanes.get l).channels.get c = false := by
    intro hr
    simpa [Lane.binds, hr] using h
  have parts : (t.laneWork l).st.chans.get c
        = { t.st.chans.get c with phase := ((t.laneWork l).st.chans.get c).phase }
      ∧ (t.adv.get c = none → ((t.laneWork l).st.chans.get c).phase = (t.st.chans.get c).phase)
      ∧ (t.laneWork l).freshLevel.get c = t.freshLevel.get c
      ∧ (t.laneWork l).freshFreq.get c = t.freshFreq.get c := by
    cases t.laneWork_effect l with
    | quiet q =>
      rw [q.st.chans, q.freshLevel, q.freshFreq]
      exact ⟨rfl, fun _ => rfl, rfl, rfl⟩
    | applied step ha q q' =>
      have out := free ha.running
      rw [q'.st.chans, q'.freshLevel, q'.freshFreq, Tick.applyFields_chan_of_not_mem _ _ out,
        (Tick.applyFields_fresh_of_not_mem _ _ out).1, (Tick.applyFields_fresh_of_not_mem _ _ out).2, q.st.chans,
        q.freshLevel, q.freshFreq]
      refine ⟨rfl, fun e => ?_, rfl, rfl⟩
      simp [Tick.carried, q.adv, e]
    | reverted v hx _ _ _ _ hv q =>
      have out := free ((Lane.running_iff _).2 (by rw [hx]; decide))
      have same := hv c (by simp [Tick.revertsNow, out])
      rw [q.st.chans, q.freshLevel, q.freshFreq]
      exact ⟨by simp [Tick.withState, same], fun _ => by simp [Tick.withState, same], rfl, rfl⟩
  obtain ⟨chan, phase, freshLevel, freshFreq⟩ := parts
  have unmoved : still → t.laneWork l = t := fun hs => t.laneWork_of_idle l (idle hs)
  exact {
    chan := chan
    phase := fun e => e.elim (fun hs => by rw [unmoved hs]) phase
    jump1 := fun hs => by rw [unmoved hs]
    adv := by rw [kept.adv]
    freshLevel := freshLevel
    freshFreq := freshFreq
    lanes := kept.lanes
    settled := fun k => k.congr (by rw [kept.trip]) (by rw [kept.trip]) kept.links
    output := fun _ => by rw [kept.trip]
    kept := kept_laneWork t l
    events := kept.events }

/-- The lanes' work passes an unbound channel by; `still` when every lane is idle. -/
theorem Tick.lanesIn_apart {still : Prop} {t : Tick} {c : Channel} (h : t.st.Unbound c) (idle : still → t.st.lanesIdle)
    (g : ChannelSet) : t.Apart still c (t.lanesIn g) := by
  refine Tick.lanesIn_keeps (P := fun u => t.Apart still c u) (fun u l hu _ => ?_) (.refl _ c t)
  exact hu.trans (Tick.laneWork_apart (hu.unbound h l) fun hs => Lane.idle_of_follows (hu.lanes l) (idle hs l))

/-! ### The links' sources -/

/-- The links' sources leave an unbound channel, and every channel when no entry is due. -/
theorem Tick.takeLinks_apart {t : Tick} {c : Channel} (o : LinkOrder) (h : t.st.Unbound c ∨ t.st.Settled) :
    t.Apart True c (t.withState (t.st.takeLinks o)) := by
  have reverts := t.st.reverts_takeLinks o
  have chan : (t.st.takeLinks o).chans.get c = t.st.chans.get c := by
    obtain h | h := h
    · exact reverts.unbound h
    · rw [(h.takeLinks o).frame]
  exact {
    chan := by simp [Tick.withState, chan]
    phase := fun _ => by simp [Tick.withState, chan]
    jump1 := fun _ => rfl
    adv := rfl
    freshLevel := rfl
    freshFreq := rfl
    lanes := reverts.lanes
    settled := fun k => ((k.takeLink _).2.takeLink _).2.takeLink _ |>.2
    output := fun k => by rw [Tick.withState, (k.takeLinks o).outputs]
    kept := kept_takeLinks _ o
    events := fun _ h => h }

/-! ### A group's work -/

/-- The work of a group passes an unbound channel of the other group by. -/
theorem Tick.work_apart {still : Prop} {t : Tick} {g : ChannelSet} {c : Channel} (hc : g.get c = false)
    (h : t.st.Unbound c) (idle : still → t.st.lanesIdle) : t.Apart still c (t.work g) := by
  have opened : t.Apart still c (t.openings g) := (t.openings_beside hc).apart.mono
  rw [Tick.work_eq]
  refine (opened.trans (Tick.lanesIn_apart (opened.unbound h) (fun hs l => ?_) g)).trans
    (Tick.endings_apart _ hc).mono
  exact Lane.idle_of_follows (opened.lanes l) (idle hs l)

/-- The work of a group, seen by an unbound channel of it: its opening and its ending. -/
theorem Tick.work_turn {still : Prop} {t : Tick} {g : ChannelSet} {c : Channel} (hc : g.get c = true)
    (h : t.st.Unbound c) (idle : still → t.st.lanesIdle) : ∃ u : Tick,
      ((t.turn g Tick.opening c).opening c).Apart still c u ∧ (u.ending c).Apart still c (t.work g) := by
  obtain ⟨before, after⟩ := t.openings_turn hc
  have opened : (t.openings g).st.Unbound c ∧ (still → (t.openings g).st.lanesIdle) := by
    have lanes : ∀ l : LaneId, (t.st.lanes.get l).Follows ((t.openings g).st.lanes.get l) :=
      (Tick.forChannels_keeps (P := fun u => ∀ l : LaneId, (t.st.lanes.get l).Follows (u.st.lanes.get l))
        (fun u d _ hu l => by rw [(u.opening_spec d).lanes]; exact hu l) fun l => .refl _)
    exact ⟨h.follows lanes, fun hs l => Lane.idle_of_follows (lanes l) (idle hs l)⟩
  obtain ⟨u, h1, h2⟩ := ((t.openings g).lanesIn g).endings_turn hc
  exact ⟨u, (after.apart.mono.trans (Tick.lanesIn_apart opened.1 opened.2 g)).trans h1.mono, h2.mono⟩

/-- A group without channels has no work. -/
theorem Tick.work_none (t : Tick) : t.work (PerChannel.all false) = t := by
  have lane : ∀ (u : Tick) (l : LaneId), u.laneIn (PerChannel.all false) l = u := fun u l => by
    simp [Tick.laneIn]
  have openings : t.openings (PerChannel.all false) = t := rfl
  have endings : ∀ u : Tick, u.endings (PerChannel.all false) = u := fun _ => rfl
  rw [Tick.work_eq, openings, endings, Tick.lanesIn, lane, lane, lane]

/-! ### The advances -/

theorem State.advanceOf_of_unlinked {s : State} {c : Channel} (h : s.followed c = none) : s.advanceOf c
    = ⟨(s.chans.get c).phase, (s.chans.get c).phase + BitVec.ofInt 32 (s.chans.get c).active.word⟩ := by
  cases c with
  | L1 => rfl
  | L2 =>
    have hl : (s.chans.get .L2).link = none := h
    simp only [State.advanceOf, hl]
    rfl
  | L3 =>
    have hl : (s.chans.get .L3).link = none := h
    simp only [State.advanceOf, hl]
    rfl

theorem State.advanceOf_of_follower {s : State} {c : Channel} {offset : Phase} (h : s.followed c = some offset) :
    s.advanceOf c = ⟨(s.chans.get c).phase, (s.advanceOf .L1).after + offset⟩ := by
  cases c with
  | L1 => cases h
  | L2 =>
    have hl : (s.chans.get .L2).link = some offset := h
    simp only [State.advanceOf, hl]
    rfl
  | L3 =>
    have hl : (s.chans.get .L3).link = some offset := h
    simp only [State.advanceOf, hl]
    rfl

/-- A channel whose record stands makes the advance that its state foretells, L1 having advanced when it follows
(R6, R7). -/
theorem Tick.nextAdvance_eq {s : State} {t : Tick} {c : Channel} (hc : t.st.chans.get c = s.chans.get c)
    (h1 : (s.followed c).isSome = true → t.adv.get .L1 = some (s.advanceOf .L1)) :
    t.nextAdvance c = s.advanceOf c := by
  have followed : t.st.followed c = s.followed c := by simp only [State.followed, hc]
  unfold Tick.nextAdvance
  rw [followed, hc]
  cases hf : s.followed c with
  | none => rw [State.advanceOf_of_unlinked hf]
  | some offset =>
    have leader : t.leader = (s.advanceOf .L1).after := by
      rw [Tick.leader, show t.adv.l1 = some (s.advanceOf .L1) from h1 (by rw [hf]; rfl)]
    rw [State.advanceOf_of_follower hf, leader]

theorem Tick.nextAdvance_l1 {s : State} {t : Tick} (hc : t.st.chans.get .L1 = s.chans.get .L1) :
    t.nextAdvance .L1 = s.advanceOf .L1 := Tick.nextAdvance_eq hc fun h => by cases h

theorem State.followed_isSome {s : State} {c : Channel} (h : (s.followed c).isSome = true) :
    c ≠ .L1 ∧ (s.chans.get c).link.isSome = true := by
  unfold State.followed at h
  split_ifs at h with hc
  · cases h
  · exact ⟨hc, h⟩

theorem Tick.work_adv_l1 (t : Tick) (g : ChannelSet) : (t.work g).adv.get .L1
    = if g.get .L1 = true then some (t.nextAdvance .L1) else t.adv.get .L1 := by
  rw [Tick.work_eq, Tick.endings_adv, (Tick.lanesIn_kept _ g).adv]
  unfold Tick.openings Tick.forChannels
  simp [Tick.when_opening_adv]

/-! ### The scratch record as the channels' work begins -/

/-- What the verdicts leave of the state, and the empty scratch record. -/
structure Tick.Begun (t : Tick) (s : State) : Prop where
  chans : t.st.chans = s.chans
  lanes : t.st.lanes = s.lanes
  trip : t.st.trip = s.trip
  sense : t.st.sense = s.sense
  verdict : ∀ c : Channel, t.verdict.get c = (s.links.get c).verdict.2
  adv : ∀ c : Channel, t.adv.get c = none
  jump1 : t.jump1 = 0#32
  freshLevel : ∀ c : Channel, t.freshLevel.get c = false
  freshFreq : ∀ c : Channel, t.freshFreq.get c = false
  kept : s.tickKept t.st

theorem Tick.verdicts_begun (s : State) : (Tick.verdicts s).Begun s := by
  have kept := kept_verdicts s
  obtain ⟨e, he⟩ := Tick.verdicts_eq s
  rw [he] at kept ⊢
  refine ⟨rfl, rfl, rfl, rfl, fun c => ?_, fun c => ?_, rfl, fun c => ?_, fun c => ?_, kept⟩ <;> cases c <;> rfl

theorem Tick.Begun.chan {s : State} {t : Tick} (b : t.Begun s) (c : Channel) : t.st.chans.get c = s.chans.get c := by
  rw [b.chans]

/-- L1 has made the advance that the state foretells, or is about to, after the first group and the links' sources, when
no lane binds it. -/
theorem Tick.Begun.l1_ahead {s : State} {t : Tick} (b : t.Begun s) (o : LinkOrder) (g : ChannelSet)
    (h : s.Unbound .L1) :
    let u := (t.work g).withState ((t.work g).st.takeLinks o)
    (if (otherChannels g).get .L1 = true then some (u.nextAdvance .L1) else u.adv.get .L1) = some (s.advanceOf .L1) := by
  intro u
  have unbound : t.st.Unbound .L1 := fun l => by rw [b.lanes]; exact h l
  cases hg : g.get .L1 with
  | true =>
    have adv : u.adv.get .L1 = some (t.nextAdvance .L1) := (t.work_adv_l1 g).trans (if_pos hg)
    rw [otherChannels_get, hg, adv, Tick.nextAdvance_l1 (b.chan _)]
    rfl
  | false =>
    have first : t.Apart False .L1 (t.work g) := Tick.work_apart hg unbound False.elim
    have taken : t.Apart False .L1 u := first.trans (Tick.takeLinks_apart o (.inl (first.unbound unbound))).mono
    rw [otherChannels_get, hg, Tick.nextAdvance_l1 ((taken.chan_eq (.inr (b.adv _))).trans (b.chan _))]
    rfl

/-- The channels' work seen by an unbound channel: its opening, in either group, and its ending. It makes the advance
that the state foretells unless it follows a bound L1, which an entry may revert first. -/
theorem Tick.Begun.channelWork_of_unbound {still : Prop} {s : State} {t : Tick} (b : t.Begun s) (o : TickOrder)
    {g : ChannelSet} {c : Channel} (h : s.Unbound c) (idle : still → s.lanesIdle)
    (leader : c ≠ .L1 → (t.st.chans.get c).link.isSome = true → g.get c = true → g.get .L1 = true) :
    ∃ u v : Tick, t.Apart still c u
      ∧ ((s.followed c).isSome = true → s.Unbound .L1 → u.adv.get .L1 = some (s.advanceOf .L1))
      ∧ (u.opening c).Apart still c v ∧ (v.ending c).Apart still c (t.channelWork o g) := by
  have unbound : t.st.Unbound c := fun l => by rw [b.lanes]; exact h l
  have idle : still → t.st.lanesIdle := fun hs l => by rw [b.lanes]; exact idle hs l
  have eq : t.channelWork o g = ((t.work g).withState ((t.work g).st.takeLinks o.sources)).work (otherChannels g) := rfl
  rw [eq]
  cases hg : g.get c with
  | true =>
    obtain ⟨v, h1, h2⟩ := Tick.work_turn hg unbound idle
    have before := (t.openings_turn hg).1
    have lanes : ∀ l : LaneId, (t.st.lanes.get l).Follows ((t.work g).st.lanes.get l) := by
      intro l
      have opening : (t.turn g Tick.opening c).st.lanes = ((t.turn g Tick.opening c).opening c).st.lanes :=
        ((t.turn g Tick.opening c).opening_spec c).lanes.symm
      have ending : (v.ending c).st.lanes = v.st.lanes := (v.ending_spec c).lanes
      exact ((before.apart.lanes l).trans (opening ▸ h1.lanes l)).trans (ending ▸ h2.lanes l)
    have taken := Tick.takeLinks_apart o.sources (.inl (unbound.follows lanes))
    refine ⟨_, v, before.apart.mono, fun hf _ => ?_, h1, (h2.trans taken.mono).trans
      (Tick.work_apart (by simp [hg]) (taken.unbound (unbound.follows lanes)) fun hs l => ?_)⟩
    · obtain ⟨hc, hl⟩ := State.followed_isSome hf
      rw [t.turn_opening_l1 g hc, if_pos (leader hc (by rwa [b.chan]) hg), Tick.nextAdvance_l1 (b.chan _)]
    · exact Lane.idle_of_follows ((lanes l).trans (taken.lanes l)) (idle hs l)
  | false =>
    have first : t.Apart still c (t.work g) := Tick.work_apart hg unbound idle
    have taken := first.trans (Tick.takeLinks_apart o.sources (.inl (first.unbound unbound))).mono
    set u := (t.work g).withState ((t.work g).st.takeLinks o.sources) with hu
    have other : (otherChannels g).get c = true := by simp [hg]
    obtain ⟨v, h1, h2⟩ := Tick.work_turn other (taken.unbound unbound) fun hs l =>
      Lane.idle_of_follows (taken.lanes l) (idle hs l)
    refine ⟨_, v, taken.trans (u.openings_turn other).1.apart.mono, fun hf h1 => ?_, h1, h2⟩
    rw [u.turn_opening_l1 _ (State.followed_isSome hf).1]
    exact b.l1_ahead o.sources g h1

/-- A sample event seen by an unbound channel, up to the frames. -/
theorem tickChannels_of_unbound {still : Prop} (o : TickOrder) {s : State} {c : Channel} (h : s.Unbound c)
    (idle : still → s.lanesIdle) : ∃ u v : Tick, (Tick.verdicts s).Apart still c u
      ∧ ((s.followed c).isSome = true → s.Unbound .L1 → u.adv.get .L1 = some (s.advanceOf .L1))
      ∧ (u.opening c).Apart still c v ∧ (v.ending c).Apart still c (tickChannels o s) :=
  (Tick.verdicts_begun s).channelWork_of_unbound o h idle fun hc hl hg =>
    (Tick.verdicts s).st.firstGroup_leader o.before hc hl hg

/-! ### A sample event without an entry -/

/-- Every channel has advanced, as the state foretells, and no lane has worked (R4, R6, R7, R38, R114). -/
structure Tick.AllOpened (t : Tick) (s : State) : Prop where
  chan : ∀ c : Channel, t.st.chans.get c
    = Chan.promoted { s.chans.get c with phase := (s.advanceOf c).after } (s.advanceOf c)
  adv : ∀ c : Channel, t.adv.get c = some (s.advanceOf c)
  closed : ∀ c : Channel, t.closed.get c = s.closes c
  lanes : t.st.lanes = s.lanes
  freshLevel : ∀ c : Channel, t.freshLevel.get c = false
  freshFreq : ∀ c : Channel, t.freshFreq.get c = false
  kept : s.tickKept t.st

theorem Tick.openings_lanes (t : Tick) (g : ChannelSet) : (t.openings g).st.lanes = t.st.lanes :=
  Tick.forChannels_keeps (P := fun u => u.st.lanes = t.st.lanes) (fun u c _ h => (u.opening_spec c).lanes.trans h) rfl

theorem Tick.endings_lanes (t : Tick) (g : ChannelSet) : (t.endings g).st.lanes = t.st.lanes :=
  Tick.forChannels_keeps (P := fun u => u.st.lanes = t.st.lanes) (fun u c _ h => (u.ending_spec c).lanes.trans h) rfl

theorem Tick.Begun.openings_all {s : State} {t : Tick} (b : t.Begun s) :
    (t.openings (PerChannel.all true)).AllOpened s := by
  have all : ∀ c : Channel, (PerChannel.all true : ChannelSet).get c = true := fun c => PerChannel.get_all c true
  have one : ∀ c : Channel, ∃ u : Tick, t.Beside c u ∧ u.nextAdvance c = s.advanceOf c
      ∧ (u.opening c).Beside c (t.openings (PerChannel.all true)) := by
    intro c
    obtain ⟨before, after⟩ := t.openings_turn (all c)
    refine ⟨_, before, Tick.nextAdvance_eq ((before.apart.chan_eq (.inl trivial)).trans (b.chan c)) fun hf => ?_, after⟩
    rw [t.turn_opening_l1 _ (State.followed_isSome hf).1, if_pos (all _), Tick.nextAdvance_l1 (b.chan _)]
  refine ⟨fun c => ?_, fun c => ?_, fun c => ?_, (t.openings_lanes _).trans b.lanes, fun c => ?_, fun c => ?_, ?_⟩
  · obtain ⟨u, before, adv, after⟩ := one c
    have late : u.lateJump c = 0#32 := by
      simp [Tick.lateJump, before.apart.jump1 trivial, b.jump1]
    rw [after.apart.chan_eq (.inl trivial), (u.opening_spec c).chans, PerChannel.get_set_self, adv, late,
      before.apart.chan_eq (.inl trivial), b.chan, BitVec.add_zero]
  · obtain ⟨u, -, adv, after⟩ := one c
    rw [after.apart.adv, (u.opening_spec c).adv, PerChannel.get_set_self, adv]
  · obtain ⟨u, before, adv, after⟩ := one c
    rw [after.closed, (u.opening_spec c).closed, PerChannel.get_set_self, adv, before.sense, before.verdict, b.sense,
      b.verdict]
    rfl
  · obtain ⟨u, before, -, after⟩ := one c
    rw [after.apart.freshLevel, (u.opening_spec c).freshLevel, before.apart.freshLevel, b.freshLevel]
  · obtain ⟨u, before, -, after⟩ := one c
    rw [after.apart.freshFreq, (u.opening_spec c).freshFreq, before.apart.freshFreq, b.freshFreq]
  · exact State.tickKept_trans b.kept (kept_forChannels _ _ _ fun u c => kept_opening u c)

/-- The work of a group makes no entry due. -/
theorem Tick.work_settled {t : Tick} (h : t.st.Settled) (g : ChannelSet) : (t.work g).st.Settled := by
  have opened : (t.openings g).st.Settled :=
    Tick.forChannels_keeps (P := fun u => u.st.Settled) (fun u c _ hu => (u.opening_spec c).settled hu) h
  have kept := (t.openings g).lanesIn_kept g
  have worked : ((t.openings g).lanesIn g).st.Settled :=
    opened.congr (by rw [kept.trip]) (by rw [kept.trip]) kept.links
  refine Tick.forChannels_keeps (P := fun u => u.st.Settled) (fun u c _ hu => ?_) worked
  exact hu.congr (by rw [(u.ending_spec c).trip]) (by rw [(u.ending_spec c).trip]) (u.ending_spec c).links

/-- With every channel in the first group the links' sources come last. -/
theorem Tick.channelWork_all (t : Tick) (o : TickOrder) :
    t.channelWork o (PerChannel.all true) = (t.work (PerChannel.all true)).withState
      ((t.work (PerChannel.all true)).st.takeLinks o.sources) :=
  Tick.work_none _

/-- A sample event without an entry, up to the frames: after the openings of all channels and the lanes' work, a channel's
ending is all that is left for it, and the lanes stand. -/
theorem tickChannels_of_noEntryDue (o : TickOrder) {s : State} (h : s.noEntryDue) : ∃ t : Tick, t.AllOpened s
    ∧ (tickChannels o s).st.lanes = (t.lanesIn (PerChannel.all true)).st.lanes
    ∧ ∀ c : Channel, ∃ u : Tick, (t.lanesIn (PerChannel.all true)).Apart True c u
        ∧ (u.ending c).Apart True c (tickChannels o s) := by
  have settled := h.settled
  have eq : tickChannels o s = ((Tick.verdicts s).work (PerChannel.all true)).withState
      (((Tick.verdicts s).work (PerChannel.all true)).st.takeLinks o.sources) := by
    rw [tickChannels, State.firstGroup_of_settled settled, Tick.channelWork_all]
  have worked := Tick.work_settled settled (PerChannel.all true)
  have opened := (Tick.verdicts_begun s).openings_all
  generalize Tick.verdicts s = t at eq worked opened
  refine ⟨_, opened, ?_, fun c => ?_⟩
  · have taken : ((t.work (PerChannel.all true)).st.takeLinks o.sources).lanes
        = (t.work (PerChannel.all true)).st.lanes := by
      rw [(worked.takeLinks o.sources).frame]
    rw [eq]
    exact taken.trans (Tick.endings_lanes _ _)
  · obtain ⟨u, h1, h2⟩ := Tick.endings_turn (c := c) ((t.openings (PerChannel.all true)).lanesIn (PerChannel.all true))
      (PerChannel.get_all c true)
    rw [eq]
    exact ⟨u, h1, h2.trans (Tick.takeLinks_apart o.sources (.inr worked))⟩

end Sys2Proof.Machine
end

section
/-! PROOF. A ramp in progress makes its step at every sample event that brings the channel no promotion, no part of its
kind and no revert (R13, R14): both kinds at once (`RampKind`). The ramp stands (`Tick.RampAt`) up to the channel's ending,
because a lane that spares the channel applies no part of the kind and does not revert it (`State.laneSpares`). -/

namespace Sys2Proof.Machine

/-! ### What an applied step leaves of a channel's fields -/

/-- The level part alone decides the level, the envelope and the level ramp (R12, R88). -/
theorem Chan.takeParts_level (y : Chan) (step : StepRecord) (x : Lane) (c : Channel) :
    let z := (if (reached step x).get c then step.level else none).elim y y.applyLevel
    (y.takeParts step x c).active.level = z.active.level ∧ (y.takeParts step x c).env = z.env
      ∧ (y.takeParts step x c).levelRamp = z.levelRamp := by
  unfold Chan.takeParts
  generalize (if (reached step x).get c = true then step.level else none) = level
  generalize (if (reached step x).get c = true then step.shape else none) = shape
  generalize (if (x.channels.get c && y.link.isNone) = true then step.freq else none) = freq
  have freqs : ∀ (z : Chan) (p : FreqPart), (z.applyFreq p).active.level = z.active.level
      ∧ (z.applyFreq p).env = z.env ∧ (z.applyFreq p).levelRamp = z.levelRamp := by
    intro z p
    unfold Chan.applyFreq
    dsimp only
    split_ifs <;> exact ⟨rfl, rfl, rfl⟩
  cases level <;> cases shape <;> cases freq <;> simp [freqs, Chan.applyShape]

/-- The frequency part alone decides the frequency, the word and the frequency ramp (R14, R88). -/
theorem Chan.takeParts_freq (y : Chan) (step : StepRecord) (x : Lane) (c : Channel) :
    let z := (if x.channels.get c && y.link.isNone then step.freq else none).elim y y.applyFreq
    (y.takeParts step x c).active.freq = z.active.freq ∧ (y.takeParts step x c).active.word = z.active.word
      ∧ (y.takeParts step x c).freqRamp = z.freqRamp := by
  unfold Chan.takeParts
  generalize (if (reached step x).get c = true then step.level else none) = level
  generalize (if (reached step x).get c = true then step.shape else none) = shape
  generalize (if (x.channels.get c && y.link.isNone) = true then step.freq else none) = freq
  have levels : ∀ p : LevelPart, (y.applyLevel p).active.freq = y.active.freq
      ∧ (y.applyLevel p).active.word = y.active.word ∧ (y.applyLevel p).freqRamp = y.freqRamp := by
    intro p
    unfold Chan.applyLevel
    dsimp only
    split_ifs <;> exact ⟨rfl, rfl, rfl⟩
  have freqs : ∀ (z : Chan) (p : FreqPart), z.active.word = y.active.word →
      (z.applyFreq p).active.freq = (y.applyFreq p).active.freq
      ∧ (z.applyFreq p).active.word = (y.applyFreq p).active.word
      ∧ (z.applyFreq p).freqRamp = (y.applyFreq p).freqRamp := by
    intro z p hz
    unfold Chan.applyFreq
    dsimp only
    split_ifs
    · exact ⟨rfl, rfl, rfl⟩
    · exact ⟨rfl, hz, by rw [hz]⟩
  have shaped : ∀ z : Chan, z.active.freq = y.active.freq ∧ z.active.word = y.active.word ∧ z.freqRamp = y.freqRamp →
      ∀ p : ShapePart, (z.applyShape p).active.freq = y.active.freq ∧ (z.applyShape p).active.word = y.active.word
        ∧ (z.applyShape p).freqRamp = y.freqRamp := fun z hz p => hz
  have before : ∀ z : Chan, z.active.freq = y.active.freq ∧ z.active.word = y.active.word ∧ z.freqRamp = y.freqRamp →
      ((freq.map z.applyFreq).getD z).active.freq = (freq.elim y y.applyFreq).active.freq
      ∧ ((freq.map z.applyFreq).getD z).active.word = (freq.elim y y.applyFreq).active.word
      ∧ ((freq.map z.applyFreq).getD z).freqRamp = (freq.elim y y.applyFreq).freqRamp := by
    intro z hz
    cases freq with
    | none => exact hz
    | some p => exact freqs z p hz.2.1
  refine before _ ?_
  cases level with
  | none => cases shape with
    | none => exact ⟨rfl, rfl, rfl⟩
    | some q => exact shaped y ⟨rfl, rfl, rfl⟩ q
  | some p => cases shape with
    | none => exact levels p
    | some q => exact shaped _ (levels p) q

/-! ### The two kinds of ramps -/

/-- The two kinds of ramps. -/
inductive RampKind where
  | level
  | freq

/-- The value that a kind of ramp moves (R13, R14). -/
def Chan.ramped (x : Chan) : RampKind → Int
  | .level => x.env
  | .freq => x.active.word

/-- The ramp in progress of a kind. -/
def Chan.rampOf (x : Chan) : RampKind → Option Ramp
  | .level => x.levelRamp
  | .freq => x.freqRamp

/-- The channels whose ramp of a kind was made present in stage 2. -/
def Tick.fresh (t : Tick) : RampKind → ChannelSet
  | .level => t.freshLevel
  | .freq => t.freshFreq

/-- The step parts that act on a kind of ramp of channel `c`. -/
def RampKind.part (k : RampKind) (c : Channel) : StepRecord → Prop :=
  match k with
  | .level => StepRecord.levels c
  | .freq => StepRecord.tunes

/-- The event of a ramp's end. -/
def RampKind.ended (k : RampKind) (c : Channel) : TickEvent :=
  match k with
  | .level => .levelRampEnd c
  | .freq => .frequencyRampEnd c

/-- Channel `c` is at value `v` of its ramp `r`, which steps at this sample event. -/
structure Tick.RampAt (k : RampKind) (c : Channel) (v : Int) (r : Ramp) (t : Tick) : Prop where
  value : (t.st.chans.get c).ramped k = v
  ramp : (t.st.chans.get c).rampOf k = some r
  steps : (t.fresh k).get c = false

/-- Channel `c` has made the step of its ramp `r` from value `v`, its end noted (R13, R14). -/
structure Tick.RampStepped (k : RampKind) (c : Channel) (v : Int) (r : Ramp) (t : Tick) : Prop where
  value : (t.st.chans.get c).ramped k = (stepRamp r v).1
  ramp : (t.st.chans.get c).rampOf k = (stepRamp r v).2
  ended : r.remaining ≤ 1 → k.ended c ∈ t.events

theorem Chan.ramped_setPhase (k : RampKind) (x : Chan) (p : Phase) :
    ({ x with phase := p } : Chan).ramped k = x.ramped k := by
  cases k <;> rfl

theorem Chan.rampOf_setPhase (k : RampKind) (x : Chan) (p : Phase) :
    ({ x with phase := p } : Chan).rampOf k = x.rampOf k := by
  cases k <;> rfl

section
variable {k : RampKind} {c : Channel} {v : Int} {r : Ramp}

theorem Tick.Apart.rampAt {still : Prop} {t u : Tick} (h : t.Apart still c u) (hr : t.RampAt k c v r) :
    u.RampAt k c v r := by
  refine ⟨?_, ?_, ?_⟩
  · rw [h.chan, Chan.ramped_setPhase, hr.value]
  · rw [h.chan, Chan.rampOf_setPhase, hr.ramp]
  · cases k with
    | level => exact h.freshLevel.trans hr.steps
    | freq => exact h.freshFreq.trans hr.steps

theorem Tick.Apart.rampStepped {still : Prop} {t u : Tick} (h : t.Apart still c u) (hr : t.RampStepped k c v r) :
    u.RampStepped k c v r := by
  refine ⟨?_, ?_, fun h1 => h.events (hr.ended h1)⟩
  · rw [h.chan, Chan.ramped_setPhase, hr.value]
  · rw [h.chan, Chan.rampOf_setPhase, hr.ramp]

/-- Without a promotion the opening leaves the ramp. -/
theorem Tick.RampAt.opening {t : Tick} (h : t.RampAt k c v r)
    (hp : (t.st.chans.get c).staged = none ∨ (t.nextAdvance c).wraps = false) : (t.opening c).RampAt k c v r := by
  have spec := t.opening_spec c
  have chan : (t.opening c).st.chans.get c
      = { t.st.chans.get c with phase := (t.nextAdvance c).after + t.lateJump c } := by
    rw [spec.chans, PerChannel.get_set_self]
    exact Chan.promoted_eq_self hp
  refine ⟨?_, ?_, ?_⟩
  · rw [chan, Chan.ramped_setPhase, h.value]
  · rw [chan, Chan.rampOf_setPhase, h.ramp]
  · cases k with
    | level => exact (congrArg (·.get c) spec.freshLevel).trans h.steps
    | freq => exact (congrArg (·.get c) spec.freshFreq).trans h.steps

/-- A ramp in progress that is not fresh makes its step in stage 3. -/
theorem Chan.rampsStepped_level (x : Chan) {r : Ramp} (h : x.levelRamp = some r) (b : Bool) :
    (x.rampsStepped false b).env = (stepRamp r x.env).1 ∧ (x.rampsStepped false b).levelRamp = (stepRamp r x.env).2 := by
  have level : x.stepLevel = { x with env := (stepRamp r x.env).1, levelRamp := (stepRamp r x.env).2 } := by
    unfold Chan.stepLevel
    rw [h]
  unfold Chan.rampsStepped
  cases b
  · simp only [Bool.false_eq_true, if_false]
    rw [Chan.stepFreq_frame, level]
    exact ⟨rfl, rfl⟩
  · simp only [Bool.false_eq_true, if_true, if_false]
    rw [level]
    exact ⟨rfl, rfl⟩

theorem Chan.rampsStepped_freq (x : Chan) {r : Ramp} (h : x.freqRamp = some r) (b : Bool) :
    (x.rampsStepped b false).active.word = (stepRamp r x.active.word).1
      ∧ (x.rampsStepped b false).freqRamp = (stepRamp r x.active.word).2 := by
  have freq : ∀ y : Chan, y.active = x.active → y.freqRamp = some r →
      y.stepFreq.active.word = (stepRamp r x.active.word).1 ∧ y.stepFreq.freqRamp = (stepRamp r x.active.word).2 := by
    intro y ha hy
    unfold Chan.stepFreq
    rw [hy, ha]
    exact ⟨rfl, rfl⟩
  unfold Chan.rampsStepped
  cases b
  · refine freq _ ?_ ?_
    · show x.stepLevel.active = _
      rw [Chan.stepLevel_frame]
    · show x.stepLevel.freqRamp = _
      rw [Chan.stepLevel_frame]
      exact h
  · exact freq x rfl h

theorem Tick.RampAt.ending {t : Tick} (h : t.RampAt k c v r) : (t.ending c).RampStepped k c v r := by
  have spec := t.ending_spec c
  obtain ⟨n, hn⟩ := spec.chans
  obtain ⟨value, ramp, steps⟩ := h
  cases k with
  | level =>
    obtain ⟨h1, h2⟩ := Chan.rampsStepped_level _ ramp (t.freshFreq.get c)
    have fresh : t.freshLevel.get c = false := steps
    have env : (t.st.chans.get c).env = v := value
    rw [env] at h1 h2
    refine ⟨?_, ?_, spec.levelEnd steps r ramp⟩
    · rw [hn, PerChannel.get_set_self, fresh]
      exact h1
    · rw [hn, PerChannel.get_set_self, fresh]
      exact h2
  | freq =>
    obtain ⟨h1, h2⟩ := Chan.rampsStepped_freq _ ramp (t.freshLevel.get c)
    have fresh : t.freshFreq.get c = false := steps
    have word : (t.st.chans.get c).active.word = v := value
    rw [word] at h1 h2
    refine ⟨?_, ?_, spec.freqEnd steps r ramp⟩
    · rw [hn, PerChannel.get_set_self, fresh]
      exact h1
    · rw [hn, PerChannel.get_set_self, fresh]
      exact h2

/-! ### Lanes that spare a channel -/

/-- The fields of a step without a part of the kind for the channel leave the ramp. -/
theorem Tick.RampAt.applyFields {t : Tick} (h : t.RampAt k c v r) {step : StepRecord} {x : Lane}
    (hs : x.channels.get c = true → ¬ k.part c step) : (t.applyFields step x).RampAt k c v r := by
  obtain ⟨value, ramp, steps⟩ := h
  cases k with
  | level =>
    have unreached : (if (reached step x).get c = true then step.level else none) = none := by
      split_ifs with hr
      · obtain ⟨hx, hm⟩ := (reached_get step x c).1 hr
        by_contra hl
        exact hs hx ⟨hl, hm⟩
      · rfl
    obtain ⟨-, env, levelRamp⟩ := Chan.takeParts_level (t.st.chans.get c) step x c
    rw [unreached] at env levelRamp
    refine ⟨?_, ?_, ?_⟩
    · rw [Tick.applyFields_chan]
      exact env.trans value
    · rw [Tick.applyFields_chan]
      exact levelRamp.trans ramp
    · have fresh : t.freshLevel.get c = false := steps
      show (t.applyFields step x).freshLevel.get c = false
      rw [Tick.applyFields_freshLevel, fresh]
      split_ifs at unreached with hr
      · simp [unreached]
      · simp [hr]
  | freq =>
    have untuned : (if x.channels.get c && (t.st.chans.get c).link.isNone then step.freq else none) = none := by
      split_ifs with hr
      · rw [Bool.and_eq_true] at hr
        by_contra hf
        exact hs hr.1 hf
      · rfl
    obtain ⟨-, word, freqRamp⟩ := Chan.takeParts_freq (t.st.chans.get c) step x c
    rw [untuned] at word freqRamp
    refine ⟨?_, ?_, ?_⟩
    · rw [Tick.applyFields_chan]
      exact word.trans value
    · rw [Tick.applyFields_chan]
      exact freqRamp.trans ramp
    · have fresh : t.freshFreq.get c = false := steps
      show (t.applyFields step x).freshFreq.get c = false
      rw [Tick.applyFields_freshFreq, fresh]
      split_ifs at untuned with hr
      · simp [untuned]
      · simp [hr]

theorem Tick.Quiet.rampAt {t u : Tick} {l : LaneId} (q : t.Quiet l u) (h : t.RampAt k c v r) : u.RampAt k c v r := by
  refine ⟨by rw [q.st.chans]; exact h.value, by rw [q.st.chans]; exact h.ramp, ?_⟩
  cases k with
  | level => exact (congrArg (·.get c) q.freshLevel).trans h.steps
  | freq => exact (congrArg (·.get c) q.freshFreq).trans h.steps

/-- A lane that applies no part of the kind to the channel and does not revert it leaves the ramp. -/
theorem Tick.RampAt.laneWork {t : Tick} (h : t.RampAt k c v r) {l : LaneId}
    (ha : ∀ step : StepRecord, t.Applies (t.st.lanes.get l) step → ¬ k.part c step)
    (hr : (t.st.lanes.get l).state = .closing → t.revertsNow (t.st.lanes.get l) c = false) :
    (t.laneWork l).RampAt k c v r := by
  cases t.laneWork_effect l with
  | quiet q => exact q.rampAt h
  | applied step happ q q' => exact q'.rampAt ((q.rampAt h).applyFields fun _ => ha step happ)
  | reverted w hx _ _ _ _ hw q =>
    have same : w.chans.get c = t.st.chans.get c := hw c (hr hx)
    refine q.rampAt ⟨?_, ?_, ?_⟩
    · rw [Tick.withState, same, h.value]
    · rw [Tick.withState, same, h.ramp]
    · cases k <;> exact h.steps

end

/-- What the sample event has noted is as the state foretells: the advances and the closed measurements; and the steps are
those of the state. -/
structure Tick.Foretold (t : Tick) (s : State) : Prop where
  adv : ∀ c : Channel, t.adv.get c = some (s.advanceOf c)
  closed : ∀ c : Channel, t.closed.get c = s.closes c
  kept : s.tickKept t.st

theorem Tick.AllOpened.foretold {t : Tick} {s : State} (h : t.AllOpened s) : t.Foretold s := ⟨h.adv, h.closed, h.kept⟩

theorem Tick.Foretold.laneWork {t : Tick} {s : State} (h : t.Foretold s) (l : LaneId) : (t.laneWork l).Foretold s := by
  have kept := (t.laneWork_effect l).kept
  exact ⟨fun c => by rw [kept.adv, h.adv], fun c => by rw [kept.closed, h.closed],
    State.tickKept_trans h.kept (kept_laneWork t l)⟩

theorem Tick.Foretold.wraps {t : Tick} {s : State} (h : t.Foretold s) (c : Channel) :
    t.wraps c = (s.advanceOf c).wraps := by
  rw [Tick.wraps, h.adv]
  rfl

theorem Tick.Foretold.stepAt {t : Tick} {s : State} (h : t.Foretold s) (x : Lane) (n : Nat) :
    t.st.stepAt x n = s.stepAt x n := by
  obtain ⟨-, -, -, steps, programs, -⟩ := h.kept
  simp only [State.stepAt, State.programOf, steps, programs]

theorem Tick.Foretold.currentStep {t : Tick} {s : State} (h : t.Foretold s) (x : Lane) :
    t.st.currentStep x = s.currentStep x := by
  unfold State.currentStep
  exact congrArg _ (funext fun n => h.stepAt x n)

theorem Tick.Foretold.due_iff {t : Tick} {s : State} (h : t.Foretold s) (x : Lane) (step : StepRecord) :
    t.due x step = true ↔ s.dueNext x step := by
  unfold Tick.due State.dueNext Tick.crosses
  cases step.sync with
  | none => simp
  | some p => simp [h.adv]

/-- A lane that finishes its step neither counts on nor waits on (R90 to R93). -/
theorem Tick.Foretold.not_finishes {t : Tick} {s : State} (h : t.Foretold s) {x : Lane} {c : Channel}
    {part : StepRecord → Prop} (hs : s.laneSpares x c part) (hf : t.Finishes x) :
    ∀ (n : Nat) (step : StepRecord), s.stepAt x n = some step → ¬ part step := by
  obtain ⟨cur, hcur, finish⟩ := hf
  rw [h.currentStep] at hcur
  obtain hx | ⟨hx, -⟩ | ⟨hx, -⟩ | ⟨hx, count⟩ | ⟨hx, wait⟩ | ⟨hx, timeout, open_⟩ | ⟨-, none⟩ := hs
  · obtain ⟨hx', -⟩ | ⟨hx', -⟩ := finish <;> rw [hx] at hx' <;> cases hx'
  · obtain ⟨hx', -⟩ | ⟨hx', -⟩ := finish <;> rw [hx] at hx' <;> cases hx'
  · obtain ⟨hx', -⟩ | ⟨hx', -⟩ := finish <;> rw [hx] at hx' <;> cases hx'
  · obtain ⟨-, -, d, hd, last, counts⟩ | ⟨hx', -⟩ := finish
    · obtain many | ⟨unit, unwrapped⟩ := count d hd
      · omega
      · have := counts unit
        rw [h.wraps, unwrapped] at this
        cases this
    · rw [hx] at hx'; cases hx'
  · obtain ⟨-, hw, -⟩ | ⟨hx', -⟩ := finish
    · exact absurd hw (wait cur hcur)
    · rw [hx] at hx'; cases hx'
  · obtain ⟨hx', -⟩ | ⟨-, w, hw, closes | ⟨one, wraps⟩⟩ := finish
    · rw [hx] at hx'; cases hx'
    · rw [h.closed] at closes
      exact absurd (open_ cur hcur w hw) closes
    · rw [h.wraps] at wraps
      obtain zero | many | unwrapped := timeout
      · omega
      · omega
      · rw [wraps] at unwrapped; cases unwrapped
  · exact none

/-- A lane that spares the channel applies no part of the kind (R85 to R95). -/
theorem Tick.Foretold.not_part {t : Tick} {s : State} (h : t.Foretold s) {x : Lane} {c : Channel}
    {part : StepRecord → Prop} (hs : s.laneSpares x c part) {step : StepRecord} (ha : t.Applies x step) :
    ¬ part step := by
  obtain ⟨hx, cur, due⟩ | ⟨hf, n, hn⟩ := ha
  · rw [h.currentStep] at cur
    obtain hx' | ⟨hx', -⟩ | ⟨-, spares⟩ | ⟨hx', -⟩ | ⟨hx', -⟩ | ⟨hx', -⟩ | ⟨-, none⟩ := hs
    · rw [hx] at hx'; cases hx'
    · rw [hx] at hx'; cases hx'
    · exact (spares step cur).resolve_left fun e => e ((h.due_iff x step).1 due)
    · rw [hx] at hx'; cases hx'
    · rw [hx] at hx'; cases hx'
    · rw [hx] at hx'; cases hx'
    · obtain ⟨n, -, hn⟩ := Option.bind_eq_some_iff.1 cur
      exact none n step hn
  · rw [h.stepAt] at hn
    exact h.not_finishes hs hf n step hn

/-- A CLOSING lane that spares the channel does not revert it (R42). -/
theorem Tick.Foretold.not_reverts {t : Tick} {s : State} (h : t.Foretold s) {x : Lane} {c : Channel}
    {part : StepRecord → Prop} (hs : s.laneSpares x c part) (hx : x.state = .closing) : t.revertsNow x c = false := by
  unfold Tick.revertsNow
  rw [h.wraps]
  obtain hx' | ⟨-, reverted | unwrapped⟩ | ⟨hx', -⟩ | ⟨hx', -⟩ | ⟨hx', -⟩ | ⟨hx', -⟩ | ⟨hx', -⟩ := hs
  · rw [hx] at hx'; cases hx'
  · simp [reverted]
  · simp [unwrapped]
  · rw [hx] at hx'; cases hx'
  · rw [hx] at hx'; cases hx'
  · rw [hx] at hx'; cases hx'
  · rw [hx] at hx'; cases hx'
  · exact absurd hx hx'

/-- A property that each lane's work keeps, the lane's record being as it was before the lanes' work, is kept by it. -/
theorem Tick.lanesIn_keeps_fresh {P : Tick → Prop} {t : Tick} {g : ChannelSet}
    (lane : ∀ (u : Tick) (l : LaneId), P u → u.st.lanes.get l = t.st.lanes.get l → P (u.laneWork l)) (h : P t) :
    P (t.lanesIn g) := by
  have one : ∀ (u : Tick) (l : LaneId), P u → u.st.lanes.get l = t.st.lanes.get l → P (u.laneIn g l) := by
    intro u l hu hl
    unfold Tick.laneIn
    split
    · exact lane u l hu hl
    · exact hu
  have others : ∀ (u : Tick) (l m : LaneId), m ≠ l → (u.laneIn g l).st.lanes.get m = u.st.lanes.get m := by
    intro u l m hm
    unfold Tick.laneIn
    split
    · exact (u.laneWork_effect l).others hm
    · rfl
  refine one _ .lane2 (one _ .lane1 (one t .lane0 h rfl) (others _ _ _ (by decide))) ?_
  rw [others _ _ _ (by decide), others _ _ _ (by decide)]

/-- The lanes' work leaves the ramp of a channel that they spare. -/
theorem Tick.AllOpened.rampAt_lanesIn {k : RampKind} {c : Channel} {v : Int} {r : Ramp} {t : Tick} {s : State}
    (h : t.AllOpened s) (hs : ∀ l : LaneId, (s.lanes.get l).binds c = true → s.laneSpares (s.lanes.get l) c (k.part c))
    (hr : t.RampAt k c v r) (g : ChannelSet) : (t.lanesIn g).RampAt k c v r := by
  refine (Tick.lanesIn_keeps_fresh (P := fun u => u.Foretold s ∧ u.RampAt k c v r) (fun u l hu hl => ?_)
    ⟨h.foretold, hr⟩).2
  obtain ⟨foretold, ramp⟩ := hu
  have record : u.st.lanes.get l = s.lanes.get l := by rw [hl, h.lanes]
  refine ⟨foretold.laneWork l, ?_⟩
  cases hb : (s.lanes.get l).binds c with
  | false => exact (Tick.laneWork_apart (still := False) (by rw [record, hb]) False.elim).rampAt ramp
  | true =>
    rw [← record] at hb
    have spares := hs l (record ▸ hb)
    rw [← record] at spares
    exact ramp.laneWork (fun _ => foretold.not_part spares) (foretold.not_reverts spares)

/-! ### A sample event -/

theorem State.unbound_of_boundTo {s : State} {c : Channel} (h : ¬ (s.boundTo c).isSome = true) : s.Unbound c :=
  State.boundTo_none (by simpa using h)

/-- A ramp in progress of a spared channel makes its step at the sample event, and its end is noted (R13, R14). -/
theorem tick_rampStepped (k : RampKind) {c : Channel} (o : TickOrder) {r : Ramp} {s : State}
    (hr : (s.chans.get c).rampOf k = some r) (h : s.spared c (k.part c)) :
    (tick o s).RampStepped k c ((s.chans.get c).ramped k) r := by
  obtain ⟨notPromoted, spared⟩ := h
  have channels : (tickChannels o s).RampStepped k c ((s.chans.get c).ramped k) r := by
    by_cases entry : s.noEntryDue
    · obtain ⟨t, opened, -, turn⟩ := tickChannels_of_noEntryDue o entry
      obtain ⟨u, before, after⟩ := turn c
      have chan : t.st.chans.get c = { s.chans.get c with phase := (s.advanceOf c).after } := by
        rw [opened.chan]
        exact Chan.promoted_eq_self (notPromoted.imp id And.left)
      have ramp : t.RampAt k c ((s.chans.get c).ramped k) r := by
        refine ⟨by rw [chan, Chan.ramped_setPhase], by rw [chan, Chan.rampOf_setPhase, hr], ?_⟩
        cases k with
        | level => exact opened.freshLevel c
        | freq => exact opened.freshFreq c
      have worked := opened.rampAt_lanesIn (fun l hl => (spared l hl).2) ramp (PerChannel.all true)
      exact after.rampStepped (before.rampAt worked).ending
    · have unbound : s.Unbound c := fun l => by
        by_contra hb
        exact entry (spared l (by simpa using hb)).1
      obtain ⟨u, v, before, leader, work, after⟩ := tickChannels_of_unbound (still := False) o unbound False.elim
      have begun := Tick.verdicts_begun s
      have chan : u.st.chans.get c = s.chans.get c := (before.chan_eq (.inr (begun.adv c))).trans (begun.chan c)
      have ramp : u.RampAt k c ((s.chans.get c).ramped k) r := by
        refine ⟨by rw [chan], by rw [chan, hr], ?_⟩
        cases k with
        | level => exact before.freshLevel.trans (begun.freshLevel c)
        | freq => exact before.freshFreq.trans (begun.freshFreq c)
      have opened : (u.opening c).RampAt k c ((s.chans.get c).ramped k) r := by
        refine ramp.opening ?_
        rw [chan]
        refine notPromoted.imp id fun ⟨unwrapped, l1⟩ => ?_
        rw [Tick.nextAdvance_eq chan fun hf => leader hf ?_, unwrapped]
        exact State.unbound_of_boundTo fun hb => entry (l1 (State.followed_isSome hf).2 hb)
      exact after.rampStepped (work.rampAt opened).ending
  have tail := tick_tail o s
  refine ⟨?_, ?_, fun h1 => tail.events (channels.ended h1)⟩
  · rw [tail.chans]; exact channels.value
  · rw [tail.chans]; exact channels.ramp

theorem tickWhen_of_mem {e : TickEvent} {o : TickOrder} {s : State} (h : e ∈ (tick o s).events) :
    tickWhen e o s = (tick o s).st := if_pos h

/-- The row of a ramp's end, and the sample events before it, of a spared channel (R13, R14). -/
theorem tick_ramp_rows (k : RampKind) {c : Channel} (o : TickOrder) {r : Ramp} {s : State}
    (hr : (s.chans.get c).rampOf k = some r) (h : s.spared c (k.part c)) :
    (r.remaining = 1 → ((tickWhen (k.ended c) o s).chans.get c).ramped k = r.target
      ∧ ((tickWhen (k.ended c) o s).chans.get c).rampOf k = none)
    ∧ (1 < r.remaining → ((tick o s).st.chans.get c).ramped k = (s.chans.get c).ramped k + r.step
      ∧ ((tick o s).st.chans.get c).rampOf k = some { r with remaining := r.remaining - 1 }) := by
  obtain ⟨value, ramp, ended⟩ := tick_rampStepped k o hr h
  refine ⟨fun last => ?_, fun inner => ?_⟩
  · rw [stepRamp_last _ _ last] at value ramp
    rw [tickWhen_of_mem (ended last.le)]
    exact ⟨value, ramp⟩
  · rw [stepRamp_inner _ _ inner] at value ramp
    exact ⟨value, ramp⟩

/-- Settles O45: a spared channel's ramp, of either kind, makes its step at the sample event. -/
theorem rampEndSetsTarget : Obligations.RampEndSetsTarget := by
  intro c o r s
  refine ⟨fun hr h => ?_, fun hr h => ?_⟩
  · obtain ⟨last, inner⟩ := tick_ramp_rows .level o hr h
    exact ⟨fun e => ⟨_, rfl, tickWhen_kept _ o s, last e⟩, fun e => ⟨_, rfl, tick_kept o s, inner e⟩⟩
  · obtain ⟨last, inner⟩ := tick_ramp_rows .freq o hr h
    exact ⟨fun e => ⟨_, rfl, tickWhen_kept _ o s, last e⟩, fun e => ⟨_, rfl, tick_kept o s, inner e⟩⟩

end Sys2Proof.Machine
end

section
/-! PROOF. The advance and the due changes of a sample event (R4, R8). Without a running lane every channel is unbound, so
its opening and its ending are all that happens to it. A lane that applies its step at a sample event without an entry does
so between work that passes its channels by (`Tick.Aside`); the parts that a channel takes are said once
(`Chan.Took`), and stage 3 leaves them because they are fresh. -/

namespace Sys2Proof.Machine

/-! ### Without a running lane -/

theorem State.lanesIdle.unbound {s : State} (h : s.lanesIdle) (c : Channel) : s.Unbound c := fun l => by
  have idle := h l
  simp [Lane.binds, Lane.running, idle]

theorem Lane.state_of_butMissed {x y : Lane} (h : y.butMissed = x.butMissed) : y.state = x.state := by
  have state : y.butMissed.state = x.butMissed.state := by rw [h]
  exact state

/-- Without a running lane a channel advances, takes its promotion and steps its ramps; its output is unparked at a wrap
when no entry is due. -/
theorem tick_of_lanesIdle (o : TickOrder) {s : State} (h : s.lanesIdle) (c : Channel) :
    (∃ n : Nat, (tick o s).st.chans.get c = { (Chan.promoted { s.chans.get c with phase := (s.advanceOf c).after }
        (s.advanceOf c)).rampsStepped false false with clip := n })
    ∧ (s.noEntryDue → (tick o s).st.trip.outputs.get c
        = if s.trip.outputs.get c = .unparking ∧ (s.advanceOf c).wraps = true then .driving
          else s.trip.outputs.get c)
    ∧ (tick o s).st.lanesIdle := by
  obtain ⟨u, v, before, leader, work, after⟩ := tickChannels_of_unbound (still := True) o (h.unbound c) fun _ => h
  have begun := Tick.verdicts_begun s
  have settled : s.noEntryDue → (Tick.verdicts s).st.Settled := State.noEntryDue.settled
  have tail := tick_tail o s
  generalize Tick.verdicts s = t at before begun settled
  generalize tickChannels o s = w at after tail
  have opening := u.opening_spec c
  have ending := v.ending_spec c
  obtain ⟨n, hn⟩ := ending.chans
  have chan : u.st.chans.get c = s.chans.get c := (before.chan_eq (.inl trivial)).trans (begun.chan c)
  have adv : u.nextAdvance c = s.advanceOf c := Tick.nextAdvance_eq chan fun hf => leader hf (h.unbound .L1)
  have late : u.lateJump c = 0#32 := by simp [Tick.lateJump, before.jump1 trivial, begun.jump1]
  have freshLevel : v.freshLevel.get c = false := by
    rw [work.freshLevel, opening.freshLevel, before.freshLevel, begun.freshLevel]
  have freshFreq : v.freshFreq.get c = false := by
    rw [work.freshFreq, opening.freshFreq, before.freshFreq, begun.freshFreq]
  refine ⟨⟨n, ?_⟩, fun entry => ?_, fun l => ?_⟩
  · rw [tail.chans, after.chan_eq (.inl trivial), hn, PerChannel.get_set_self, freshLevel, freshFreq,
      work.chan_eq (.inl trivial), opening.chans, PerChannel.get_set_self, adv, late, chan, BitVec.add_zero]
  · have settledU := before.settled (settled entry)
    have settledV := work.settled (opening.settled settledU)
    have settledEnd : (v.ending c).st.Settled :=
      settledV.congr (by rw [ending.trip]) (by rw [ending.trip]) ending.links
    have output : u.st.trip.outputs.get c = s.trip.outputs.get c :=
      (before.output (settled entry)).trans (by rw [begun.trip])
    rw [tail.trip, after.output settledEnd, ending.trip, work.output (opening.settled settledU), opening.trip, adv,
      ← output]
    dsimp only
    by_cases wrap : (s.advanceOf c).wraps = true <;> by_cases unparking : u.st.trip.outputs.get c = .unparking <;>
      simp [wrap, unparking]
  · have start : (t.st.lanes.get l).state = .idle := by rw [begun.lanes]; exact h l
    have opened := Lane.idle_of_follows (before.lanes l) start
    rw [← opening.lanes] at opened
    have worked := Lane.idle_of_follows (work.lanes l) opened
    rw [← ending.lanes] at worked
    rw [Lane.state_of_butMissed (tail.lanes l)]
    exact Lane.idle_of_follows (after.lanes l) worked

theorem Chan.rampsStepped_of_no_ramps {x : Chan} (hl : x.levelRamp = none) (hf : x.freqRamp = none) :
    x.rampsStepped false false = x := by
  have level : x.stepLevel = x := by simp [Chan.stepLevel, hl]
  simp [Chan.rampsStepped, level, Chan.stepFreq, hf]

/-! ### The parts that a channel takes -/

/-- Channel record `z` is what channel `c`, of record `y`, has after the parts of `step` (R12, R14, R88). -/
structure Chan.Took (step : StepRecord) (c : Channel) (y z : Chan) : Prop where
  amp : z.active.amp = y.active.amp
  dc : z.active.dc = y.active.dc
  staged : z.staged = y.staged
  level : ∀ p ∈ step.level, step.masks c → z.active.level = p.target
    ∧ (p.ramp = 0 → z.env = p.target * 1024 ∧ z.levelRamp = none)
    ∧ (0 < p.ramp → z.env = y.env
        ∧ z.levelRamp = some ⟨y.env, p.target * 1024, (p.target * 1024 - y.env).tdiv p.ramp, p.ramp⟩)
  sameLevel : ¬ step.levels c → z.active.level = y.active.level
  shape : ∀ p ∈ step.shape, step.masks c → z.active.table = p.table ∧ z.active.overlay = p.overlay
  sameShape : step.shape = none ∨ ¬ step.masks c → z.active.table = y.active.table ∧ z.active.overlay = y.active.overlay
  freq : ∀ p ∈ step.freq, y.link = none → z.active.freq = p.target
    ∧ (p.ramp = 0 → z.active.word = p.word ∧ z.freqRamp = none)
    ∧ (0 < p.ramp → z.active.word = y.active.word
        ∧ z.freqRamp = some ⟨y.active.word, p.word, (p.word - y.active.word).tdiv p.ramp, p.ramp⟩)
  sameFreq : step.freq = none ∨ y.link ≠ none → z.active.freq = y.active.freq

theorem Chan.applyLevel_spec (y : Chan) (p : LevelPart) : (y.applyLevel p).active.level = p.target
    ∧ (p.ramp = 0 → (y.applyLevel p).env = p.target * 1024 ∧ (y.applyLevel p).levelRamp = none)
    ∧ (0 < p.ramp → (y.applyLevel p).env = y.env
        ∧ (y.applyLevel p).levelRamp = some ⟨y.env, p.target * 1024, (p.target * 1024 - y.env).tdiv p.ramp, p.ramp⟩) := by
  unfold Chan.applyLevel
  dsimp only
  split_ifs with h
  · exact ⟨rfl, fun _ => ⟨rfl, rfl⟩, fun hp => absurd h hp.ne'⟩
  · exact ⟨rfl, fun e => absurd e h, fun _ => ⟨rfl, rfl⟩⟩

theorem Chan.applyFreq_spec (y : Chan) (p : FreqPart) : (y.applyFreq p).active.freq = p.target
    ∧ (p.ramp = 0 → (y.applyFreq p).active.word = p.word ∧ (y.applyFreq p).freqRamp = none)
    ∧ (0 < p.ramp → (y.applyFreq p).active.word = y.active.word
        ∧ (y.applyFreq p).freqRamp = some ⟨y.active.word, p.word, (p.word - y.active.word).tdiv p.ramp, p.ramp⟩) := by
  unfold Chan.applyFreq
  dsimp only
  split_ifs with h
  · exact ⟨rfl, fun _ => ⟨rfl, rfl⟩, fun hp => absurd h hp.ne'⟩
  · exact ⟨rfl, fun e => absurd e h, fun _ => ⟨rfl, rfl⟩⟩

/-- The shape part alone decides the table and the overlay; no part acts on the amplitude and the offset. -/
theorem Chan.takeParts_shape (y : Chan) (step : StepRecord) (x : Lane) (c : Channel) :
    let z := (if (reached step x).get c then step.shape else none).elim y y.applyShape
    (y.takeParts step x c).active.table = z.active.table ∧ (y.takeParts step x c).active.overlay = z.active.overlay
      ∧ (y.takeParts step x c).active.amp = y.active.amp ∧ (y.takeParts step x c).active.dc = y.active.dc := by
  unfold Chan.takeParts
  generalize (if (reached step x).get c = true then step.level else none) = level
  generalize (if (reached step x).get c = true then step.shape else none) = shape
  generalize (if (x.channels.get c && y.link.isNone) = true then step.freq else none) = freq
  have levels : ∀ p : LevelPart, (y.applyLevel p).active = { y.active with level := p.target } := by
    intro p
    unfold Chan.applyLevel
    dsimp only
    split_ifs <;> rfl
  have freqs : ∀ (z : Chan) (p : FreqPart), (z.applyFreq p).active.table = z.active.table
      ∧ (z.applyFreq p).active.overlay = z.active.overlay ∧ (z.applyFreq p).active.amp = z.active.amp
      ∧ (z.applyFreq p).active.dc = z.active.dc := by
    intro z p
    unfold Chan.applyFreq
    dsimp only
    split_ifs <;> exact ⟨rfl, rfl, rfl, rfl⟩
  cases level <;> cases shape <;> cases freq <;> simp [levels, freqs, Chan.applyShape]

/-- A channel of the lane takes the parts that reach it. -/
theorem Chan.took_takeParts (y : Chan) (step : StepRecord) {x : Lane} {c : Channel} (hx : x.channels.get c = true) :
    Chan.Took step c y (y.takeParts step x c) := by
  obtain ⟨level, env, levelRamp⟩ := y.takeParts_level step x c
  obtain ⟨table, overlay, amp, dc⟩ := y.takeParts_shape step x c
  obtain ⟨freq, word, freqRamp⟩ := y.takeParts_freq step x c
  have reach : (reached step x).get c = true ↔ step.masks c := by rw [reached_get, hx]; simp
  refine ⟨amp, dc, y.takeParts_staged step x c, fun p hp hm => ?_, fun hm => ?_, fun p hp hm => ?_, fun hm => ?_,
    fun p hp hl => ?_, fun hl => ?_⟩
  · rw [if_pos (reach.2 hm), Option.mem_def.1 hp] at level env levelRamp
    rw [level, env, levelRamp]
    exact y.applyLevel_spec p
  · have none : (if (reached step x).get c = true then step.level else none) = none := by
      split_ifs with hr
      · by_contra hl
        exact hm ⟨hl, reach.1 hr⟩
      · rfl
    rw [none] at level
    exact level
  · rw [if_pos (reach.2 hm), Option.mem_def.1 hp] at table overlay
    exact ⟨table, overlay⟩
  · have none : (if (reached step x).get c = true then step.shape else none) = none := by
      split_ifs with hr
      · exact hm.resolve_right fun e => e (reach.1 hr)
      · rfl
    rw [none] at table overlay
    exact ⟨table, overlay⟩
  · rw [if_pos (by simp [hx, hl]), Option.mem_def.1 hp] at freq word freqRamp
    rw [freq, word, freqRamp]
    exact y.applyFreq_spec p
  · have none : (if (x.channels.get c && y.link.isNone) = true then step.freq else none) = none := by
      split_ifs with hr
      · rw [Bool.and_eq_true, Option.isNone_iff_eq_none] at hr
        exact hl.resolve_right fun e => e hr.2
      · rfl
    rw [none] at freq
    exact freq

/-- What is taken reads nothing of the accumulators, the link afterwards and the clip counter. -/
theorem Chan.Took.congr {step : StepRecord} {c : Channel} {y z y' z' : Chan} (h : Chan.Took step c y z)
    (hy : y = { y' with phase := y.phase })
    (hz : z' = { z with phase := z'.phase, link := z'.link, clip := z'.clip }) : Chan.Took step c y' z' := by
  rw [hz]
  rw [hy] at h
  exact ⟨h.amp, h.dc, h.staged, h.level, h.sameLevel, h.shape, h.sameShape, h.freq, h.sameFreq⟩

theorem Chan.rampsStepped_freshLevel (x : Chan) (b : Bool) :
    (x.rampsStepped true b).env = x.env ∧ (x.rampsStepped true b).levelRamp = x.levelRamp := by
  cases b
  · show x.stepFreq.env = x.env ∧ x.stepFreq.levelRamp = x.levelRamp
    rw [Chan.stepFreq_frame]
    exact ⟨rfl, rfl⟩
  · exact ⟨rfl, rfl⟩

theorem Chan.rampsStepped_freshFreq (x : Chan) (b : Bool) :
    (x.rampsStepped b true).active.word = x.active.word ∧ (x.rampsStepped b true).freqRamp = x.freqRamp := by
  cases b
  · show x.stepLevel.active.word = x.active.word ∧ x.stepLevel.freqRamp = x.freqRamp
    rw [Chan.stepLevel_frame]
    exact ⟨rfl, rfl⟩
  · exact ⟨rfl, rfl⟩

/-- Stage 3 leaves what was taken in stage 2 (R4). -/
theorem Chan.Took.rampsStepped {step : StepRecord} {c : Channel} {y z : Chan} (h : Chan.Took step c y z) {a b : Bool}
    (ha : step.level ≠ none → step.masks c → a = true) (hb : step.freq ≠ none → y.link = none → b = true) :
    Chan.Took step c y (z.rampsStepped a b) := by
  have frame := z.rampsStepped_frame a b
  refine ⟨?_, ?_, ?_, fun p hp hm => ?_, fun hm => ?_, fun p hp hm => ?_, fun hm => ?_, fun p hp hl => ?_, fun hl => ?_⟩
  · rw [frame]; exact h.amp
  · rw [frame]; exact h.dc
  · rw [frame]; exact h.staged
  · obtain rfl := ha (by rw [Option.mem_def.1 hp]; simp) hm
    obtain ⟨env, levelRamp⟩ := z.rampsStepped_freshLevel b
    rw [env, levelRamp, frame]
    exact h.level p hp hm
  · rw [frame]; exact h.sameLevel hm
  · rw [frame]; exact h.shape p hp hm
  · rw [frame]; exact h.sameShape hm
  · obtain rfl := hb (by rw [Option.mem_def.1 hp]; simp) hl
    obtain ⟨word, freqRamp⟩ := z.rampsStepped_freshFreq a
    rw [word, freqRamp, frame]
    exact h.freq p hp hl
  · rw [frame]; exact h.sameFreq hl

/-! ### The lane that applies its step -/

/-- An aligned lane whose step is due applies its fields and goes DWELL (R86, R88). -/
theorem Tick.laneWork_of_due {t : Tick} {l : LaneId} {step : StepRecord} (hx : (t.st.lanes.get l).state = .aligning)
    (hs : t.st.currentStep (t.st.lanes.get l) = some step) (due : t.due (t.st.lanes.get l) step = true) :
    (t.applyFields step (t.st.lanes.get l)).Quiet l (t.laneWork l)
      ∧ (t.laneWork l).st.lanes.get l = { t.st.lanes.get l with state := .dwell, dwell := some step.duration } := by
  have work : t.laneWork l = t.applyStep l (t.st.lanes.get l) step := by
    unfold Tick.laneWork
    dsimp only
    rw [hx, hs]
    exact if_pos due
  rw [work]
  exact ⟨t.applyStep_quiet l step ⟨(Lane.running_iff _).2 (by rw [hx]; decide), rfl, rfl, rfl⟩,
    PerLane.get_set_self _ _ _⟩

/-- The work of lanes other than `l`: `l` stands, and it passes the channels of `mine` by. -/
structure Tick.Aside (l : LaneId) (still : Prop) (mine : Channel → Prop) (t u : Tick) : Prop where
  kept : t.LanesKept u
  stores : t.st.tickKept u.st
  lane : u.st.lanes.get l = t.st.lanes.get l
  apart : ∀ c : Channel, mine c → t.Apart still c u

theorem Tick.Aside.refl (l : LaneId) (still : Prop) (mine : Channel → Prop) (t : Tick) : Tick.Aside l still mine t t :=
  ⟨.refl t, t.st.tickKept_refl, rfl, fun c _ => .refl still c t⟩

theorem Tick.Aside.trans {l : LaneId} {still : Prop} {mine : Channel → Prop} {t u v : Tick}
    (h : Tick.Aside l still mine t u) (k : Tick.Aside l still mine u v) : Tick.Aside l still mine t v :=
  ⟨h.kept.trans k.kept, State.tickKept_trans h.stores k.stores, k.lane.trans h.lane,
    fun c hc => (h.apart c hc).trans (k.apart c hc)⟩

/-- The lanes' work at the turn of lane `l`: what the other lanes do comes before and after. -/
theorem Tick.lanesIn_turn {R : Tick → Tick → Prop} (refl : ∀ t, R t t)
    (trans : ∀ {t u v}, R t u → R u v → R t v) (t : Tick) (l : LaneId)
    (others : ∀ (u : Tick) (m : LaneId), m ≠ l → u.st.lanes.get m = t.st.lanes.get m → R u (u.laneWork m)) :
    ∃ u : Tick, R t u ∧ u.st.lanes.get l = t.st.lanes.get l ∧ R (u.laneWork l) (t.lanesIn (PerChannel.all true)) := by
  have all : t.lanesIn (PerChannel.all true) = ((t.laneWork .lane0).laneWork .lane1).laneWork .lane2 := by
    unfold Tick.lanesIn Tick.laneIn
    simp
  have stands : ∀ (u : Tick) (m n : LaneId), n ≠ m → u.st.lanes.get n = t.st.lanes.get n →
      (u.laneWork m).st.lanes.get n = t.st.lanes.get n := fun u m n hn hu => ((u.laneWork_effect m).others hn).trans hu
  have stands1 := stands t .lane0 .lane1 (by decide) rfl
  have stands2 := stands _ .lane1 .lane2 (by decide) (stands t .lane0 .lane2 (by decide) rfl)
  rw [all]
  cases l with
  | lane0 => exact ⟨t, refl t, rfl, trans (others _ _ (by decide) stands1) (others _ _ (by decide) stands2)⟩
  | lane1 => exact ⟨_, others t .lane0 (by decide) rfl, stands1, others _ _ (by decide) stands2⟩
  | lane2 =>
    exact ⟨_, trans (others t .lane0 (by decide) rfl) (others _ _ (by decide) stands1), stands2, refl _⟩

theorem Tick.Foretold.of_kept {t u : Tick} {s : State} (h : t.Foretold s) (k : t.LanesKept u)
    (stores : t.st.tickKept u.st) : u.Foretold s :=
  ⟨fun c => by rw [k.adv, h.adv], fun c => by rw [k.closed, h.closed], State.tickKept_trans h.kept stores⟩

/-- The other lanes than `l` are idle. -/
def State.OnlyLane (s : State) (l : LaneId) : Prop := ∀ m : LaneId, m ≠ l → (s.lanes.get m).state = .idle

/-- Lane `l` at its turn, its step due: the other lanes' work passes by its channels, and every channel when it is the
only running lane (R81). -/
theorem Tick.AllOpened.lane_turn {t : Tick} {s : State} (h : t.AllOpened s) {l : LaneId} {step : StepRecord}
    (sound : s.lanesSound) (hx : (s.lanes.get l).state = .aligning) (hs : s.currentStep (s.lanes.get l) = some step)
    (due : s.dueNext (s.lanes.get l) step) :
    let Passes := Tick.Aside l (s.OnlyLane l) fun c => (s.lanes.get l).channels.get c = true ∨ s.OnlyLane l
    ∃ u : Tick, Passes t u ∧ (u.applyFields step (s.lanes.get l)).Quiet l (u.laneWork l)
      ∧ (u.laneWork l).st.lanes.get l = { s.lanes.get l with state := .dwell, dwell := some step.duration }
      ∧ Passes (u.laneWork l) (t.lanesIn (PerChannel.all true)) := by
  intro Passes
  have running : (s.lanes.get l).running = true := (Lane.running_iff _).2 (by rw [hx]; decide)
  obtain ⟨u, before, lane, after⟩ := Tick.lanesIn_turn (R := Passes) (Tick.Aside.refl _ _ _) Tick.Aside.trans t l
    fun u m hm hu => by
      rw [h.lanes] at hu
      refine ⟨(u.laneWork_effect m).kept, kept_laneWork u m, (u.laneWork_effect m).others hm.symm, fun c hc => ?_⟩
      refine Tick.laneWork_apart ?_ fun only => by rw [hu]; exact only m hm
      rw [hu]
      obtain mine | only := hc
      · by_contra hb
        exact hm (sound.1 m l c (by simpa using hb) (by rw [Lane.binds, running, mine]; rfl))
      · have idle := only m hm
        simp [Lane.binds, Lane.running, idle]
  rw [h.lanes] at lane
  have foretold := h.foretold.of_kept before.kept before.stores
  obtain ⟨quiet, dwell⟩ := Tick.laneWork_of_due (t := u) (l := l) (step := step) (by rw [lane, hx])
    (by rw [lane, foretold.currentStep, hs]) (by rw [lane]; exact (foretold.due_iff _ _).2 due)
  rw [lane] at quiet dwell
  exact ⟨u, before, quiet, dwell, after⟩

/-! ### A sample event at which a lane applies its step -/

section
variable {o : TickOrder} {s : State} {l : LaneId} {step : StepRecord}

/-- The lane has gone DWELL. -/
theorem tick_lane_of_due (entry : s.noEntryDue) (sound : s.lanesSound) (hx : (s.lanes.get l).state = .aligning)
    (hs : s.currentStep (s.lanes.get l) = some step) (due : s.dueNext (s.lanes.get l) step) :
    ((tick o s).st.lanes.get l).butMissed
      = Lane.butMissed { s.lanes.get l with state := .dwell, dwell := some step.duration } := by
  obtain ⟨t, opened, lanes, -⟩ := tickChannels_of_noEntryDue o entry
  obtain ⟨u, -, -, dwell, after⟩ := opened.lane_turn sound hx hs due
  rw [(tick_tail o s).lanes, lanes, after.lane, dwell]

/-- A channel of the lane has taken the parts that reach it. -/
theorem tick_took_of_due (entry : s.noEntryDue) (sound : s.lanesSound) (hx : (s.lanes.get l).state = .aligning)
    (hs : s.currentStep (s.lanes.get l) = some step) (due : s.dueNext (s.lanes.get l) step) {c : Channel}
    (hc : (s.lanes.get l).channels.get c = true) (staged : (s.chans.get c).staged = none) :
    Chan.Took step c (s.chans.get c) ((tick o s).st.chans.get c) := by
  obtain ⟨t, opened, -, turn⟩ := tickChannels_of_noEntryDue o entry
  obtain ⟨u, before, quiet, -, after⟩ := opened.lane_turn sound hx hs due
  obtain ⟨v, rest, last⟩ := turn c
  obtain ⟨n, hn⟩ := (v.ending_spec c).chans
  have chan : t.st.chans.get c = { s.chans.get c with phase := (s.advanceOf c).after } := by
    rw [opened.chan]
    exact Chan.promoted_eq_self (.inl staged)
  have apart := before.apart c (.inl hc)
  have start : u.st.chans.get c = { s.chans.get c with phase := (u.st.chans.get c).phase } := by
    rw [apart.chan, chan]
  have worked := (after.apart c (.inl hc)).trans rest.mono
  have link : (u.st.chans.get c).link = (s.chans.get c).link := by rw [start]
  have reach : step.masks c → (reached step (s.lanes.get l)).get c = true := fun hm => (reached_get _ _ _).2 ⟨hc, hm⟩
  have freshLevel : step.level ≠ none → step.masks c → v.freshLevel.get c = true := fun hl hm => by
    rw [worked.freshLevel, quiet.freshLevel, Tick.applyFields_freshLevel, reach hm, Option.isSome_iff_ne_none.2 hl]
    simp
  have freshFreq : step.freq ≠ none → (s.chans.get c).link = none → v.freshFreq.get c = true := fun hf hl => by
    rw [worked.freshFreq, quiet.freshFreq, Tick.applyFields_freshFreq, hc, link, hl, Option.isSome_iff_ne_none.2 hf]
    simp
  have took : Chan.Took step c (s.chans.get c) (v.st.chans.get c) := by
    refine ((u.st.chans.get c).took_takeParts step hc).congr start ?_
    rw [worked.chan, quiet.st.chans, Tick.applyFields_chan]
    rfl
  rw [(tick_tail o s).chans]
  refine (took.rampsStepped freshLevel freshFreq).congr rfl ?_
  rw [last.chan, hn, PerChannel.get_set_self]

/-- With no other lane running a channel's accumulator and offset move by its jump, and a follower's accumulator by L1's
(R10). -/
theorem tick_moved_of_due (entry : s.noEntryDue) (sound : s.lanesSound) (hx : (s.lanes.get l).state = .aligning)
    (hs : s.currentStep (s.lanes.get l) = some step) (due : s.dueNext (s.lanes.get l) step) (only : s.OnlyLane l)
    (c : Channel) :
    let x := s.lanes.get l
    ((tick o s).st.chans.get c).phase = (s.advanceOf c).after
        + (step.jumpOf x c + if c ≠ .L1 ∧ (s.chans.get c).link.isSome = true then step.jumpOf x .L1 else 0#32)
    ∧ ((tick o s).st.chans.get c).link
        = (s.chans.get c).link.map (· + if c = .L1 then 0#32 else step.jumpOf x c) := by
  obtain ⟨t, opened, -, turn⟩ := tickChannels_of_noEntryDue o entry
  obtain ⟨u, before, quiet, -, after⟩ := opened.lane_turn sound hx hs due
  obtain ⟨v, rest, last⟩ := turn c
  have apart := before.apart c (.inr only)
  have chan : u.st.chans.get c = t.st.chans.get c := apart.chan_eq (.inl only)
  have phase : (u.st.chans.get c).phase = (s.advanceOf c).after := by rw [chan, opened.chan, Chan.promoted_phase]
  have link : (u.st.chans.get c).link = (s.chans.get c).link := by rw [chan, opened.chan, Chan.promoted_link]
  have carried : u.carried (step.jumpOf (s.lanes.get l) .L1) c
      = if c ≠ .L1 ∧ (s.chans.get c).link.isSome = true then step.jumpOf (s.lanes.get l) .L1 else 0#32 := by
    simp [Tick.carried, link, apart.adv, opened.adv]
  have moved := u.applyFields_chan step (s.lanes.get l) c
  have worked := ((after.apart c (.inr only)).trans rest.mono).chan_eq (.inl only)
  rw [quiet.st.chans, moved] at worked
  obtain ⟨hp, hl⟩ := (v.ending_spec c).stand c
  rw [(tick_tail o s).chans, last.chan_eq (.inl trivial), hp, hl, worked]
  refine ⟨?_, ?_⟩
  · simp only [Chan.movedBy, Chan.takeParts_phase, phase, carried]
  · simp only [Chan.movedBy, Chan.takeParts_link, link]

end

/-- The jump words of a step are the step's word on the channels it reaches, and no move on the others. -/
theorem StepRecord.jumpOf_eq {step : StepRecord} {x : Lane} {own : Channel → Phase}
    (reach : ∀ c : Channel, x.channels.get c = true → step.masks c → ∀ p ∈ step.jump, own c = BitVec.ofInt 32 p.word)
    (free : ∀ c : Channel, (x.channels.get c = false ∨ ¬ step.masks c ∨ step.jump = none) → own c = 0#32) (c : Channel) :
    step.jumpOf x c = own c := by
  unfold StepRecord.jumpOf
  split_ifs with hr
  · obtain ⟨hc, hm⟩ := (reached_get step x c).1 hr
    cases hj : step.jump with
    | none => exact (free c (.inr (.inr hj))).symm
    | some p => exact (reach c hc hm p (by rw [hj]; rfl)).symm
  · refine (free c ?_).symm
    rw [reached_get] at hr
    by_cases hc : x.channels.get c = true
    · exact .inr (.inl fun hm => hr ⟨hc, hm⟩)
    · exact .inl (by simpa using hc)

/-- Settles O43: without a running lane by `tick_of_lanesIdle`; with a lane whose step is due by what its channels take
and by how the accumulators move. -/
theorem sampleEventAdvancesChannels : Obligations.SampleEventAdvancesChannels := by
  refine ⟨fun o s h => ?_, ?_⟩
  · refine ⟨_, rfl, fun c => ?_, fun c q hq hw => ?_, fun c hw => ?_, fun c => (tick_of_lanesIdle o h c).2.1,
      tick_kept o s, (tick_of_lanesIdle o h .L1).2.2⟩
    all_goals obtain ⟨n, hn⟩ := (tick_of_lanesIdle o h c).1
    · rw [hn, Chan.rampsStepped_frame]
      simp
    · have promoted := Chan.promoted_of_wraps (x := { s.chans.get c with phase := (s.advanceOf c).after }) hq hw
      rw [promoted, Chan.rampsStepped_of_no_ramps rfl rfl] at hn
      rw [hn]
      exact ⟨rfl, rfl, rfl, rfl, rfl⟩
    · rw [hn, Chan.promoted_of_not_wraps _ hw, Chan.rampsStepped_frame]
  · intro o l step s x entry sound hx hs due staged
    refine ⟨_, rfl, tick_kept o s, tick_lane_of_due entry sound hx hs due, fun c hc => ?_, fun only own reach free => ?_⟩
    · have took := tick_took_of_due (o := o) entry sound hx hs due hc (staged c hc)
      exact ⟨took.amp, took.dc, took.staged.trans (staged c hc), took.level, took.sameLevel, took.shape, took.sameShape,
        took.freq, took.sameFreq⟩
    · have moved := fun c => tick_moved_of_due (o := o) entry sound hx hs due only c
      have jump : ∀ c : Channel, step.jumpOf (s.lanes.get l) c = own c := StepRecord.jumpOf_eq reach free
      simp only [jump] at moved
      refine ⟨?_, ?_, fun c hc => ⟨fun hl => ?_, fun offset hl => ?_⟩⟩
      · simpa using (moved .L1).1
      · simpa using (moved .L1).2
      · simpa [hl] using moved c
      · simpa [hl, hc, BitVec.add_assoc] using moved c

end Sys2Proof.Machine
end

section
/-! PROOF. The angles of Chapter 2: a crossing is a threshold on the forward arc of an advance (R26), measured from P
before as a difference modulo 2^32; the wrap and the half-cycle exclusivity (R27) are arithmetic on such arcs. -/

namespace Sys2Proof.Machine

/-! ### Arcs -/

/-- The forward arc from `x` to `y`, by the values of the accumulators. -/
theorem Phase.toNat_sub_eq (y x : Phase) : (y - x).toNat = (y.toNat + 4294967296 - x.toNat) % 4294967296 := by
  bv_omega

/-- The arc to the opposite angle: half a cycle is added, or taken away when it would complete the cycle. -/
theorem Phase.toNat_add_half (x : Phase) :
    (x + 2147483648#32).toNat = if x.toNat < 2147483648 then x.toNat + 2147483648 else x.toNat - 2147483648 := by
  split_ifs <;> bv_omega

/-- A threshold is crossed when its arc from P before is positive and no longer than the advance (R26). -/
theorem Advance.crosses_iff (a : Advance) (t : Phase) :
    a.crosses t = true ↔ 1 ≤ (t - a.before).toNat ∧ (t - a.before).toNat ≤ (a.after - a.before).toNat := by
  simp [Advance.crosses]

theorem Advance.not_crosses_before (a : Advance) : a.crosses a.before = false := by
  simp [Advance.crosses]

theorem Advance.crosses_after (a : Advance) (h : a.before ≠ a.after) : a.crosses a.after = true := by
  have moved : (a.after - a.before).toNat ≠ 0 := fun h0 => h (by bv_omega)
  exact (a.crosses_iff _).2 ⟨Nat.one_le_iff_ne_zero.2 moved, le_rfl⟩

/-- The arc to threshold 0 is what the cycle leaves after P before, so it is passed exactly when P comes round (R27). -/
theorem Advance.wraps_iff (a : Advance) : a.wraps = true ↔ a.after.toNat < a.before.toNat := by
  have := a.before.isLt
  have := a.after.isLt
  rw [Advance.wraps, Advance.crosses_iff, Phase.toNat_sub_eq, Phase.toNat_sub_eq, BitVec.toNat_zero]
  omega

/-- Of two opposite thresholds one lies half a cycle or more ahead of P before (R27). -/
theorem Advance.not_crosses_both_halves (a : Advance) (t : Phase) (h : (a.after - a.before).toNat < 2147483648) :
    ¬ (a.crosses t = true ∧ a.crosses (t + 2147483648#32) = true) := by
  have opposite : t + 2147483648#32 - a.before = t - a.before + 2147483648#32 := by
    rw [BitVec.sub_eq_add_neg, BitVec.sub_eq_add_neg, BitVec.add_assoc, BitVec.add_assoc,
      BitVec.add_comm 2147483648#32]
  rw [Advance.crosses_iff, Advance.crosses_iff, opposite, Phase.toNat_add_half]
  split_ifs <;> omega

/-- Settles O50: the arc measured in the accumulators' values, its two end points, the wrap and the opposite angle. -/
theorem crossingIsTheForwardArc : Obligations.CrossingIsTheForwardArc := by
  intro a
  refine ⟨fun t => ?_, ?_, ?_, a.wraps_iff, a.not_crosses_both_halves⟩
  · rw [Advance.crosses_iff, Phase.toNat_sub_eq, Phase.toNat_sub_eq]
  · rintro t rfl
    exact a.not_crosses_before
  · rintro t rfl h
    exact a.crosses_after h

end Sys2Proof.Machine
end

section
/-! PROOF. The commands of Chapter 2 and GET_LINK: what names a channel, a flag and a free channel, said once; then each
command's answer per outcome of its checks. -/

namespace Sys2Proof.Machine

/-! ### The checks of operands -/

@[simp] theorem channelOf_channelNumber (c : Channel) : channelOf (channelNumber c) = some c := by cases c <;> rfl

theorem channelOf_eq_none {n : Nat} (h : n = 0 ∨ 3 < n) : channelOf n = none := by
  rcases h with rfl | h
  · rfl
  · obtain ⟨m, rfl⟩ := Nat.exists_eq_add_of_le' h
    rfl

theorem channelOf_eq_some {n : Nat} {c : Channel} (h : channelOf n = some c) : n = channelNumber c := by
  unfold channelOf at h
  split at h <;> cases h <;> rfl

theorem flagOf_eq_none {n : Nat} (h : 1 < n) : flagOf n = none := by
  obtain ⟨m, rfl⟩ := Nat.exists_eq_add_of_le' h
  rfl

theorem clampNat_eq {lo hi : Nat} (h : lo ≤ hi) (n : Nat) : clampNat lo hi n = max lo (min hi n) := by
  unfold clampNat
  split_ifs <;> omega

theorem clampInt_eq {lo hi : Int} (h : lo ≤ hi) (v : Int) : clampInt lo hi v = max lo (min hi v) := by
  unfold clampInt
  split_ifs <;> omega

/-- A lane binds the channels of its set while it runs (R81). -/
theorem Lane.binds_iff (x : Lane) (c : Channel) : x.binds c = true ↔ x.state ≠ .idle ∧ x.channels.get c = true := by
  simp [Lane.binds, Lane.running]

theorem Lane.binds_eq_false_iff (x : Lane) (c : Channel) :
    x.binds c = false ↔ x.state = .idle ∨ x.channels.get c = false := by
  rw [← Bool.not_eq_true, Lane.binds_iff, not_and_or, not_not, Bool.not_eq_true]

/-- A channel is bound exactly when some lane binds it (R81). -/
theorem State.boundTo_isSome_iff (s : State) (c : Channel) :
    (s.boundTo c).isSome = true ↔ ∃ l : LaneId, (s.lanes.get l).binds c = true := by
  refine ⟨fun h => ?_, fun ⟨l, h⟩ => ?_⟩
  · obtain ⟨l, hl⟩ := Option.isSome_iff_exists.1 h
    exact ⟨l, State.boundTo_some hl⟩
  · by_contra free
    rw [State.boundTo_none (by simpa using free) l] at h
    cases h

/-! ### Answers -/

theorem State.answer_refuse (s : State) (p : Port) (code : Nat) (st : StatusCode) :
    State.answer p code (s, Reply.refuse st) = s.answered p code st [] := rfl

theorem State.answer_ok (s : State) (p : Port) (code : Nat) (body : List Byte) :
    State.answer p code (s, Reply.ok body) = s.answered p code .ok body := rfl

theorem State.answer_taken (s : State) (p : Port) (code : Nat) (adjusted : Bool) (body : List Byte) :
    State.answer p code (s, Reply.taken adjusted body) = s.answered p code (if adjusted then .clamped else .ok) body :=
  rfl

theorem exec_setChannel (p : Port) (n : Nat) (r : RawParams) (s : State) :
    exec (.setChannel p n r) s = .next (State.answer p 0x10 (s.setChannel n r)) := rfl

theorem exec_getChannel (p : Port) (n clear : Nat) (s : State) :
    exec (.getChannel p n clear) s = .next (State.answer p 0x11 (s.getChannel n clear)) := rfl

theorem exec_linkChannelFollow (p : Port) (n offset : Nat) (s : State) : exec (.linkChannelFollow p n offset) s
    = .next (State.answer p 0x12 (s.relink n fun x => x.follow s.chans.l1 (BitVec.ofNat 32 offset))) := rfl

theorem exec_linkChannelUnlink (p : Port) (n : Nat) (s : State) : exec (.linkChannelUnlink p n) s
    = .next (State.answer p 0x12 (s.relink n fun x => x.unlink s.chans.l1)) := rfl

theorem exec_getLink (p : Port) (n clear : Nat) (s : State) :
    exec (.getLink p n clear) s = .next (State.answer p 0x80 (s.getLink n clear)) := rfl

/-! ### SET_CHANNEL (R35 to R37) -/

/-- The adjustments of SET_CHANNEL change nothing exactly when every field lies in its range (R34, R35). -/
theorem paramsAdjusted_eq_false_iff (r : RawParams) : paramsAdjusted r = false ↔
    (paramSetOf r).freq = r.freq ∧ (paramSetOf r).amp = r.amp ∧ (paramSetOf r).dc = r.dc
      ∧ (paramSetOf r).level = r.level := by
  simp [paramsAdjusted, paramSetOf, and_assoc]

theorem State.setChannel_of_bad_operand (s : State) {n : Nat} {r : RawParams}
    (h : channelOf n = none ∨ ¬ (r.table < 16 ∧ r.overlay < 8)) :
    s.setChannel n r = (s, Reply.refuse .badArgument) := by
  unfold State.setChannel
  split
  · rfl
  · next named => exact if_pos (h.resolve_left (by simp [named]))

theorem State.setChannel_of_bound {s : State} {c : Channel} {r : RawParams} (operands : r.table < 16 ∧ r.overlay < 8)
    (bound : (s.boundTo c).isSome = true) :
    s.setChannel (channelNumber c) r = (s, Reply.refuse .channelBusy) := by
  simp [State.setChannel, operands, bound]

theorem State.setChannel_of_not_ready {s : State} {c : Channel} {r : RawParams}
    (operands : r.table < 16 ∧ r.overlay < 8) (free : s.boundTo c = none) (loaded : s.tableState r.table ≠ .ready) :
    s.setChannel (channelNumber c) r = (s, Reply.refuse .notReady) := by
  simp [State.setChannel, operands, free, loaded]

theorem State.setChannel_of_accepted {s : State} {c : Channel} {r : RawParams}
    (operands : r.table < 16 ∧ r.overlay < 8) (free : s.boundTo c = none) (ready : s.tableState r.table = .ready) :
    s.setChannel (channelNumber c) r = (s.writeSet c (paramSetOf r), Reply.taken (paramsAdjusted r)
      (setChannelBody (s.trip.outputs.get c = .parked) (paramSetOf r).word)) := by
  simp [State.setChannel, operands, free, ready]

theorem State.writeSet_of_parked {s : State} {c : Channel} (q : ParamSet) (h : s.trip.outputs.get c = .parked) :
    s.writeSet c q = s.setChan c { s.chans.get c with
      active := q, env := q.level * 1024, levelRamp := none, freqRamp := none, staged := none } := if_pos h

theorem State.writeSet_of_not_parked {s : State} {c : Channel} (q : ParamSet) (h : s.trip.outputs.get c ≠ .parked) :
    s.writeSet c q = s.setChan c { s.chans.get c with staged := some q } := if_neg h

/-- Settles O15: one equation of `State.setChannel` for each refusal. -/
theorem setChannelRefusals : Obligations.SetChannelRefusals := by
  intro p n r s
  refine ⟨fun h => ?_, ?_⟩
  · have bad : channelOf n = none ∨ ¬ (r.table < 16 ∧ r.overlay < 8) := by
      rcases h with h | h | h | h
      · exact .inl (channelOf_eq_none (.inl h))
      · exact .inl (channelOf_eq_none (.inr h))
      · exact .inr (by omega)
      · exact .inr (by omega)
    rw [exec_setChannel, s.setChannel_of_bad_operand bad, State.answer_refuse]
  · rintro c rfl table overlay
    have operands : r.table < 16 ∧ r.overlay < 8 := by omega
    refine ⟨fun ⟨l, running, member⟩ => ?_, fun others loaded => ?_⟩
    · have bound := (s.boundTo_isSome_iff c).2 ⟨l, (Lane.binds_iff _ c).2 ⟨running, member⟩⟩
      rw [exec_setChannel, State.setChannel_of_bound operands bound, State.answer_refuse]
    · have free : s.boundTo c = none := by
        rw [← Option.not_isSome_iff_eq_none, s.boundTo_isSome_iff c]
        rintro ⟨l, binds⟩
        rw [(Lane.binds_eq_false_iff _ c).2 (others l)] at binds
        cases binds
      rw [exec_setChannel, State.setChannel_of_not_ready operands free loaded, State.answer_refuse]

/-- Settles O14: the adjusted set is `paramSetOf`, and `State.writeSet` stages it or writes it by the output state. -/
theorem setChannelStagesOrWrites : Obligations.SetChannelStagesOrWrites := by
  intro p c r s table overlay free ready
  have accepted := State.setChannel_of_accepted ⟨table, overlay⟩ free ready
  have freq : (paramSetOf r).freq = max 4000 (min 44000 r.freq) := clampNat_eq (by decide) r.freq
  have amp : (paramSetOf r).amp = min r.amp 32767 := by
    rw [min_comm]; exact (clampNat_eq (by decide) r.amp).trans (Nat.zero_max _)
  have level : (paramSetOf r).level = min r.level 2000 := by
    rw [min_comm]; exact (clampNat_eq (by decide) r.level).trans (Nat.zero_max _)
  refine ⟨paramSetOf r, if paramsAdjusted r then .clamped else .ok, freq, rfl, amp, rfl, rfl,
    clampInt_eq (by decide) r.dc, level, ?_, fun driven => ?_, fun parked => ?_⟩
  · rw [← ite_not]
    exact if_congr (by rw [← paramsAdjusted_eq_false_iff, Bool.not_eq_true]) rfl rfl
  · rw [exec_setChannel, accepted, State.answer_taken, State.writeSet_of_not_parked _ driven]
    simp [setChannelBody, byteItem, driven]
  · rw [exec_setChannel, accepted, State.answer_taken, State.writeSet_of_parked _ parked]
    simp [setChannelBody, byteItem, parked]

/-! ### LINK_CHANNEL (R31 to R33) -/

/-- LINK_CHANNEL names a follower: L2 or L3 (R31). -/
theorem State.relink_of_not_follower (s : State) {n : Nat} (change : Chan → Chan) (h2 : n ≠ 2) (h3 : n ≠ 3) :
    s.relink n change = (s, Reply.refuse .badArgument) := by
  unfold State.relink
  split
  · rfl
  · next c named =>
    have leader : c = .L1 := by
      have := channelOf_eq_some named
      cases c
      · rfl
      · exact absurd this h2
      · exact absurd this h3
    simp [State.linkRefusal, leader]

theorem State.relink_of_refusal {s : State} {c : Channel} {st : StatusCode} (change : Chan → Chan)
    (h : s.linkRefusal c = some st) : s.relink (channelNumber c) change = (s, Reply.refuse st) := by
  simp [State.relink, h]

theorem State.relink_of_accepted {s : State} {c : Channel} (change : Chan → Chan) (h : s.linkRefusal c = none) :
    s.relink (channelNumber c) change = (s.setChan c (change (s.chans.get c)),
      Reply.ok ((s.setChan c (change (s.chans.get c))).linkBody c)) := by
  simp [State.relink, h]

theorem State.linkRefusal_of_bound {s : State} {c : Channel} (hc : c ≠ .L1)
    (h : (s.boundTo .L1).isSome ∨ (s.boundTo c).isSome) : s.linkRefusal c = some .channelBusy := by
  simp [State.linkRefusal, hc, h]

theorem State.linkRefusal_of_staged {s : State} {c : Channel} (hc : c ≠ .L1) (leader : s.boundTo .L1 = none)
    (free : s.boundTo c = none) (h : s.chans.l1.staged.isSome ∨ (s.chans.get c).staged.isSome) :
    s.linkRefusal c = some .pending := by
  simp [State.linkRefusal, hc, leader, free, h]

theorem State.linkRefusal_eq_none {s : State} {c : Channel} (hc : c ≠ .L1) (leader : s.boundTo .L1 = none)
    (free : s.boundTo c = none) (leaderSet : s.chans.l1.staged = none) (ownSet : (s.chans.get c).staged = none) :
    s.linkRefusal c = none := by
  simp [State.linkRefusal, hc, leader, free, leaderSet, ownSet]

/-- What LINK_CHANNEL answers is read from the record that it has written. -/
theorem State.linkBody_setChan (s : State) (c : Channel) (x : Chan) : (s.setChan c x).linkBody c
    = byteItem (channelNumber c) ++ linkItem x.link ++ numBytes 4 x.phase.toNat := by
  simp [State.linkBody]

theorem Chan.unlink_eq_ite (x y : Chan) : x.unlink y
    = if x.link.isSome then
        { x with link := none, active := { x.active with word := y.active.word, freq := y.active.freq } }
      else x := by
  unfold Chan.unlink
  split <;> simp [*]

/-- Settles O17: the two commands are `State.relink` with the change of one record; a refusal answers both alike, and an
accepted change is answered from the record that it leaves. -/
theorem linkChannelFollowsAndUnlinks : Obligations.LinkChannelFollowsAndUnlinks := by
  intro p offset s
  refine ⟨fun n h2 h3 => ?_, fun c hc => ⟨fun bound => ?_, fun leader free =>
    ⟨fun staged => ?_, fun leaderSet ownSet => ?_⟩⟩⟩
  · rw [exec_linkChannelFollow, exec_linkChannelUnlink, s.relink_of_not_follower _ h2 h3,
      s.relink_of_not_follower _ h2 h3]
    exact ⟨rfl, rfl⟩
  · have busy := State.linkRefusal_of_bound hc bound
    rw [exec_linkChannelFollow, exec_linkChannelUnlink, State.relink_of_refusal _ busy, State.relink_of_refusal _ busy]
    exact ⟨rfl, rfl⟩
  · have pending := State.linkRefusal_of_staged hc leader free staged
    rw [exec_linkChannelFollow, exec_linkChannelUnlink, State.relink_of_refusal _ pending,
      State.relink_of_refusal _ pending]
    exact ⟨rfl, rfl⟩
  · have accepted := State.linkRefusal_eq_none hc leader free leaderSet ownSet
    rw [exec_linkChannelFollow, exec_linkChannelUnlink, State.relink_of_accepted _ accepted,
      State.relink_of_accepted _ accepted, State.answer_ok, State.answer_ok, State.linkBody_setChan,
      State.linkBody_setChan, Chan.unlink_link]
    refine ⟨rfl, ?_⟩
    rw [Chan.unlink_eq_ite]
    rfl

/-! ### GET_CHANNEL and GET_LINK (R23, R40, R167) -/

/-- GET_CHANNEL reports the rows of R40; the bytes of the output state, the link and the binding go by their cases. -/
theorem State.channelBody_eq (s : State) (c : Channel) :
    s.channelBody c = channelReport (s.chans.get c) (s.trip.outputs.get c) (s.boundTo c) := by
  unfold State.channelBody channelReport
  generalize s.chans.get c = x, s.trip.outputs.get c = output, s.boundTo c = binding
  obtain ⟨_, link, _⟩ := x
  cases output <;> cases link <;> rcases binding with _ | _ | _ | _ <;> rfl

/-- GET_LINK reports the rows of R167; the bytes of the health and the latest status go by their cases. -/
theorem linkRecordBody_eq (x : Link) : linkRecordBody x = linkReport x := by
  unfold linkRecordBody linkReport
  obtain ⟨_, _, _, health, _, _, _, latest, _⟩ := x
  cases health <;> cases latest <;> rfl

theorem State.getChannel_eq (s : State) (c : Channel) {clear : Nat} {b : Bool} (h : flagOf clear = some b) :
    s.getChannel (channelNumber c) clear
      = (if b then s.setChan c { s.chans.get c with clip := 0 } else s, Reply.ok (s.channelBody c)) := by
  simp [State.getChannel, h]

theorem State.getLink_eq (s : State) (c : Channel) {clear : Nat} {b : Bool} (h : flagOf clear = some b) :
    s.getLink (channelNumber c) clear
      = (if b then s.setLink c (s.links.get c).clearCounts else s, Reply.ok (linkRecordBody (s.links.get c))) := by
  simp [State.getLink, h]

theorem State.getChannel_of_bad_operand (s : State) {n clear : Nat} (h : channelOf n = none ∨ flagOf clear = none) :
    s.getChannel n clear = (s, Reply.refuse .badArgument) := by
  rcases h with h | h <;> simp [State.getChannel, h]

theorem State.getLink_of_bad_operand (s : State) {n clear : Nat} (h : channelOf n = none ∨ flagOf clear = none) :
    s.getLink n clear = (s, Reply.refuse .badArgument) := by
  rcases h with h | h <;> simp [State.getLink, h]

/-- Settles O16: the binding reported is `State.boundTo`, and the flag decides whether the counts are cleared. -/
theorem clearingReads : Obligations.ClearingReads := by
  intro p c s
  refine ⟨⟨s.boundTo c, fun l hl => (Lane.binds_iff _ c).1 (State.boundTo_some hl),
    fun free l => (Lane.binds_eq_false_iff _ c).1 (State.boundTo_none free l), ?_, ?_⟩, ?_, ?_, fun n clear h => ?_⟩
  · rw [exec_getChannel, s.getChannel_eq c (clear := 0) rfl, s.channelBody_eq]
    rfl
  · rw [exec_getChannel, s.getChannel_eq c (clear := 1) rfl, s.channelBody_eq]
    rfl
  · rw [exec_getLink, s.getLink_eq c (clear := 0) rfl, linkRecordBody_eq]
    rfl
  · rw [exec_getLink, s.getLink_eq c (clear := 1) rfl, linkRecordBody_eq]
    rfl
  · have bad : channelOf n = none ∨ flagOf clear = none := by
      rcases h with h | h | h
      · exact .inl (channelOf_eq_none (.inl h))
      · exact .inl (channelOf_eq_none (.inr h))
      · exact .inr (flagOf_eq_none h)
    rw [exec_getChannel, exec_getLink, s.getChannel_of_bad_operand bad, s.getLink_of_bad_operand bad]
    exact ⟨rfl, rfl⟩

end Sys2Proof.Machine
end

section
/-! PROOF. The references of R54: what the holder sets of `State.named` hold, member by member, and that a table or an
overlay set is referenced exactly when a holder names it (`State.named_iff`). -/

namespace Sys2Proof.Machine

/-! ### Sets with a member -/

theorem exists_get_of_noChannels (x : ChannelSet) : (!noChannels x) = true ↔ ∃ c : Channel, x.get c = true := by
  obtain ⟨a, b, c⟩ := x
  constructor
  · intro h
    simp only [noChannels, Bool.not_and, Bool.not_not, Bool.or_eq_true] at h
    obtain (h | h) | h := h
    · exact ⟨.L1, h⟩
    · exact ⟨.L2, h⟩
    · exact ⟨.L3, h⟩
  · rintro ⟨c, h⟩
    cases c <;> simp_all [noChannels, PerChannel.get]

theorem anyLane_iff (x : LaneSet) : anyLane x = true ↔ ∃ l : LaneId, x.get l = true := by
  obtain ⟨a, b, c⟩ := x
  constructor
  · intro h
    simp only [anyLane, Bool.or_eq_true] at h
    obtain (h | h) | h := h
    · exact ⟨.lane0, h⟩
    · exact ⟨.lane1, h⟩
    · exact ⟨.lane2, h⟩
  · rintro ⟨l, h⟩
    cases l <;> simp_all [anyLane, PerLane.get]

theorem PerLane.get_mk_map {α : Type} (x : PerLane Lane) (f : Lane → α) (l : LaneId) :
    (PerLane.mk (f x.n0) (f x.n1) (f x.n2)).get l = f (x.get l) := by cases l <;> rfl

theorem State.inRange_iff (s : State) (x : Lane) (n : Nat) : s.inRange x n = true ↔
    x.running = true ∧ ∃ q : Program, s.programOf x = some q ∧ q.first ≤ n ∧ n < q.first + q.count := by
  unfold State.inRange
  cases s.programOf x <;> simp

/-! ### The holder sets -/

section
variable (s : State) (f : ParamSet → Nat) (g : ShapePart → Nat) (k : Nat)

theorem State.activeHolders_get (c : Channel) :
    (s.activeHolders f k).get c = true ↔ f (s.chans.get c).active = k := by
  cases c <;> exact beq_iff_eq

theorem State.stagedHolders_get (c : Channel) :
    (s.stagedHolders f k).get c = true ↔ ∃ q : ParamSet, (s.chans.get c).staged = some q ∧ f q = k := by
  have one : (s.stagedHolders f k).get c = (s.chans.get c).staged.any (fun q => f q == k) := by cases c <;> rfl
  rw [one]
  cases (s.chans.get c).staged <;> simp

/-- A running lane holds `k` by a step of its program range or by a snapshot (R54). -/
theorem State.laneHolds_iff (x : Lane) : s.laneHolds f g k x = true ↔ x.state ≠ .idle ∧
    ((∃ (n : Nat) (y : StepRecord) (h : ShapePart), s.inRange x n = true ∧ (n, y) ∈ s.steps ∧ y.shape = some h ∧ g h = k)
      ∨ ∃ (c : Channel) (q : ParamSet), x.snapshots.get c = some q ∧ f q = k) := by
  have steps : s.steps.any (fun e => s.inRange x e.1 && e.2.shape.any (fun p => g p == k)) = true
      ↔ ∃ (n : Nat) (y : StepRecord) (h : ShapePart),
          s.inRange x n = true ∧ (n, y) ∈ s.steps ∧ y.shape = some h ∧ g h = k := by
    simp only [List.any_eq_true, Bool.and_eq_true, Option.any_eq_true, beq_iff_eq]
    constructor
    · rintro ⟨⟨n, y⟩, hm, hr, h, hy, hk⟩
      exact ⟨n, y, h, hr, hm, hy, hk⟩
    · rintro ⟨n, y, h, hr, hm, hy, hk⟩
      exact ⟨(n, y), hm, hr, h, hy, hk⟩
  have snapshots : (x.snapshots.l1.any (fun q => f q == k) || x.snapshots.l2.any (fun q => f q == k)
        || x.snapshots.l3.any (fun q => f q == k)) = true
      ↔ ∃ (c : Channel) (q : ParamSet), x.snapshots.get c = some q ∧ f q = k := by
    simp only [Bool.or_eq_true, Option.any_eq_true, beq_iff_eq]
    constructor
    · rintro ((⟨q, hq⟩ | ⟨q, hq⟩) | ⟨q, hq⟩)
      · exact ⟨.L1, q, hq⟩
      · exact ⟨.L2, q, hq⟩
      · exact ⟨.L3, q, hq⟩
    · rintro ⟨c, q, hq⟩
      cases c
      · exact .inl (.inl ⟨q, hq⟩)
      · exact .inl (.inr ⟨q, hq⟩)
      · exact .inr ⟨q, hq⟩
  unfold State.laneHolds
  dsimp only
  rw [Bool.and_eq_true, Lane.running_iff, Bool.or_assoc, Bool.or_assoc, Bool.or_eq_true, steps, ← Bool.or_assoc,
    snapshots]

theorem State.laneHolders_get (l : LaneId) : (s.laneHolders f g k).get l = s.laneHolds f g k (s.lanes.get l) :=
  PerLane.get_mk_map s.lanes (s.laneHolds f g k) l

/-- `k` is named exactly when a holder set has a member. -/
theorem State.named_iff_holders : s.named f g k = true ↔
    (∃ c : Channel, (s.activeHolders f k).get c = true ∨ (s.stagedHolders f k).get c = true)
      ∨ ∃ l : LaneId, (s.laneHolders f g k).get l = true := by
  unfold State.named
  rw [Bool.or_eq_true, Bool.or_eq_true, exists_get_of_noChannels, exists_get_of_noChannels, anyLane_iff, exists_or]

/-- `k` is named exactly when a holder of R54 names it. -/
theorem State.named_iff : s.named f g k = true ↔
    (∃ c : Channel, f (s.chans.get c).active = k)
    ∨ (∃ (c : Channel) (q : ParamSet), (s.chans.get c).staged = some q ∧ f q = k)
    ∨ ∃ l : LaneId, (s.lanes.get l).state ≠ .idle ∧
        ((∃ (q : Program) (n : Nat) (x : StepRecord) (h : ShapePart), s.programOf (s.lanes.get l) = some q
            ∧ q.first ≤ n ∧ n < q.first + q.count ∧ (n, x) ∈ s.steps ∧ x.shape = some h ∧ g h = k)
          ∨ ∃ (c : Channel) (q : ParamSet), (s.lanes.get l).snapshots.get c = some q ∧ f q = k) := by
  rw [State.named_iff_holders, exists_or, or_assoc]
  simp only [State.activeHolders_get, State.stagedHolders_get, State.laneHolders_get, State.laneHolds_iff]
  refine or_congr_right (or_congr_right (exists_congr fun l => and_congr_right fun running => or_congr_left ?_))
  constructor
  · rintro ⟨n, x, h, hr, hm, hx, hk⟩
    obtain ⟨-, q, hq, first, last⟩ := (s.inRange_iff _ n).1 hr
    exact ⟨q, n, x, h, hq, first, last, hm, hx, hk⟩
  · rintro ⟨q, n, x, h, hq, first, last, hm, hx, hk⟩
    exact ⟨n, x, h, (s.inRange_iff _ n).2 ⟨(Lane.running_iff _).2 running, q, hq, first, last⟩, hm, hx, hk⟩

end

/-- Settles O18: the holders of a table and of an overlay set are read by the same function of the fields. -/
theorem referencesAreTheirHolders : Obligations.ReferencesAreTheirHolders :=
  fun s k => ⟨s.named_iff ParamSet.table ShapePart.table k, s.named_iff ParamSet.overlay ShapePart.overlay k⟩

end Sys2Proof.Machine
end

section
/-! PROOF. The commands of Chapter 3 that write: each command's answer per outcome of its checks, and what a table's record
and a chunk's entries read after it. -/

namespace Sys2Proof.Machine

/-! ### The record of a table -/

theorem loadable_iff (t : Nat) : loadable t = true ↔ 0 < t ∧ t ≤ 15 := by
  simp [loadable, Nat.lt_iff_add_one_le]

theorem loadable_eq_false {t : Nat} (h : t = 0 ∨ 15 < t) : loadable t = false := by
  rw [← Bool.not_eq_true, loadable_iff]
  omega

theorem TableState.ownedByOther_iff (x : TableState) (p : Port) :
    x.ownedByOther p = true ↔ ∃ (q : Port) (cov : List Nat), q ≠ p ∧ x = .loading q cov := by
  cases x <;> simp [TableState.ownedByOther]

theorem State.get_setTable_ne (s : State) {t u : Nat} (x : TableState) (h : u ≠ t) :
    Store.get (s.setTable t x).tables u = Store.get s.tables u := by
  rw [State.tables_setTable]
  split_ifs
  · exact Store.get_del_ne _ h
  · exact Store.get_put_ne _ _ h

theorem State.get_setTable_self (s : State) (t : Nat) {x : TableState} (h : x ≠ .empty) :
    Store.get (s.setTable t x).tables t = some x := by
  rw [State.tables_setTable, if_neg h, Store.get_put_self]

theorem State.get_setTable_empty (s : State) (t : Nat) : Store.get (s.setTable t .empty).tables t = none := by
  rw [State.tables_setTable, if_pos rfl, Store.get_del_self]

theorem coverageSound_length_le {cov : List Nat} (h : coverageSound cov) : cov.length ≤ 32 := by
  have sub : cov ⊆ List.range 32 := fun d hd => List.mem_range.2 (h.2 d hd)
  have nodup : cov.Nodup := h.1.imp fun hlt => Nat.ne_of_lt hlt
  simpa using (nodup.subperm sub).length_le

/-! ### BEGIN_TABLE (R45) -/

theorem exec_beginTable (p : Port) (t : Nat) (s : State) :
    exec (.beginTable p t) s = .next (State.answer p 0x20 (s.beginTable p t)) := rfl

section
variable {s : State} {p : Port} {t : Nat}

theorem State.beginTable_of_not_loadable (h : loadable t = false) :
    s.beginTable p t = (s, Reply.refuse .badArgument) := by
  simp [State.beginTable, h]

theorem State.beginTable_of_owned (h : loadable t = true) (owned : (s.tableState t).ownedByOther p = true) :
    s.beginTable p t = (s, Reply.refuse .ownedByOther) := by
  simp [State.beginTable, h, owned]

theorem State.beginTable_of_referenced (h : loadable t = true) (free : (s.tableState t).ownedByOther p = false)
    (named : s.tableReferenced t = true) : s.beginTable p t = (s, Reply.refuse .inUse) := by
  simp [State.beginTable, h, free, named]

theorem State.beginTable_of_accepted (h : loadable t = true) (free : (s.tableState t).ownedByOther p = false)
    (unnamed : s.tableReferenced t = false) :
    s.beginTable p t = (s.setTable t (.loading p []), Reply.ok (byteItem t ++ byteItem 1)) := by
  simp [State.beginTable, h, free, unnamed, tableStateNumber]

end

/-- Settles O19: one equation of `State.beginTable` for each outcome. -/
theorem beginTableStartsLoad : Obligations.BeginTableStartsLoad := by
  refine fun p t s => ⟨fun h => ?_, fun low high => ⟨fun q cov hq loading => ?_, fun mine => ⟨fun named => ?_,
    fun unnamed => ?_⟩⟩⟩
  · rw [exec_beginTable, State.beginTable_of_not_loadable (loadable_eq_false h), State.answer_refuse]
  · have owned := ((s.tableState t).ownedByOther_iff p).2 ⟨q, cov, hq, loading⟩
    rw [exec_beginTable, State.beginTable_of_owned ((loadable_iff t).2 ⟨low, high⟩) owned, State.answer_refuse]
  all_goals
    have free : (s.tableState t).ownedByOther p = false := by
      rw [← Bool.not_eq_true, TableState.ownedByOther_iff]
      rintro ⟨q, cov, hq, loading⟩
      exact hq (mine q cov loading)
  · rw [exec_beginTable, State.beginTable_of_referenced ((loadable_iff t).2 ⟨low, high⟩) free named, State.answer_refuse]
  · refine ⟨(s.setTable t (.loading p [])).tables, ?_, s.get_setTable_self t (by simp),
      fun u hu => s.get_setTable_ne _ hu⟩
    rw [exec_beginTable, State.beginTable_of_accepted ((loadable_iff t).2 ⟨low, high⟩) free unnamed, State.answer_ok]
    rfl

/-! ### WRITE_TABLE_CHUNK (R46) -/

theorem exec_writeTableChunk (p : Port) (t c : Nat) (entries : List Int) (s : State) :
    exec (.writeTableChunk p t c entries) s = .next (State.answer p 0x21 (s.writeTableChunk p t c entries)) := rfl

section
variable {s : State} {p : Port} {t c : Nat} {entries : List Int}

theorem State.writeTableChunk_of_bad_operand (h : loadable t = false ∨ 31 < c) :
    s.writeTableChunk p t c entries = (s, Reply.refuse .badArgument) := by
  unfold State.writeTableChunk
  refine if_pos ?_
  rcases h with h | h
  · simp [h]
  · simp [Nat.not_le.2 h]

theorem State.writeTableChunk_of_not_loading (h : loadable t = true) (hc : c ≤ 31)
    (idle : s.tableState t = .empty ∨ s.tableState t = .ready) :
    s.writeTableChunk p t c entries = (s, Reply.refuse .wrongState) := by
  rcases idle with idle | idle <;> simp [State.writeTableChunk, h, hc, idle]

theorem State.writeTableChunk_of_owned (h : loadable t = true) (hc : c ≤ 31) {q : Port} {cov : List Nat} (hq : q ≠ p)
    (loading : s.tableState t = .loading q cov) :
    s.writeTableChunk p t c entries = (s, Reply.refuse .ownedByOther) := by
  simp [State.writeTableChunk, h, hc, loading, hq]

theorem State.writeTableChunk_of_accepted (h : loadable t = true) (hc : c ≤ 31) {cov : List Nat}
    (loading : s.tableState t = .loading p cov) : s.writeTableChunk p t c entries
      = ({ s with
            tables := (s.setTable t (.loading p (coverChunk cov c))).tables
            wave := Memory.writeList s.wave (chunkBase t c) (entries.map storedEntry) },
         Reply.taken (entries.map storedEntry != entries) (byteItem (coverChunk cov c).length)) := by
  simp only [State.writeTableChunk, h, hc, loading, decide_true, Bool.and_self, Bool.not_true, Bool.false_eq_true,
    if_false, ne_eq, not_true_eq_false]
  rfl

end

/-- A carried entry is stored as it is, but for -32,768 (R46). -/
theorem storedEntry_of_code {v : Int} (h : v ≤ 32767) : storedEntry v = max (-32767) v := by
  rw [storedEntry, clampInt_eq (by decide), min_eq_right h]

/-- No entry is adjusted exactly when every entry lies in the range of a stored one. -/
theorem map_storedEntry_eq_self_iff {entries : List Int} (carried : ∀ v ∈ entries, -32768 ≤ v ∧ v ≤ 32767) :
    entries.map storedEntry = entries ↔ ∀ v ∈ entries, -32767 ≤ v := by
  have one : ∀ v ∈ entries, storedEntry v = v ↔ -32767 ≤ v := by
    intro v hv
    rw [storedEntry_of_code (carried v hv).2, max_eq_right_iff]
  conv_lhs => rhs; rw [← entries.map_id]
  rw [List.map_eq_map_iff]
  exact forall₂_congr one

/-- Settles O20: one equation of `State.writeTableChunk` for each outcome; the coverage is `coverChunk`'s and the entries
are `Memory.writeList`'s. -/
theorem chunkWriteStoresItsEntries : Obligations.ChunkWriteStoresItsEntries := by
  refine fun p t c entries s length carried => ⟨fun h => ?_, fun low high hc =>
    ⟨fun idle => ?_, fun q cov hq loading => ?_, fun cov loading => ?_⟩⟩
  · have bad : loadable t = false ∨ 31 < c := by
      rcases h with h | h | h
      · exact .inl (loadable_eq_false (.inl h))
      · exact .inl (loadable_eq_false (.inr h))
      · exact .inr h
    rw [exec_writeTableChunk, State.writeTableChunk_of_bad_operand bad, State.answer_refuse]
  all_goals have table := (loadable_iff t).2 ⟨low, high⟩
  · rw [exec_writeTableChunk, State.writeTableChunk_of_not_loading table hc idle, State.answer_refuse]
  · rw [exec_writeTableChunk, State.writeTableChunk_of_owned table hc hq loading, State.answer_refuse]
  · have adjusted : (if (entries.map storedEntry != entries) = true then StatusCode.clamped else .ok)
        = if ∀ v ∈ entries, -32767 ≤ v then .ok else .clamped := by
      rw [← ite_not]
      exact if_congr (by rw [bne_iff_ne, not_not, map_storedEntry_eq_self_iff carried]) rfl rfl
    refine ⟨(s.setTable t (.loading p (coverChunk cov c))).tables,
      Memory.writeList s.wave (chunkBase t c) (entries.map storedEntry), coverChunk cov c, ?_,
      s.get_setTable_self t (by simp), mem_coverChunk cov c, fun sound => ?_, fun u hu => s.get_setTable_ne _ hu,
      fun i v hi => ?_, fun a ha => ?_⟩
    · rw [exec_writeTableChunk, State.writeTableChunk_of_accepted table hc loading, State.answer_taken, adjusted]
      rfl
    · have sound' := coverageSound_coverChunk sound (Nat.lt_of_le_of_lt hc (by decide))
      refine ⟨sound', length_coverChunk sound.1, ?_, ?_⟩
      · exact List.length_pos_of_mem ((mem_coverChunk cov c c).2 (.inr rfl))
      · exact coverageSound_length_le sound'
    · rw [← storedEntry_of_code (carried v (List.mem_of_getElem? hi)).2]
      exact Memory.read_writeList _ _ _ _ (by rw [List.getElem?_map, hi]; rfl)
    · refine Memory.read_writeList_outside _ _ ?_
      rwa [List.length_map, length]

/-! ### COMMIT_TABLE and DISCARD_TABLE (R47, R48) -/

theorem exec_commitTable (p : Port) (t : Nat) (s : State) :
    exec (.commitTable p t) s = .next (State.answer p 0x22 (s.commitTable p t)) := rfl

theorem exec_discardTable (p : Port) (t : Nat) (s : State) :
    exec (.discardTable p t) s = .next (State.answer p 0x23 (s.discardTable t)) := rfl

section
variable {s : State} {p : Port} {t : Nat}

theorem State.commitTable_of_not_loadable (h : loadable t = false) :
    s.commitTable p t = (s, Reply.refuse .badArgument) := by
  simp [State.commitTable, h]

theorem State.commitTable_of_not_loading (h : loadable t = true)
    (idle : s.tableState t = .empty ∨ s.tableState t = .ready) :
    s.commitTable p t = (s, Reply.refuse .wrongState) := by
  rcases idle with idle | idle <;> simp [State.commitTable, h, idle]

theorem State.commitTable_of_owned (h : loadable t = true) {q : Port} {cov : List Nat} (hq : q ≠ p)
    (loading : s.tableState t = .loading q cov) : s.commitTable p t = (s, Reply.refuse .ownedByOther) := by
  simp [State.commitTable, h, loading, hq]

theorem State.commitTable_of_uncovered (h : loadable t = true) {cov : List Nat}
    (loading : s.tableState t = .loading p cov) (uncovered : cov ≠ List.range 32) :
    s.commitTable p t = (s, ⟨.notReady, numBytes 4 (chunkBits cov)⟩) := by
  simp [State.commitTable, h, loading, uncovered]

theorem State.commitTable_of_covered (h : loadable t = true) (loading : s.tableState t = .loading p (List.range 32)) :
    s.commitTable p t = (s.setTable t .ready, Reply.ok []) := by
  simp [State.commitTable, h, loading]

theorem State.discardTable_of_not_loadable (h : loadable t = false) :
    s.discardTable t = (s, Reply.refuse .badArgument) := by
  simp [State.discardTable, h]

theorem State.discardTable_of_referenced (h : loadable t = true) (named : s.tableReferenced t = true) :
    s.discardTable t = (s, Reply.refuse .inUse) := by
  simp [State.discardTable, h, named]

theorem State.discardTable_of_accepted (h : loadable t = true) (unnamed : s.tableReferenced t = false) :
    s.discardTable t = (s.setTable t .empty, Reply.ok []) := by
  simp [State.discardTable, h, unnamed]

end

/-- Settles O21: one equation of each command for each outcome; a sound coverage with every chunk in it is the whole list
(`coverageSound_full`). -/
theorem commitAndDiscard : Obligations.CommitAndDiscard := by
  refine fun p t s => ⟨fun h => ⟨?_, ?_⟩, fun low high => ⟨fun idle => ?_, fun q cov hq loading => ?_,
    fun cov loading ⟨d, hd, missing⟩ => ?_, fun cov loading sound full => ?_, fun named => ?_, fun unnamed => ?_⟩⟩
  · rw [exec_commitTable, State.commitTable_of_not_loadable (loadable_eq_false h), State.answer_refuse]
  · rw [exec_discardTable, State.discardTable_of_not_loadable (loadable_eq_false h), State.answer_refuse]
  all_goals have table := (loadable_iff t).2 ⟨low, high⟩
  · rw [exec_commitTable, State.commitTable_of_not_loading table idle, State.answer_refuse]
  · rw [exec_commitTable, State.commitTable_of_owned table hq loading, State.answer_refuse]
  · have uncovered : cov ≠ List.range 32 := by
      rintro rfl
      exact missing (List.mem_range.2 hd)
    rw [exec_commitTable, State.commitTable_of_uncovered table loading uncovered]
    rfl
  · obtain rfl := coverageSound_full sound full
    refine ⟨(s.setTable t .ready).tables, ?_, s.get_setTable_self t (by simp), fun u hu => s.get_setTable_ne _ hu⟩
    rw [exec_commitTable, State.commitTable_of_covered table loading, State.answer_ok]
    rfl
  · rw [exec_discardTable, State.discardTable_of_referenced table named, State.answer_refuse]
  · refine ⟨(s.setTable t .empty).tables, ?_, s.get_setTable_empty t, fun u hu => s.get_setTable_ne _ hu⟩
    rw [exec_discardTable, State.discardTable_of_accepted table unnamed, State.answer_ok]
    rfl

/-! ### WRITE_OVERLAY_SET (R52) -/

theorem exec_writeOverlaySet (p : Port) (n count : Nat) (slots : List OverlaySlot) (s : State) :
    exec (.writeOverlaySet p n count slots) s = .next (State.answer p 0x26 (s.writeOverlaySet n count slots)) := rfl

theorem storedTerm_eq (x : OverlaySlot) : storedTerm x = ⟨max 2 (min 40 x.order), min x.amplitude 500, x.phase⟩ := by
  rw [storedTerm, clampNat_eq (by decide), clampNat_eq (Nat.zero_le _), Nat.zero_max, min_comm 500]

theorem termAdjusted_eq_false_iff (x : OverlaySlot) :
    termAdjusted x = false ↔ 2 ≤ x.order ∧ x.order ≤ 40 ∧ x.amplitude ≤ 500 := by
  simp only [termAdjusted, Bool.or_eq_false_iff, bne_eq_false_iff_eq, clampNat_eq (show 2 ≤ 40 by decide),
    clampNat_eq (Nat.zero_le 500)]
  omega

section
variable {s : State} {n count : Nat} {slots : List OverlaySlot}

theorem State.writeOverlaySet_of_bad_operand (h : n = 0 ∨ 7 < n ∨ 6 < count) :
    s.writeOverlaySet n count slots = (s, Reply.refuse .badArgument) := by
  unfold State.writeOverlaySet
  refine if_pos ?_
  simp only [Bool.not_eq_true', Bool.and_eq_false_iff, decide_eq_false_iff_not]
  omega

theorem State.writeOverlaySet_of_referenced (operands : 0 < n ∧ n ≤ 7 ∧ count ≤ 6)
    (named : s.overlayReferenced n = true) : s.writeOverlaySet n count slots = (s, Reply.refuse .inUse) := by
  obtain ⟨low, high, hc⟩ := operands
  simp [State.writeOverlaySet, Nat.one_le_iff_ne_zero, low.ne', high, hc, named]

theorem State.writeOverlaySet_of_accepted (operands : 0 < n ∧ n ≤ 7 ∧ count ≤ 6)
    (unnamed : s.overlayReferenced n = false) : s.writeOverlaySet n count slots
      = ({ s with overlays := Store.put s.overlays n ((slots.take count).map storedTerm) },
         Reply.taken ((slots.take count).any termAdjusted) []) := by
  obtain ⟨low, high, hc⟩ := operands
  simp [State.writeOverlaySet, Nat.one_le_iff_ne_zero, low.ne', high, hc, unnamed]

end

/-- Settles O22: one equation of `State.writeOverlaySet` for each outcome; `storedTerm` adjusts each term. -/
theorem overlaySetReplaced : Obligations.OverlaySetReplaced := by
  refine fun p n count slots s => ⟨fun h => ?_, fun low high hc => ⟨fun named => ?_, fun unnamed => ?_⟩⟩
  · rw [exec_writeOverlaySet, State.writeOverlaySet_of_bad_operand h, State.answer_refuse]
  · rw [exec_writeOverlaySet, State.writeOverlaySet_of_referenced ⟨low, high, hc⟩ named, State.answer_refuse]
  · refine ⟨Store.put s.overlays n ((slots.take count).map storedTerm),
      if (slots.take count).any termAdjusted then .clamped else .ok, ?_, ?_, fun m hm => Store.get_put_ne _ _ hm, ?_⟩
    · rw [exec_writeOverlaySet, State.writeOverlaySet_of_accepted ⟨low, high, hc⟩ unnamed, State.answer_taken]
    · rw [Store.get_put_self, List.map_congr_left fun x _ => storedTerm_eq x]
    · rw [← ite_not]
      refine if_congr ?_ rfl rfl
      rw [Bool.not_eq_true, List.any_eq_false]
      exact forall₂_congr fun x _ => by rw [Bool.not_eq_true, termAdjusted_eq_false_iff]

end Sys2Proof.Machine
end

section
/-! PROOF. The canonical form of the capture side at a sample event: the channels' and the lanes' work leaves the
capture memory and the completion records (`State.RecordsStand`), and the capture engine's work writes both in their
canonical form. -/

namespace Sys2Proof.Machine

/-- The capture memory and the completion records stand. -/
structure State.RecordsStand (s t : State) : Prop where
  mem : t.mem = s.mem
  comps : t.comps = s.comps

theorem State.RecordsStand.refl (s : State) : s.RecordsStand s := ⟨rfl, rfl⟩

theorem State.RecordsStand.trans {s t u : State} (h : s.RecordsStand t) (k : t.RecordsStand u) : s.RecordsStand u :=
  ⟨k.mem.trans h.mem, k.comps.trans h.comps⟩

/-! ### The lanes' work -/

theorem records_setLane (s : State) (l : LaneId) (x : Lane) : s.RecordsStand (s.setLane l x) := ⟨rfl, rfl⟩

theorem records_alertOrigin (s : State) (o : Option Port) (a : Alert) : s.RecordsStand (s.alertOrigin o a) := by
  rw [State.alertOrigin_frame]; exact ⟨rfl, rfl⟩

theorem records_holdLane (s : State) (l : LaneId) (x : Lane) (r : HoldReason) (f : HeldFrom) :
    s.RecordsStand (s.holdLane l x r f) := (records_setLane s l _).trans (records_alertOrigin _ _ _)

theorem records_goIdle (s : State) (l : LaneId) : s.RecordsStand (s.goIdle l) := by
  rw [State.goIdle_frame]; exact ⟨rfl, rfl⟩

theorem records_revert (s : State) (x : Lane) (c : Channel) : s.RecordsStand (s.revert x c) := by
  rw [State.revert_frame]; exact ⟨rfl, rfl⟩

theorem records_applyStep (t : Tick) (l : LaneId) (x : Lane) (step : StepRecord) :
    t.st.RecordsStand (t.applyStep l x step).st := by
  have fields : t.st.RecordsStand (t.applyFields step x).st := by rw [Tick.applyFields_frame]; exact ⟨rfl, rfl⟩
  have markers : ∀ u : Tick, u.st.RecordsStand (u.applyMarkers step).st := by
    intro u
    unfold Tick.applyMarkers
    split <;> exact ⟨rfl, rfl⟩
  have capture : ∀ u : Tick, u.st.RecordsStand (u.applyCapture step l x).st := by
    intro u
    unfold Tick.applyCapture
    split <;> exact ⟨rfl, rfl⟩
  exact ((fields.trans (markers _)).trans (capture _)).trans (records_setLane _ l _)

theorem records_align (t : Tick) (l : LaneId) (x : Lane) (step : StepRecord) :
    t.st.RecordsStand (t.align l x step).st := by
  unfold Tick.align
  split
  · exact records_applyStep t l x step
  · exact ⟨rfl, rfl⟩

theorem records_enter (t : Tick) (l : LaneId) (x : Lane) (pos : Nat) (push : Bool) :
    t.st.RecordsStand (t.enter l x pos push).st := by
  unfold Tick.enter
  split
  · exact .refl _
  · dsimp only
    split
    · exact records_holdLane _ _ _ _ _
    · exact records_align _ _ _ _

theorem records_complete (t : Tick) (l : LaneId) (x : Lane) (policy : ExitPolicy) :
    t.st.RecordsStand (t.complete l x policy).st := by
  cases policy with
  | keep => exact (records_setLane t.st l _).trans (records_goIdle _ l)
  | restore => exact ⟨rfl, rfl⟩

theorem records_finish (t : Tick) (l : LaneId) (x : Lane) (step : StepRecord) :
    t.st.RecordsStand (t.finish l x step).st := by
  unfold Tick.finish
  split
  · dsimp only
    split
    · exact records_enter _ _ _ _ _
    · split
      · exact records_enter _ _ _ _ _
      · exact records_complete _ _ _ _
  · exact .refl _

theorem records_dwellWork (t : Tick) (l : LaneId) (x : Lane) (step : StepRecord) :
    t.st.RecordsStand (t.dwellWork l x step).st := by
  have done : t.st.RecordsStand (t.dwellDone l x step).st := by
    unfold Tick.dwellDone
    dsimp only
    split
    · exact ⟨rfl, rfl⟩
    · exact records_finish (t.happens (.dwellEnd l)) _ _ _
  unfold Tick.dwellWork
  split
  · exact .refl _
  · dsimp only
    split_ifs
    · exact .refl _
    · exact done
    · exact ⟨rfl, rfl⟩

theorem records_timeoutWork (t : Tick) (l : LaneId) (x : Lane) (step : StepRecord) (w : WaitPart) :
    t.st.RecordsStand (t.timeoutWork l x step w).st := by
  unfold Tick.timeoutWork
  dsimp only
  split_ifs
  · unfold Tick.timedOut
    dsimp only
    split
    · exact records_finish (t.happens (.waitTimeout l)) _ _ _
    · exact ⟨rfl, rfl⟩
  · exact ⟨rfl, rfl⟩
  · exact ⟨rfl, rfl⟩

theorem records_waitWork (t : Tick) (l : LaneId) (x : Lane) (step : StepRecord) :
    t.st.RecordsStand (t.waitWork l x step).st := by
  unfold Tick.waitWork
  split
  · exact .refl _
  · dsimp only
    split_ifs
    · exact records_finish (t.happens (.waitMet l)) _ _ _
    · exact records_timeoutWork _ _ _ _ _

theorem records_closingWork (t : Tick) (l : LaneId) (x : Lane) : t.st.RecordsStand (t.closingWork l x).st := by
  have one : ∀ (s : State) (c : Channel), s.RecordsStand (if t.revertsNow x c then s.revert x c else s) := by
    intro s c
    split
    · exact records_revert s x c
    · exact .refl s
  have reverted := ((one t.st .L1).trans (one _ .L2)).trans (one _ .L3)
  unfold Tick.closingWork
  dsimp only [Tick.withState]
  split
  · exact (reverted.trans (records_setLane _ l _)).trans (records_goIdle _ l)
  · exact reverted.trans (records_setLane _ l _)

theorem records_laneWork (t : Tick) (l : LaneId) : t.st.RecordsStand (t.laneWork l).st := by
  unfold Tick.laneWork
  dsimp only
  split
  · exact records_align _ _ _ _
  · exact records_dwellWork _ _ _ _
  · exact records_waitWork _ _ _ _
  · exact records_closingWork _ _ _
  · exact .refl _

/-! ### The channels' work -/

theorem records_opening (t : Tick) (c : Channel) : t.st.RecordsStand (t.opening c).st := by
  have sense : ∀ u : Tick, u.st.RecordsStand (u.senseWork c).st := by
    intro u
    unfold Tick.senseWork
    split
    · exact .refl _
    · dsimp only
      split <;> exact ⟨rfl, rfl⟩
  have promote : ∀ u : Tick, u.st.RecordsStand (u.promote c).st := by
    intro u
    unfold Tick.promote
    dsimp only
    split
    · split <;> exact ⟨rfl, rfl⟩
    · exact .refl _
  have unpark : ∀ u : Tick, u.st.RecordsStand (u.unpark c).st := by
    intro u
    unfold Tick.unpark
    split <;> exact ⟨rfl, rfl⟩
  have advance : t.st.RecordsStand (t.advance c).st := by rw [Tick.advance_eq]; exact ⟨rfl, rfl⟩
  exact ((advance.trans (sense _)).trans (promote _)).trans (unpark _)

theorem records_ending (t : Tick) (c : Channel) : t.st.RecordsStand (t.ending c).st := by
  obtain ⟨n, p, h, he⟩ := (t.ramps c).emit_eq c
  unfold Tick.ending
  rw [he, Tick.ramps_eq]
  exact ⟨rfl, rfl⟩

theorem records_work (t : Tick) (g : ChannelSet) : t.st.RecordsStand (t.work g).st := by
  have opened : t.st.RecordsStand (t.openings g).st :=
    Tick.forChannels_keeps (P := fun u => t.st.RecordsStand u.st) (fun u c _ h => h.trans (records_opening u c))
      (.refl _)
  have worked : t.st.RecordsStand ((t.openings g).lanesIn g).st :=
    Tick.lanesIn_keeps (P := fun u => t.st.RecordsStand u.st) (fun u l h _ => h.trans (records_laneWork u l)) opened
  exact Tick.forChannels_keeps (P := fun u => t.st.RecordsStand u.st) (fun u c _ h => h.trans (records_ending u c))
    worked

theorem records_takeLinks (s : State) (o : LinkOrder) : s.RecordsStand (s.takeLinks o) := by
  have source : ∀ (t : State) (c : Cause) (on : Bool), t.RecordsStand (t.takeSource c on) := by
    intro t c on
    rw [State.takeSource_frame]
    exact ⟨rfl, rfl⟩
  have one : ∀ (t : State) (k : Channel), t.RecordsStand (t.takeLink k) := fun t k =>
    (source t _ _).trans (source _ _ _)
  exact ((one _ _).trans (one _ _)).trans (one _ _)

theorem records_channelWork (t : Tick) (o : TickOrder) (g : ChannelSet) :
    t.st.RecordsStand (t.channelWork o g).st := by
  have first := (records_work t g).trans (records_takeLinks _ o.sources)
  exact first.trans (records_work ((t.work g).withState ((t.work g).st.takeLinks o.sources)) (otherChannels g))

/-- A sample event leaves the capture memory and the completion records to the capture engine. -/
theorem records_tickChannels (o : TickOrder) (s : State) : s.RecordsStand (tickChannels o s).st := by
  have verdicts : s.RecordsStand (Tick.verdicts s).st := by
    obtain ⟨e, he⟩ := Tick.verdicts_eq s
    rw [he]
    exact ⟨rfl, rfl⟩
  exact verdicts.trans (records_channelWork _ o _)

theorem records_frames (t : Tick) (o : TickOrder) (f : Channel → Bool) : t.st.RecordsStand (t.frames o f).st :=
  ⟨rfl, rfl⟩

theorem records_endPulse (t : Tick) (m : MarkerLine) (b : Bool) : t.st.RecordsStand (t.endPulse m b).st := by
  unfold Tick.endPulse
  split
  · exact ⟨State.mem_setMarker _ m _, State.comps_setMarker _ m _⟩
  · exact .refl _

/-! ### The capture engine's work -/

/-- The capture memory and the completion records are in their canonical form. -/
def State.RecordsCanonical (s : State) : Prop := Memory.wf s.mem ∧ Store.wf s.comps

theorem State.RecordsCanonical.stand {s t : State} (h : s.RecordsCanonical) (k : s.RecordsStand t) :
    t.RecordsCanonical := by
  unfold State.RecordsCanonical
  rw [k.mem, k.comps]
  exact h

theorem records_endRun (s : State) : s.RecordsStand s.endRun := by
  have idle : s.RecordsStand (s.setEngine { s.engine with isActive := false, current := none }) := ⟨rfl, rfl⟩
  exact idle.trans (records_alertOrigin _ _ _)

theorem State.RecordsCanonical.closePass {s : State} (h : s.RecordsCanonical) (d : Nat) (r : PassReason) :
    (s.closePass d r).RecordsCanonical := ⟨h.1, Store.wf_put d _ h.2⟩

theorem State.RecordsCanonical.endPass {s : State} (h : s.RecordsCanonical) (d : Nat) (x : Descriptor)
    (r : PassReason) : (s.endPass d x r).RecordsCanonical := by
  have closed := h.closePass d r
  unfold State.endPass State.followNext
  split
  · split
    · exact closed.stand ⟨rfl, rfl⟩
    · exact closed.stand (records_endRun _)
  · exact closed.stand (records_endRun _)

theorem State.RecordsCanonical.storeWord {s : State} (h : s.RecordsCanonical) (x : Descriptor) (w : Int)
    (last : Option Int) : (s.storeWord x w last).RecordsCanonical := ⟨Memory.wf_write _ w h.1, h.2⟩

theorem State.RecordsCanonical.fillCheck {s : State} (h : s.RecordsCanonical) (d : Nat) (x : Descriptor) :
    (s.fillCheck d x).st.RecordsCanonical := by
  unfold State.fillCheck
  split
  · exact h.endPass d x .full
  · exact h

theorem State.RecordsCanonical.takeOffer {s : State} (h : s.RecordsCanonical) (d : Nat) (x : Descriptor) (o : Offer) :
    (s.takeOffer d x o).st.RecordsCanonical := by
  have counted : (s.setEngine { s.engine with phase := 0 }).RecordsCanonical := h
  unfold State.takeOffer
  split
  · exact h
  · unfold State.passOffer
    split
    · exact (counted.storeWord x _ _).fillCheck d x
    · split
      · exact (counted.storeWord x _ _).endPass d x .monitor
      · split
        · exact (counted.storeWord x _ _).fillCheck d x
        · exact counted

theorem records_laneStart (s : State) (l : LaneId) (p : Port) (d : Nat) : s.RecordsStand (s.laneStart l p d) := by
  unfold State.laneStart
  split <;> exact ⟨rfl, rfl⟩

theorem records_takeStarts (t : Tick) (starts : List (LaneId × Port × Nat)) :
    t.st.RecordsStand (t.takeStarts starts).st := by
  induction starts generalizing t with
  | nil => exact .refl _
  | cons e starts ih =>
    exact (records_laneStart t.st e.1 e.2.1 e.2.2).trans (ih (t.withState (t.st.laneStart e.1 e.2.1 e.2.2)))

theorem Tick.offerWork_recordsCanonical (t : Tick) (b : Bool) (h : t.st.RecordsCanonical) :
    (t.offerWork b).st.RecordsCanonical := by
  unfold Tick.offerWork
  split
  · split
    · split
      · have taken := fun d x o => h.takeOffer d x o
        dsimp only
        split_ifs <;> exact taken _ _ _
      · exact h
    · exact h
  · exact h

theorem Tick.captureWork_recordsCanonical (t : Tick) (b : Bool) (n : Nat) (h : t.st.RecordsCanonical) :
    (t.captureWork b n).st.RecordsCanonical := by
  have first := h.stand (records_takeStarts t (t.starts.take n))
  exact (Tick.offerWork_recordsCanonical _ b first).stand (records_takeStarts _ _)

/-! ### The whole sample event -/

/-- A sample event writes the capture memory and the completion records in their canonical form. -/
theorem tick_recordsCanonical (o : TickOrder) {s : State} (h : s.RecordsCanonical) :
    (tick o s).st.RecordsCanonical := by
  unfold tick
  dsimp only
  exact Tick.captureWork_recordsCanonical _ _ _ ((h.stand (records_tickChannels o s)).stand
    (((records_frames _ _ _).trans (records_endPulse _ .M1 _)).trans (records_endPulse _ .M2 _)))

end Sys2Proof.Machine
end

section
/-! PROOF. What the block names at a sample event: while every table that a holder of R54 names lies in a set `R`, and every
running lane is placed in its program, no work of a sample event makes a holder name a table outside `R`
(`tick_namesIn`). -/

namespace Sys2Proof.Machine

/-! ### The tables that the holders name -/

/-- The tables that a channel's active set and its pending staged set name lie in `R`. -/
def Chan.NamesIn (R : Nat → Prop) (x : Chan) : Prop := R x.active.table ∧ ∀ q ∈ x.staged, R q.table

/-- Lane record `x` runs program `q`: its group stack names positions of the program, and the tables that the program's
steps and the lane's snapshots name lie in `R`. -/
structure State.Runs (s : State) (R : Nat → Prop) (x : Lane) (q : Program) : Prop where
  program : s.programOf x = some q
  stack : ∀ e ∈ x.stack, e.opening < q.count
  steps : ∀ k : Nat, k < q.count → ∀ step : StepRecord, Store.get s.steps (q.first + k) = some step →
    ∀ p ∈ step.shape, R p.table
  snapshots : ∀ c : Channel, ∀ p ∈ x.snapshots.get c, R p.table

/-- The current step of lane record `x` lies in program `q`. -/
def Lane.Placed (x : Lane) (q : Program) : Prop := ∃ k : Nat, x.position = some k ∧ k < q.count

/-- Lane record `x`, when it runs, runs a program, and has a current step in it unless it is CLOSING. -/
def State.LaneIn (s : State) (R : Nat → Prop) (x : Lane) : Prop :=
  x.running = true → ∃ q : Program, s.Runs R x q ∧ (x.state ≠ .closing → x.Placed q)

/-- Every table that a holder of R54 names lies in `R`, and every running lane is placed in its program. -/
structure State.NamesIn (s : State) (R : Nat → Prop) : Prop where
  chans : ∀ c : Channel, (s.chans.get c).NamesIn R
  lanes : ∀ l : LaneId, s.LaneIn R (s.lanes.get l)

section
variable {R : Nat → Prop}

theorem State.Runs.of_eq {s t : State} {x : Lane} {q : Program} (h : s.Runs R x q) (hp : t.programs = s.programs)
    (hs : t.steps = s.steps) : t.Runs R x q := by
  obtain ⟨program, stack, steps, snapshots⟩ := h
  exact ⟨by rw [State.programOf, hp]; exact program, stack, by rw [hs]; exact steps, snapshots⟩

theorem State.Runs.kept {s t : State} {x : Lane} {q : Program} (h : s.Runs R x q) (k : s.tickKept t) : t.Runs R x q := by
  obtain ⟨-, -, -, steps, programs, -⟩ := k
  exact h.of_eq programs steps

/-- A lane record of the same program and snapshots, with the group stack still in the program. -/
theorem State.Runs.congr {s : State} {x y : Lane} {q : Program} (h : s.Runs R x q) (hp : y.program = x.program)
    (stack : ∀ e ∈ y.stack, e.opening < q.count) (hs : y.snapshots = x.snapshots) : s.Runs R y q :=
  ⟨by rw [State.programOf, hp]; exact h.program, stack, h.steps, by rw [hs]; exact h.snapshots⟩

/-- The step at a position of the program names tables of `R`. -/
theorem State.Runs.shape {s : State} {x : Lane} {q : Program} (h : s.Runs R x q) {k : Nat} (hk : k < q.count)
    {step : StepRecord} (at_ : s.stepAt x k = some step) : ∀ p ∈ step.shape, R p.table := by
  rw [State.stepAt, h.program] at at_
  exact h.steps k hk step at_

/-- The entry of a position of the program: what the step's group open pushes lies in the program too. -/
theorem State.Runs.atStep {s : State} {x : Lane} {q : Program} (h : s.Runs R x q) {pos : Nat} (hpos : pos < q.count)
    (push : Bool) (step : StepRecord) : s.Runs R (x.atStep pos push step) q := by
  refine h.congr rfl (fun e he => ?_) rfl
  simp only [Lane.atStep] at he
  split_ifs at he
  · rcases List.mem_append.1 he with he | he
    · exact h.stack e he
    · cases ho : step.groupOpen with
      | none => simp [ho] at he
      | some c =>
        obtain rfl : e = ⟨pos, c⟩ := by simpa [ho] using he
        exact hpos
  · exact h.stack e he

theorem State.laneIn_of_idle (s : State) {x : Lane} (h : x.state = .idle) : s.LaneIn R x := fun running =>
  absurd h ((Lane.running_iff x).1 running)

theorem State.LaneIn.of_eq {s t : State} {x : Lane} (h : s.LaneIn R x) (hp : t.programs = s.programs)
    (hs : t.steps = s.steps) : t.LaneIn R x := fun running =>
  let ⟨q, runs, placed⟩ := h running
  ⟨q, runs.of_eq hp hs, placed⟩

theorem State.LaneIn.kept {s t : State} {x : Lane} (h : s.LaneIn R x) (k : s.tickKept t) : t.LaneIn R x :=
  let ⟨_, _, _, steps, programs, _⟩ := k
  h.of_eq programs steps

/-- A change of a lane record that leaves its run and its place in the program. -/
theorem State.LaneIn.congr {s : State} {x y : Lane} (h : s.LaneIn R x) (hr : y.running = true → x.running = true)
    (hc : y.state ≠ .closing → x.state ≠ .closing) (hp : y.program = x.program) (hs : y.snapshots = x.snapshots)
    (hk : y.stack = x.stack) (hpos : y.position = x.position) : s.LaneIn R y := fun running => by
  obtain ⟨q, runs, placed⟩ := h (hr running)
  refine ⟨q, runs.congr hp (hk ▸ runs.stack) hs, fun open_ => ?_⟩
  obtain ⟨k, pos, lt⟩ := placed (hc open_)
  exact ⟨k, hpos.trans pos, lt⟩

/-! ### Updates of the state -/

theorem State.NamesIn.of_eq {s t : State} (h : s.NamesIn R) (hc : t.chans = s.chans) (hl : t.lanes = s.lanes)
    (hp : t.programs = s.programs) (hs : t.steps = s.steps) : t.NamesIn R :=
  ⟨by rw [hc]; exact h.chans, fun l => by rw [hl]; exact (h.lanes l).of_eq hp hs⟩

theorem State.NamesIn.of_kept {s t : State} (h : s.NamesIn R) (hc : t.chans = s.chans) (hl : t.lanes = s.lanes)
    (k : s.tickKept t) : t.NamesIn R :=
  let ⟨_, _, _, steps, programs, _⟩ := k
  h.of_eq hc hl programs steps

theorem State.NamesIn.setChan {s : State} (h : s.NamesIn R) (c : Channel) {x : Chan} (hx : x.NamesIn R) :
    (s.setChan c x).NamesIn R := by
  refine ⟨fun d => ?_, fun l => (h.lanes l).kept s.tickKept_refl⟩
  rw [State.chans_setChan, PerChannel.get_set]
  split_ifs
  · exact hx
  · exact h.chans d

theorem State.NamesIn.setLane {s : State} (h : s.NamesIn R) (l : LaneId) {x : Lane} (hx : s.LaneIn R x) :
    (s.setLane l x).NamesIn R := by
  have kept : s.tickKept (s.setLane l x) := s.tickKept_refl
  refine ⟨h.chans, fun m => ?_⟩
  by_cases hm : m = l
  · subst hm
    rw [State.lanes_setLane, PerLane.get_set_self]
    exact hx.kept kept
  · rw [State.lanes_setLane, PerLane.get_set_ne _ _ hm]
    exact (h.lanes m).kept kept

theorem State.NamesIn.alertOrigin {s : State} (h : s.NamesIn R) (o : Option Port) (a : Alert) :
    (s.alertOrigin o a).NamesIn R := by
  cases o with
  | none => exact h
  | some p => exact h.of_kept rfl rfl s.tickKept_refl

theorem State.NamesIn.goIdle {s : State} (h : s.NamesIn R) (l : LaneId) : (s.goIdle l).NamesIn R :=
  (h.setLane l (s.laneIn_of_idle rfl)).alertOrigin _ _

theorem State.NamesIn.holdLane {s : State} (h : s.NamesIn R) (l : LaneId) {x : Lane} (r : HoldReason) (f : HeldFrom)
    (hx : s.LaneIn R (x.toHeld r f)) : (s.holdLane l x r f).NamesIn R := (h.setLane l hx).alertOrigin _ _

theorem State.NamesIn.revert {s : State} (h : s.NamesIn R) {x : Lane} (c : Channel)
    (hx : ∀ p ∈ x.snapshots.get c, R p.table) : (s.revert x c).NamesIn R := by
  unfold State.revert
  split
  · rename_i p hp
    exact h.setChan c ⟨hx p hp, (h.chans c).2⟩
  · exact h

/-! ### The endings of lanes and the entry to TRIPPED -/

theorem State.NamesIn.endLane {s : State} (h : s.NamesIn R) (r : EndReason) (l : LaneId) : (s.endLane r l).NamesIn R := by
  by_cases running : (s.lanes.get l).running = true
  · obtain ⟨q, runs, -⟩ := h.lanes l running
    have one : ∀ (t : State) (c : Channel), t.NamesIn R → (t.revertUnreverted (s.lanes.get l) c).NamesIn R := by
      intro t c ht
      unfold State.revertUnreverted
      split
      · exact ht.revert c (runs.snapshots c)
      · exact ht
    unfold State.endLane
    dsimp only
    rw [if_pos running]
    refine State.NamesIn.goIdle (one _ .L3 (one _ .L2 (one _ .L1 (h.setLane l ?_)))) l
    exact (h.lanes l).congr id id rfl rfl rfl rfl
  · rw [State.endLane_of_idle r s l (by simpa using running)]
    exact h

theorem State.NamesIn.endLanes {s : State} (h : s.NamesIn R) (r : EndReason) : (s.endLanes r).NamesIn R :=
  ((h.endLane r .lane0).endLane r .lane1).endLane r .lane2

theorem State.NamesIn.takeCause {s : State} (h : s.NamesIn R) (c : Cause) (p : Option Port) :
    (s.takeCause c p).NamesIn R := by
  unfold State.takeCause
  split
  · unfold State.enterTripped
    have entered : (s.setTrip { s.trip with
        state := .tripped, causes := CauseSet.empty.add c, first := ⟨c, p⟩
        outputs := PerChannel.all .parked }).NamesIn R := h.of_kept rfl rfl s.tickKept_refl
    have alerted : ∀ u : State, u.NamesIn R → (u.parkFrames.alertBoth .trip).NamesIn R := fun u hu =>
      hu.of_kept rfl rfl u.tickKept_refl
    exact alerted _ (entered.endLanes .tripped)
  · exact h.of_kept rfl rfl s.tickKept_refl

theorem State.NamesIn.takeSource {s : State} (h : s.NamesIn R) (c : Cause) (on : Bool) :
    (s.takeSource c on).NamesIn R := by
  have seen : (s.setTrip { s.trip with active := s.trip.active.put c on }).NamesIn R :=
    h.of_kept rfl rfl s.tickKept_refl
  unfold State.takeSource
  cases on with
  | true =>
    rw [if_pos rfl]
    split
    · exact h
    · exact seen.takeCause c none
  | false => exact seen

theorem State.NamesIn.takeLinks {s : State} (h : s.NamesIn R) (o : LinkOrder) : (s.takeLinks o).NamesIn R := by
  have one : ∀ (t : State) (k : Channel), t.NamesIn R → (t.takeLink k).NamesIn R := fun t k ht =>
    (ht.takeSource _ _).takeSource _ _
  exact one _ _ (one _ _ (one _ _ h))

/-! ### A step applied -/

/-- The tables that a channel names after a step of `R` are its own, or the step's. -/
theorem Chan.NamesIn.takeParts {y : Chan} (h : y.NamesIn R) {step : StepRecord} (hs : ∀ p ∈ step.shape, R p.table)
    (x : Lane) (c : Channel) : (y.takeParts step x c).NamesIn R := by
  refine ⟨?_, by rw [Chan.takeParts_staged]; exact h.2⟩
  rw [(y.takeParts_shape step x c).1]
  split_ifs
  · cases hp : step.shape with
    | none => exact h.1
    | some p => exact hs p hp
  · exact h.1

theorem Tick.namesIn_applyStep {t : Tick} (h : t.st.NamesIn R) (l : LaneId) {x : Lane} {q : Program}
    (runs : t.st.Runs R x q) (placed : x.Placed q) {step : StepRecord} (hs : ∀ p ∈ step.shape, R p.table) :
    (t.applyStep l x step).st.NamesIn R := by
  have kfields : t.st.tickKept (t.applyFields step x).st := by
    rw [Tick.applyFields_frame]
    exact State.tickKept_of_frame rfl
  have fields : (t.applyFields step x).st.NamesIn R := by
    refine ⟨fun c => ?_, fun m => ?_⟩
    · rw [Tick.applyFields_chan]
      exact (h.chans c).takeParts hs x c
    · have lanes : (t.applyFields step x).st.lanes = t.st.lanes := by rw [Tick.applyFields_frame]
      rw [lanes]
      exact (h.lanes m).kept kfields
  have markers : ∀ u : Tick, (u.applyMarkers step).st.chans = u.st.chans
      ∧ (u.applyMarkers step).st.lanes = u.st.lanes := by
    intro u
    unfold Tick.applyMarkers
    split <;> exact ⟨rfl, rfl⟩
  have capture : ∀ u : Tick, (u.applyCapture step l x).st = u.st := by
    intro u
    unfold Tick.applyCapture
    split <;> rfl
  have noted : ((t.applyFields step x).applyMarkers step |>.applyCapture step l x).st.NamesIn R := by
    rw [capture]
    exact fields.of_kept (markers _).1 (markers _).2 (kept_applyMarkers _ step)
  have kept := State.tickKept_trans (State.tickKept_trans kfields (kept_applyMarkers _ step))
    (kept_applyCapture _ step l x)
  exact noted.setLane l fun _ => ⟨q, (runs.kept kept).congr rfl runs.stack rfl, fun _ => placed⟩

theorem Tick.namesIn_align {t : Tick} (h : t.st.NamesIn R) (l : LaneId) {x : Lane} {q : Program}
    (runs : t.st.Runs R x q) (placed : x.Placed q) {step : StepRecord} (hs : ∀ p ∈ step.shape, R p.table) :
    (t.align l x step).st.NamesIn R := by
  unfold Tick.align
  split
  · exact Tick.namesIn_applyStep h l runs placed hs
  · exact h.setLane l fun _ => ⟨q, runs.congr rfl runs.stack rfl, fun _ => placed⟩

/-! ### The end of a step -/

theorem Tick.namesIn_enter {t : Tick} (h : t.st.NamesIn R) (l : LaneId) {x : Lane} {q : Program}
    (runs : t.st.Runs R x q) {pos : Nat} (hpos : pos < q.count) (push : Bool) : (t.enter l x pos push).st.NamesIn R := by
  unfold Tick.enter
  split
  · exact h
  · rename_i step at_
    have entered := runs.atStep hpos push step
    have placed : (x.atStep pos push step).Placed q := ⟨pos, rfl, hpos⟩
    dsimp only
    split
    · exact h.holdLane l _ _ fun _ => ⟨q, entered.congr rfl entered.stack rfl, fun _ => placed⟩
    · exact Tick.namesIn_align h l entered placed (runs.shape hpos at_)

theorem Tick.namesIn_complete {t : Tick} (h : t.st.NamesIn R) (l : LaneId) {x : Lane} {q : Program}
    (runs : t.st.Runs R x q) (placed : x.Placed q) (policy : ExitPolicy) : (t.complete l x policy).st.NamesIn R := by
  cases policy with
  | keep =>
    have ended := h.setLane l (x := { x with ending := x.ending.close .completed (x.position.getD 0) }) fun _ =>
      ⟨q, runs.congr rfl runs.stack rfl, fun _ => placed⟩
    exact ended.goIdle l
  | restore =>
    exact h.setLane l fun _ => ⟨q, runs.congr rfl (fun e he => absurd he List.not_mem_nil) rfl, fun open_ => absurd rfl open_⟩

/-- The group-close processing leaves openings that were on the stack, and loops back to one of them (R94). -/
theorem closeGroups_openings (n : Nat) (stack : List GroupEntry) (release : Bool) :
    (∀ e ∈ (closeGroups n stack release).2.1, ∃ d ∈ stack, d.opening = e.opening)
    ∧ ∀ k ∈ (closeGroups n stack release).1, ∃ d ∈ stack, d.opening = k := by
  induction n generalizing stack release with
  | zero =>
    rw [closeGroups_zero]
    exact ⟨fun e he => ⟨e, he, rfl⟩, fun k hk => by cases hk⟩
  | succ n ih =>
    cases stack with
    | nil => simp [closeGroups]
    | cons d stack =>
      have inner : ∀ b : Bool, (∀ e ∈ (closeGroups n stack b).2.1, ∃ d' ∈ d :: stack, d'.opening = e.opening)
          ∧ ∀ k ∈ (closeGroups n stack b).1, ∃ d' ∈ d :: stack, d'.opening = k := by
        intro b
        refine ⟨fun e he => ?_, fun k hk => ?_⟩
        · obtain ⟨d', hd, eq⟩ := (ih stack b).1 e he
          exact ⟨d', List.mem_cons_of_mem _ hd, eq⟩
        · obtain ⟨d', hd, eq⟩ := (ih stack b).2 k hk
          exact ⟨d', List.mem_cons_of_mem _ hd, eq⟩
      unfold closeGroups
      split_ifs
      · exact inner false
      · exact ⟨fun e he => ⟨e, he, rfl⟩, fun k hk => ⟨d, List.mem_cons_self, Option.some.inj hk⟩⟩
      · refine ⟨fun e he => ?_, fun k hk => ⟨d, List.mem_cons_self, Option.some.inj hk⟩⟩
        rcases List.mem_cons.1 he with rfl | he
        · exact ⟨d, List.mem_cons_self, rfl⟩
        · exact ⟨e, List.mem_cons_of_mem _ he, rfl⟩
      · exact inner release

theorem Tick.namesIn_finish {t : Tick} (h : t.st.NamesIn R) (l : LaneId) {x : Lane} {q : Program}
    (runs : t.st.Runs R x q) (placed : x.Placed q) (step : StepRecord) : (t.finish l x step).st.NamesIn R := by
  obtain ⟨stays, back⟩ := closeGroups_openings (step.groupClose.getD 0) x.stack.reverse x.releasePending
  unfold Tick.finish
  split
  · rename_i loop stack release pos q' closed position program
    obtain rfl : q = q' := Option.some.inj (runs.program.symm.trans program)
    rw [closed] at stays back
    have openings : ∀ d ∈ x.stack.reverse, d.opening < q.count := fun d hd => runs.stack d (List.mem_reverse.1 hd)
    have popped : t.st.Runs R { x with stack := stack.reverse, releasePending := release } q := by
      refine runs.congr rfl (fun e he => ?_) rfl
      obtain ⟨d, hd, eq⟩ := stays e (List.mem_reverse.1 he)
      exact eq ▸ openings d hd
    dsimp only
    split
    · rename_i opening
      obtain ⟨d, hd, eq⟩ := back opening rfl
      exact Tick.namesIn_enter h l popped (eq ▸ openings d hd) false
    · split
      · rename_i next
        exact Tick.namesIn_enter h l popped next true
      · exact Tick.namesIn_complete h l popped placed _
  · exact h

/-! ### A lane's work -/

theorem Tick.namesIn_dwellWork {t : Tick} (h : t.st.NamesIn R) (l : LaneId) {x : Lane} {q : Program}
    (runs : t.st.Runs R x q) (placed : x.Placed q) (step : StepRecord) : (t.dwellWork l x step).st.NamesIn R := by
  have set : ∀ y : Lane, y.program = x.program → y.stack = x.stack → y.snapshots = x.snapshots →
      y.position = x.position → (t.setLane l y).st.NamesIn R := fun y hp hk hs hpos =>
    h.setLane l fun _ => ⟨q, runs.congr hp (hk ▸ runs.stack) hs, fun _ => by rwa [Lane.Placed, hpos]⟩
  unfold Tick.dwellWork
  split
  · exact h
  · dsimp only
    split_ifs
    · exact h
    · unfold Tick.dwellDone
      dsimp only
      split
      · exact set _ rfl rfl rfl rfl
      · refine Tick.namesIn_finish (t := t.happens (.dwellEnd l)) (q := q) h l ?_ ?_ step
        · exact runs.congr rfl runs.stack rfl
        · exact placed
    · exact set _ rfl rfl rfl rfl

theorem Tick.namesIn_timeoutWork {t : Tick} (h : t.st.NamesIn R) (l : LaneId) {x : Lane} {q : Program}
    (runs : t.st.Runs R x q) (placed : x.Placed q) (step : StepRecord) (w : WaitPart) :
    (t.timeoutWork l x step w).st.NamesIn R := by
  have counted : ∀ n : Nat, t.st.Runs R { x with timeout := n } q := fun n => runs.congr rfl runs.stack rfl
  unfold Tick.timeoutWork
  dsimp only
  split_ifs
  · unfold Tick.timedOut
    dsimp only
    split
    · refine Tick.namesIn_finish (t := t.happens (.waitTimeout l)) (q := q) h l ?_ ?_ step
      · exact runs.congr rfl runs.stack rfl
      · exact placed
    · exact h.setLane l fun _ =>
        ⟨q, runs.congr rfl (fun e he => absurd he List.not_mem_nil) rfl, fun open_ => absurd rfl open_⟩
  · exact h.setLane l fun _ => ⟨q, counted _, fun _ => placed⟩
  · exact h.setLane l fun _ => ⟨q, runs, fun _ => placed⟩

theorem Tick.namesIn_waitWork {t : Tick} (h : t.st.NamesIn R) (l : LaneId) {x : Lane} {q : Program}
    (runs : t.st.Runs R x q) (placed : x.Placed q) (step : StepRecord) : (t.waitWork l x step).st.NamesIn R := by
  have counted : ∀ n : Nat, t.st.Runs R { x with consecutive := n } q := fun n => runs.congr rfl runs.stack rfl
  unfold Tick.waitWork
  split
  · exact h
  · dsimp only
    split_ifs
    · refine Tick.namesIn_finish (t := t.happens (.waitMet l)) h l (counted _) ?_ step
      exact placed
    · refine Tick.namesIn_timeoutWork h l (counted _) ?_ step _
      exact placed

theorem Tick.namesIn_closingWork {t : Tick} (h : t.st.NamesIn R) (l : LaneId) {x : Lane} {q : Program}
    (runs : t.st.Runs R x q) (hx : x.state = .closing) : (t.closingWork l x).st.NamesIn R := by
  have one : ∀ (s : State) (c : Channel), s.NamesIn R → t.st.tickKept s →
      (if t.revertsNow x c then s.revert x c else s).NamesIn R
      ∧ t.st.tickKept (if t.revertsNow x c then s.revert x c else s) := by
    intro s c hs k
    split
    · exact ⟨hs.revert c (runs.snapshots c), State.tickKept_trans k (kept_revert s x c)⟩
    · exact ⟨hs, k⟩
  obtain ⟨h1, k1⟩ := one _ .L1 h t.st.tickKept_refl
  obtain ⟨h2, k2⟩ := one _ .L2 h1 k1
  obtain ⟨h3, k3⟩ := one _ .L3 h2 k2
  have marked := fun b : ChannelSet => h3.setLane l (x := { x with reverted := b }) fun _ =>
    ⟨q, (runs.kept k3).congr rfl runs.stack rfl, fun open_ => absurd hx open_⟩
  unfold Tick.closingWork
  dsimp only [Tick.withState]
  split
  · exact (marked _).goIdle l
  · exact marked _

/-- A lane's work names no table that the lane does not name (R85). -/
theorem Tick.namesIn_laneWork {t : Tick} (h : t.st.NamesIn R) (l : LaneId) : (t.laneWork l).st.NamesIn R := by
  by_cases running : (t.st.lanes.get l).running = true
  · obtain ⟨q, runs, place⟩ := h.lanes l running
    unfold Tick.laneWork
    dsimp only
    split
    · rename_i hx current
      have placed := place (by rw [hx]; decide)
      obtain ⟨k, position, lt⟩ := placed
      rw [State.currentStep, position] at current
      exact Tick.namesIn_align h l runs ⟨k, position, lt⟩ (runs.shape lt current)
    · rename_i hx _
      exact Tick.namesIn_dwellWork h l runs (place (by rw [hx]; decide)) _
    · rename_i hx _
      exact Tick.namesIn_waitWork h l runs (place (by rw [hx]; decide)) _
    · rename_i hx
      exact Tick.namesIn_closingWork h l runs hx
    · exact h
  · rw [Lane.running_iff, not_not] at running
    rw [Tick.laneWork_of_idle t l running]
    exact h

/-! ### The channels' work -/

theorem Tick.namesIn_opening {t : Tick} (h : t.st.NamesIn R) (c : Channel) : (t.opening c).st.NamesIn R := by
  have spec := t.opening_spec c
  refine ⟨fun d => ?_, fun l => by rw [spec.lanes]; exact (h.lanes l).kept (kept_opening t c)⟩
  rw [spec.chans, PerChannel.get_set]
  split_ifs
  · obtain promoted | ⟨q, staged, promoted⟩ := Chan.promoted_cases
      { t.st.chans.get c with phase := (t.nextAdvance c).after + t.lateJump c } (t.nextAdvance c)
    · rw [promoted]
      exact h.chans c
    · rw [promoted]
      exact ⟨(h.chans c).2 q staged, fun _ none => by cases none⟩
  · exact h.chans d

theorem Tick.namesIn_ending {t : Tick} (h : t.st.NamesIn R) (c : Channel) : (t.ending c).st.NamesIn R := by
  have spec := t.ending_spec c
  obtain ⟨n, hn⟩ := spec.chans
  refine ⟨fun d => ?_, fun l => by rw [spec.lanes]; exact (h.lanes l).kept (kept_ending t c)⟩
  rw [hn, PerChannel.get_set]
  split_ifs
  · rw [Chan.rampsStepped_frame]
    exact h.chans c
  · exact h.chans d

theorem Tick.namesIn_work {t : Tick} (h : t.st.NamesIn R) (g : ChannelSet) : (t.work g).st.NamesIn R := by
  have opened : (t.openings g).st.NamesIn R :=
    Tick.forChannels_keeps (P := fun u => u.st.NamesIn R) (fun _ c _ hu => Tick.namesIn_opening hu c) h
  have worked := Tick.lanesIn_keeps (P := fun u => u.st.NamesIn R) (g := g)
    (fun _ l hu _ => Tick.namesIn_laneWork hu l) opened
  exact Tick.forChannels_keeps (P := fun u => u.st.NamesIn R) (fun _ c _ hu => Tick.namesIn_ending hu c) worked

/-! ### The whole sample event -/

/-- A capture-missed flag names nothing. -/
theorem State.LaneIn.of_butMissed {s : State} {x y : Lane} (h : s.LaneIn R x) (eq : y.butMissed = x.butMissed) :
    s.LaneIn R y := by
  have state := Lane.state_of_butMissed eq
  have program : y.butMissed.program = x.butMissed.program := by rw [eq]
  have snapshots : y.butMissed.snapshots = x.butMissed.snapshots := by rw [eq]
  have stack : y.butMissed.stack = x.butMissed.stack := by rw [eq]
  have position : y.butMissed.position = x.butMissed.position := by rw [eq]
  refine h.congr (fun running => ?_) (fun open_ => by rwa [← state]) program snapshots stack position
  rwa [Lane.running, ← state]

/-- A sample event makes no holder name a table outside `R`, and leaves every running lane in its program. -/
theorem tick_namesIn (o : TickOrder) {s : State} (h : s.NamesIn R) : (tick o s).st.NamesIn R := by
  have verdicts : (Tick.verdicts s).st.NamesIn R := by
    have kept := kept_verdicts s
    obtain ⟨e, he⟩ := Tick.verdicts_eq s
    rw [he] at kept ⊢
    exact h.of_kept rfl rfl kept
  have channels : (tickChannels o s).st.NamesIn R :=
    Tick.namesIn_work (State.NamesIn.takeLinks (Tick.namesIn_work verdicts _) _) _
  have kchannels : s.tickKept (tickChannels o s).st := State.tickKept_trans (kept_verdicts s) (kept_channelWork _ _ _)
  obtain ⟨-, -, -, ksteps, kprograms, -⟩ := kchannels
  obtain ⟨-, -, -, steps, programs, -⟩ := tick_kept o s
  have tail := tick_tail o s
  refine ⟨by rw [tail.chans]; exact channels.chans, fun l => ?_⟩
  exact ((channels.lanes l).of_butMissed (tail.lanes l)).of_eq (programs.trans kprograms.symm)
    (steps.trans ksteps.symm)

end

end Sys2Proof.Machine
end

section
/-! PROOF. The reset columns of the blocks other than the channels. -/

namespace Sys2Proof.Machine

theorem State.resetWith_port (low : Bool) (p : Port) : (State.resetWith low).ports.get p = PortRecord.reset p := by
  cases p <;> rfl

/-- Settles O4: each memory and store is empty, and each record is its reset record. -/
theorem resetGivesOtherBlocksValues : Obligations.ResetGivesOtherBlocksValues := by
  intro low s
  refine ⟨{ State.resetWith low with pending := s.pending }, rfl, rfl, fun n hn => ⟨?_, fun _ => ?_⟩,
    fun n => ⟨?_, rfl, rfl, rfl, rfl, rfl⟩, fun l => ?_, rfl, rfl, rfl, rfl, fun c => State.resetWith_sense low c, rfl,
    rfl, rfl, rfl, rfl, fun k => ?_, fun p => ?_⟩
  · exact if_neg hn.ne'
  · exact if_neg hn.ne'
  · exact ite_self []
  · rw [show State.lanes { State.resetWith low with pending := s.pending } = (State.resetWith low).lanes from rfl,
      State.resetWith_lane]
    exact ⟨rfl, rfl, rfl, rfl, rfl, rfl, rfl, rfl, rfl, rfl, rfl, rfl, fun c => PerChannel.get_all c _, rfl, rfl⟩
  · rw [show State.links { State.resetWith low with pending := s.pending } = (State.resetWith low).links from rfl,
      State.resetWith_link]
    exact ⟨rfl, rfl, rfl, rfl, rfl, rfl, rfl, rfl, rfl, rfl⟩
  · rw [show State.ports { State.resetWith low with pending := s.pending } = (State.resetWith low).ports from rfl,
      State.resetWith_port]
    exact ⟨rfl, rfl, rfl, rfl, by cases p <;> rfl, rfl, rfl, rfl⟩

end Sys2Proof.Machine
end

section
/-! PROOF. The soundness of the library (`State.LibrarySound`), which is `State.tablesReady` read holder by holder, and the
changes of the state that leave the library as it is (`State.LibraryStands`). -/

namespace Sys2Proof.Machine

/-! ### The soundness of the library -/

/-- Every table that a holder names lies in `R`, and every running lane has its program: `State.NamesIn`, read with the
references of R54. -/
theorem State.namesIn_iff {s : State} {R : Nat → Prop} (hw : Store.wf s.steps) : s.NamesIn R ↔
    (∀ l : LaneId, s.laneHasProgram (s.lanes.get l)) ∧ ∀ n : Nat, s.tableReferenced n = true → R n := by
  constructor
  · intro h
    refine ⟨fun l running => ?_, fun n named => ?_⟩
    · obtain ⟨q, runs, placed⟩ := h.lanes l running
      exact ⟨q, runs.program, placed, runs.stack⟩
    · obtain ⟨c, rfl⟩ | ⟨c, p, staged, rfl⟩ | ⟨l, busy, holds⟩ := (s.named_iff _ _ n).1 named
      · exact (h.chans c).1
      · exact (h.chans c).2 p staged
      · obtain ⟨q, runs, -⟩ := h.lanes l ((Lane.running_iff _).2 busy)
        obtain ⟨q', k, step, p, program, first, last, mem, shape, rfl⟩ | ⟨c, p, snapshot, rfl⟩ := holds
        · obtain rfl : q = q' := Option.some.inj (runs.program.symm.trans program)
          obtain ⟨i, rfl⟩ := Nat.exists_eq_add_of_le first
          exact runs.steps i (Nat.lt_of_add_lt_add_left last) step (Store.get_of_mem hw mem) p shape
        · exact runs.snapshots c p snapshot
  · rintro ⟨lanes, names⟩
    refine ⟨fun c => ⟨names _ ?_, fun p staged => names _ ?_⟩, fun l running => ?_⟩
    · exact (s.named_iff _ _ _).2 (.inl ⟨c, rfl⟩)
    · exact (s.named_iff _ _ _).2 (.inr (.inl ⟨c, p, staged, rfl⟩))
    · obtain ⟨q, program, placed, stack⟩ := lanes l running
      have held := fun n holds => names n ((s.named_iff _ _ n).2 (.inr (.inr ⟨l, (Lane.running_iff _).1 running, holds⟩)))
      exact ⟨q, ⟨program, stack,
        fun k hk step at_ p shape => held _ (.inl ⟨q, q.first + k, step, p, program, Nat.le_add_right _ _,
          Nat.add_lt_add_left hk _, Store.mem_of_get at_, shape, rfl⟩),
        fun c p snapshot => held _ (.inr ⟨c, p, snapshot, rfl⟩)⟩, placed⟩

/-- Table `n` is READY. -/
def State.Ready (s : State) (n : Nat) : Prop := s.tableState n = .ready

/-- The soundness of the library, holder by holder (`State.tablesReady_iff`). -/
structure State.LibrarySound (s : State) : Prop where
  steps : Store.wf s.steps
  coverages : ∀ (n : Nat) (p : Port) (cov : List Nat), Store.get s.tables n = some (.loading p cov) → coverageSound cov
  counts : ∀ n : Nat, ∀ q ∈ Store.get s.programs n, 1 ≤ q.count
  names : s.NamesIn s.Ready

theorem State.tablesReady_iff (s : State) : s.tablesReady ↔ s.LibrarySound := by
  constructor
  · rintro ⟨steps, coverages, counts, lanes, ready⟩
    exact ⟨steps, coverages, counts, (State.namesIn_iff steps).2 ⟨lanes, ready⟩⟩
  · rintro ⟨steps, coverages, counts, names⟩
    obtain ⟨lanes, ready⟩ := (State.namesIn_iff steps).1 names
    exact ⟨steps, coverages, counts, lanes, ready⟩

section
variable {s t : State}

/-- A referenced table is READY (R56). -/
theorem State.LibrarySound.ready_of_referenced (h : s.LibrarySound) {n : Nat} (named : s.tableReferenced n = true) :
    s.tableState n = .ready := ((State.namesIn_iff h.steps).1 h.names).2 n named

/-! ### The library at rest -/

/-- The descriptors, the completion records and the capture memory are in their canonical form. -/
def State.CaptureCanonical (s : State) : Prop := Store.wf s.descs ∧ s.RecordsCanonical

/-- The tables, overlay sets, steps and programs stand, the holders of a sound library go on naming READY tables, and the
capture side keeps its canonical form. -/
structure State.LibraryStands (s t : State) : Prop where
  tables : t.tables = s.tables
  wave : t.wave = s.wave
  overlays : t.overlays = s.overlays
  steps : t.steps = s.steps
  programs : t.programs = s.programs
  names : s.LibrarySound → t.NamesIn s.Ready
  captured : s.CaptureCanonical → t.CaptureCanonical

theorem State.ready_eq (h : t.tables = s.tables) : t.Ready = s.Ready := by
  funext n
  rw [State.Ready, State.Ready, State.tableState, State.tableState, h]

theorem State.LibraryStands.sound (k : s.LibraryStands t) (h : s.LibrarySound) : t.LibrarySound :=
  ⟨k.steps ▸ h.steps, k.tables ▸ h.coverages, k.programs ▸ h.counts, State.ready_eq k.tables ▸ k.names h⟩

theorem State.LibraryStands.canonical (k : s.LibraryStands t) (h : s.canonical) : t.canonical := by
  obtain ⟨mem, wave, tables, overlays, steps, programs, descs, comps⟩ := h
  obtain ⟨descs', mem', comps'⟩ := k.captured ⟨descs, mem, comps⟩
  rw [← k.wave] at wave
  rw [← k.tables] at tables
  rw [← k.overlays] at overlays
  rw [← k.steps] at steps
  rw [← k.programs] at programs
  exact ⟨mem', wave, tables, overlays, steps, programs, descs', comps'⟩

theorem State.LibraryStands.entry (k : s.LibraryStands t) (n i : Nat) : t.entry n i = s.entry n i := by
  rw [State.entry, State.entry, k.wave]

theorem State.LibraryStands.terms (k : s.LibraryStands t) (n : Nat) : t.terms n = s.terms n := by
  rw [State.terms, State.terms, k.overlays]

theorem State.LibraryStands.trans {u : State} (h : s.LibraryStands t) (k : t.LibraryStands u) : s.LibraryStands u :=
  ⟨k.tables.trans h.tables, k.wave.trans h.wave, k.overlays.trans h.overlays, k.steps.trans h.steps,
    k.programs.trans h.programs, fun sound => State.ready_eq h.tables ▸ k.names (h.sound sound),
    fun captured => k.captured (h.captured captured)⟩

/-- A change of neither the library nor the capture side. -/
theorem State.LibraryStands.of_kept (k : s.tickKept t) (records : s.RecordsStand t)
    (names : s.LibrarySound → t.NamesIn s.Ready) : s.LibraryStands t := by
  obtain ⟨tables, wave, overlays, steps, programs, descs, -⟩ := k
  refine ⟨tables, wave, overlays, steps, programs, names, fun ⟨hd, hr⟩ => ⟨?_, hr.stand records⟩⟩
  rwa [descs]

/-- A change of neither a channel, nor a lane, nor the library, nor the capture side. -/
theorem State.LibraryStands.of_frame (h : t = { s with
    pending := t.pending, key1 := t.key1, key2 := t.key2, marker1 := t.marker1, marker2 := t.marker2, sense := t.sense
    engine := t.engine, trip := t.trip, links := t.links, ports := t.ports }) : s.LibraryStands t := by
  rw [h]
  exact ⟨rfl, rfl, rfl, rfl, rfl, fun sound => sound.names.of_eq rfl rfl rfl rfl, id⟩

theorem State.LibraryStands.refl (s : State) : s.LibraryStands s := .of_frame rfl

/-- A response changes a port record alone. -/
theorem State.stands_answer (s : State) (p : Port) (code : Nat) (r : Reply) :
    s.LibraryStands (State.answer p code (s, r)) := .of_frame rfl

theorem State.stands_setLane (s : State) (l : LaneId) {x : Lane} (hx : s.LibrarySound → s.LaneIn s.Ready x) :
    s.LibraryStands (s.setLane l x) :=
  .of_kept s.tickKept_refl ⟨rfl, rfl⟩ fun sound => sound.names.setLane l (hx sound)

theorem State.stands_setChan (s : State) (c : Channel) {x : Chan} (hx : s.LibrarySound → x.NamesIn s.Ready) :
    s.LibraryStands (s.setChan c x) :=
  .of_kept s.tickKept_refl ⟨rfl, rfl⟩ fun sound => sound.names.setChan c (hx sound)

theorem State.stands_alertOrigin (s : State) (o : Option Port) (a : Alert) : s.LibraryStands (s.alertOrigin o a) := by
  rw [State.alertOrigin_frame]
  exact .of_frame rfl

theorem State.stands_holdLane (s : State) (l : LaneId) {x : Lane} (r : HoldReason) (f : HeldFrom)
    (hx : s.LibrarySound → s.LaneIn s.Ready (x.toHeld r f)) : s.LibraryStands (s.holdLane l x r f) :=
  (s.stands_setLane l hx).trans (State.stands_alertOrigin _ _ _)

theorem State.stands_takeSource (s : State) (c : Cause) (on : Bool) : s.LibraryStands (s.takeSource c on) := by
  refine .of_kept (kept_takeSource s c on) ?_ fun sound => sound.names.takeSource c on
  rw [State.takeSource_frame]
  exact ⟨rfl, rfl⟩

theorem State.stands_takeCause (s : State) (c : Cause) (p : Option Port) : s.LibraryStands (s.takeCause c p) := by
  have names : s.LibrarySound → (s.takeCause c p).NamesIn s.Ready := fun sound => sound.names.takeCause c p
  rw [State.takeCause_frame] at names ⊢
  exact .of_kept s.tickKept_refl ⟨rfl, rfl⟩ names

theorem State.stands_endLanes (s : State) (r : EndReason) : s.LibraryStands (s.endLanes r) := by
  have names : s.LibrarySound → (s.endLanes r).NamesIn s.Ready := fun sound => sound.names.endLanes r
  rw [State.endLanes_frame] at names ⊢
  exact .of_kept s.tickKept_refl ⟨rfl, rfl⟩ names

/-- A run that is stopped leaves its completion record (R138). -/
theorem State.stands_stopRun (s : State) (d : Nat) : s.LibraryStands (s.stopRun d) := by
  rw [State.stopRun_eq]
  exact ⟨rfl, rfl, rfl, rfl, rfl, fun sound => sound.names.of_eq rfl rfl rfl rfl,
    fun ⟨hd, mem, comps⟩ => ⟨hd, mem, Store.wf_put d _ comps⟩⟩

theorem State.stands_stopAny (s : State) : s.LibraryStands s.stopAny := by
  unfold State.stopAny
  split
  · exact s.stands_stopRun _
  · exact .refl s

/-- A sample event changes no table, overlay set, step or program, and the capture engine writes canonically. -/
theorem State.stands_tick (o : TickOrder) (s : State) : s.LibraryStands (tick o s).st := by
  obtain ⟨tables, wave, overlays, steps, programs, descs, -⟩ := tick_kept o s
  refine ⟨tables, wave, overlays, steps, programs, fun sound => tick_namesIn o sound.names, fun ⟨hd, hr⟩ => ⟨?_, ?_⟩⟩
  · rwa [descs]
  · exact tick_recordsCanonical o hr

end

end Sys2Proof.Machine
end

section
/-! PROOF. What a command can do to the library (`State.LibraryEffect`): let it stand, or write one table, chunk, overlay
set, step or program that its protection leaves free (R54, R56); and what every such effect keeps. -/

namespace Sys2Proof.Machine

/-! ### Writes of the library -/

section
variable {s t : State} {R : Nat → Prop}

/-- A step outside every running lane's range may change (R62, R65). -/
theorem State.NamesIn.of_steps (h : s.NamesIn R) {n : Nat} (free : anyLane (s.rangeHolders n) = false)
    {m : Store StepRecord} (stand : ∀ k : Nat, k ≠ n → Store.get m k = Store.get s.steps k) :
    State.NamesIn { s with steps := m } R := by
  refine ⟨h.chans, fun l running => ?_⟩
  obtain ⟨q, runs, placed⟩ := h.lanes l running
  have outside : ∀ k : Nat, k < q.count → q.first + k ≠ n := by
    rintro k hk rfl
    have inside : s.inRange (s.lanes.get l) (q.first + k) = true :=
      (s.inRange_iff _ _).2 ⟨running, q, runs.program, Nat.le_add_right _ _, Nat.add_lt_add_left hk _⟩
    have held : anyLane (s.rangeHolders (q.first + k)) = true :=
      (anyLane_iff _).2 ⟨l, (PerLane.get_mk_map s.lanes (s.inRange · (q.first + k)) l).trans inside⟩
    exact Bool.false_ne_true (free.symm.trans held)
  exact ⟨q, ⟨runs.program, runs.stack, fun k hk step at_ => runs.steps k hk step (stand _ (outside k hk) ▸ at_),
    runs.snapshots⟩, placed⟩

/-- A program that no lane runs may change (R69). -/
theorem State.NamesIn.of_programs (h : s.NamesIn R) {n : Nat} (free : anyLane (s.runners n) = false)
    {m : Store Program} (stand : ∀ k : Nat, k ≠ n → Store.get m k = Store.get s.programs k) :
    State.NamesIn { s with programs := m } R := by
  refine ⟨h.chans, fun l running => ?_⟩
  obtain ⟨q, runs, placed⟩ := h.lanes l running
  obtain ⟨k, program, at_⟩ := Option.bind_eq_some_iff.1 runs.program
  have other : k ≠ n := by
    rintro rfl
    have runner : ((s.lanes.get l).running && decide ((s.lanes.get l).program = some k)) = true := by
      rw [running, program, decide_eq_true rfl]
      rfl
    have held : anyLane (s.runners k) = true := (anyLane_iff _).2
      ⟨l, (PerLane.get_mk_map s.lanes (fun x => x.running && decide (x.program = some k)) l).trans runner⟩
    exact Bool.false_ne_true (free.symm.trans held)
  have program' : State.programOf { s with programs := m } (s.lanes.get l) = some q :=
    Option.bind_eq_some_iff.2 ⟨k, program, (stand k other).trans at_⟩
  exact ⟨q, ⟨program', runs.stack, runs.steps, runs.snapshots⟩, placed⟩

/-- The tables may change as long as each referenced one stays READY. -/
theorem State.LibrarySound.of_tables (h : s.LibrarySound) (m : Store TableState) (w : Memory)
    (coverages : ∀ (n : Nat) (p : Port) (cov : List Nat), Store.get m n = some (.loading p cov) → coverageSound cov)
    (ready : ∀ n : Nat, s.tableReferenced n = true → State.Ready { s with tables := m, wave := w } n) :
    State.LibrarySound { s with tables := m, wave := w } := by
  have names : s.NamesIn (State.Ready { s with tables := m, wave := w }) :=
    (State.namesIn_iff h.steps).2 ⟨((State.namesIn_iff h.steps).1 h.names).1, ready⟩
  exact ⟨h.steps, coverages, h.counts, names.of_eq rfl rfl rfl rfl⟩

/-- A table that is READY afterwards or that nothing names may be written (R45 to R48). -/
theorem State.LibrarySound.setTable (h : s.LibrarySound) {n : Nat} (x : TableState) (w : Memory)
    (sound : ∀ (p : Port) (cov : List Nat), x = .loading p cov → coverageSound cov)
    (free : x = .ready ∨ s.tableReferenced n = false) :
    State.LibrarySound { s with tables := (s.setTable n x).tables, wave := w } := by
  refine h.of_tables _ w (fun k p cov hk => ?_) fun k named => ?_
  · by_cases other : k = n
    · subst other
      by_cases empty : x = .empty
      · rw [empty, State.get_setTable_empty] at hk
        cases hk
      · rw [State.get_setTable_self _ _ empty] at hk
        exact sound p cov (Option.some.inj hk)
    · rw [State.get_setTable_ne _ _ other] at hk
      exact h.coverages k p cov hk
  · have before := h.ready_of_referenced named
    rw [State.Ready, State.tableState]
    rw [State.tableState] at before
    split_ifs at before ⊢ with zero
    · rfl
    · by_cases other : k = n
      · subst other
        obtain rfl | unnamed := free
        · rw [State.get_setTable_self _ _ (by simp)]
          rfl
        · exact absurd (unnamed.symm.trans named) Bool.false_ne_true
      · rw [State.get_setTable_ne _ _ other]
        exact before

/-- The coverage of a LOADING table of a sound library. -/
theorem State.LibrarySound.coverage (h : s.LibrarySound) {n : Nat} {p : Port} {cov : List Nat}
    (loading : s.tableState n = .loading p cov) : coverageSound cov := by
  rw [State.tableState] at loading
  split_ifs at loading
  refine h.coverages n p cov ?_
  cases get : Store.get s.tables n with
  | none => rw [get] at loading; cases loading
  | some x => rw [get] at loading; exact congrArg some loading

/-- The record of a READY table is not dropped with the LOADING ones. -/
theorem Store.get_filter_of_get {α : Type} {f : Nat × α → Bool} {m : Store α} {k : Nat} {v : α}
    (h : Store.get m k = some v) (keep : f (k, v) = true) : Store.get (m.filter f) k = some v := by
  induction m with
  | nil => cases h
  | cons e m ih =>
    obtain ⟨i, w⟩ := e
    unfold Store.get at h
    split_ifs at h with first
    · obtain rfl := Option.some.inj h
      subst first
      rw [List.filter_cons_of_pos keep]
      exact if_pos rfl
    · by_cases kept : f (i, w) = true
      · rw [List.filter_cons_of_pos kept]
        exact (if_neg first).trans (ih h)
      · rw [List.filter_cons_of_neg kept]
        exact ih h

theorem State.LibrarySound.emptyLoading (h : s.LibrarySound) : s.emptyLoading.LibrarySound := by
  refine h.of_tables _ s.wave (fun k p cov hk => ?_) fun k named => ?_
  · have kept := (List.mem_filter.1 (Store.mem_of_get hk)).2
    cases kept
  · have before := h.ready_of_referenced named
    rw [State.Ready, State.tableState]
    rw [State.tableState] at before
    split_ifs at before ⊢
    · rfl
    · cases get : Store.get s.tables k with
      | none => rw [get] at before; cases before
      | some x =>
        obtain rfl : x = .ready := by rwa [get] at before
        rw [Store.get_filter_of_get get rfl]
        rfl

end

theorem Store.wf_setTable (s : State) (n : Nat) (x : TableState) (h : Store.wf s.tables) :
    Store.wf (s.setTable n x).tables := by
  rw [State.tables_setTable]
  split_ifs
  · exact Store.wf_del n h
  · exact Store.wf_put n x h

/-! ### The effects -/

/-- What a command other than a reset can do to the library, up to what lets it stand. `full` says that a chunk written
has its 32 entries. -/
inductive State.LibraryEffect (full : Prop) (s : State) : State → Prop
  /-- Nothing. -/
  | stands {t : State} : s.LibraryStands t → State.LibraryEffect full s t
  /-- BEGIN_TABLE, COMMIT_TABLE and DISCARD_TABLE (R45, R47, R48). -/
  | table {t : State} (n : Nat) (x : TableState) :
      (∀ (p : Port) (cov : List Nat), x = .loading p cov → coverageSound cov) →
      (x = .ready ∨ s.tableReferenced n = false) → (s.setTable n x).LibraryStands t → State.LibraryEffect full s t
  /-- WRITE_TABLE_CHUNK (R46). -/
  | chunk {t : State} (p : Port) (n c : Nat) (cov : List Nat) (entries : List Int) : c ≤ 31 →
      (full → entries.length = 32) → s.tableState n = .loading p cov →
      State.LibraryStands { s with
        tables := (s.setTable n (.loading p (coverChunk cov c))).tables
        wave := Memory.writeList s.wave (chunkBase n c) entries } t → State.LibraryEffect full s t
  /-- MASTER_CLEAR (R58). -/
  | emptied {u t : State} : s.LibraryStands u → u.emptyLoading.LibraryStands t → State.LibraryEffect full s t
  /-- WRITE_OVERLAY_SET (R52). -/
  | overlay {t : State} (n : Nat) (terms : List Term) : s.overlayReferenced n = false →
      State.LibraryStands { s with overlays := Store.put s.overlays n terms } t → State.LibraryEffect full s t
  /-- WRITE_STEP and CLEAR_STEP (R62, R65). -/
  | step {t : State} (n : Nat) (m : Store StepRecord) : anyLane (s.rangeHolders n) = false →
      (Store.wf s.steps → Store.wf m) → (∀ k : Nat, k ≠ n → Store.get m k = Store.get s.steps k) →
      State.LibraryStands { s with steps := m } t → State.LibraryEffect full s t
  /-- WRITE_PROGRAM (R69). -/
  | program {t : State} (n : Nat) (m : Store Program) : anyLane (s.runners n) = false →
      (Store.wf s.programs → Store.wf m) → (∀ k : Nat, k ≠ n → Store.get m k = Store.get s.programs k) →
      (∀ q ∈ Store.get m n, 1 ≤ q.count) → State.LibraryStands { s with programs := m } t →
      State.LibraryEffect full s t

section
variable {full : Prop} {s t : State}

theorem State.LibraryEffect.mono {full' : Prop} (h : s.LibraryEffect full t) (imp : full' → full) :
    s.LibraryEffect full' t := by
  cases h with
  | stands k => exact .stands k
  | table n x sound free k => exact .table n x sound free k
  | chunk p n c cov entries hc length loading k => exact .chunk p n c cov entries hc (length ∘ imp) loading k
  | emptied k k' => exact .emptied k k'
  | overlay n terms free k => exact .overlay n terms free k
  | step n m free wf stand k => exact .step n m free wf stand k
  | program n m free wf stand count k => exact .program n m free wf stand count k

theorem State.LibraryEffect.andStands {u : State} (h : s.LibraryEffect full t) (k : t.LibraryStands u) :
    s.LibraryEffect full u := by
  cases h with
  | stands j => exact .stands (j.trans k)
  | table n x sound free j => exact .table n x sound free (j.trans k)
  | chunk p n c cov entries hc length loading j => exact .chunk p n c cov entries hc length loading (j.trans k)
  | emptied j j' => exact .emptied j (j'.trans k)
  | overlay n terms free j => exact .overlay n terms free (j.trans k)
  | step n m free wf stand j => exact .step n m free wf stand (j.trans k)
  | program n m free wf stand count j => exact .program n m free wf stand count (j.trans k)

/-- A response leaves the effect of its command. -/
theorem State.LibraryEffect.answer {v : State × Reply} {p : Port} {code : Nat} (h : s.LibraryEffect full v.1) :
    s.LibraryEffect full (State.answer p code v) := h.andStands (v.1.stands_answer p code v.2)

theorem State.LibraryEffect.refl (s : State) : s.LibraryEffect full s := .stands (.refl s)

/-- Every effect keeps the canonical forms. -/
theorem State.LibraryEffect.canonical (h : s.LibraryEffect full t) (hs : s.canonical) : t.canonical := by
  obtain ⟨mem, wave, tables, overlays, steps, programs, captured⟩ := hs
  cases h with
  | stands k => exact k.canonical ⟨mem, wave, tables, overlays, steps, programs, captured⟩
  | table n x _ _ k =>
    exact k.canonical ⟨mem, wave, Store.wf_setTable s n x tables, overlays, steps, programs, captured⟩
  | chunk p n c cov entries _ _ _ k =>
    exact k.canonical ⟨mem, Memory.wf_writeList _ _ wave, Store.wf_setTable s n (.loading p (coverChunk cov c)) tables,
      overlays, steps, programs, captured⟩
  | emptied k k' =>
    obtain ⟨mem, wave, tables, rest⟩ := k.canonical ⟨mem, wave, tables, overlays, steps, programs, captured⟩
    exact k'.canonical ⟨mem, wave, Store.wf_filter _ tables, rest⟩
  | overlay n terms _ k =>
    exact k.canonical ⟨mem, wave, tables, Store.wf_put n terms overlays, steps, programs, captured⟩
  | step n m _ wf _ k => exact k.canonical ⟨mem, wave, tables, overlays, wf steps, programs, captured⟩
  | program n m _ wf _ _ k => exact k.canonical ⟨mem, wave, tables, overlays, steps, wf programs, captured⟩

/-- A LOADING table of a sound library is not referenced (R56). -/
theorem State.LibrarySound.unreferenced_of_loading (h : s.LibrarySound) {n : Nat} {p : Port} {cov : List Nat}
    (loading : s.tableState n = .loading p cov) : s.tableReferenced n = false := by
  rw [← Bool.not_eq_true]
  intro named
  have ready := h.ready_of_referenced named
  rw [loading] at ready
  cases ready

/-- Every effect keeps the library sound. -/
theorem State.LibraryEffect.sound (h : s.LibraryEffect full t) (hs : s.LibrarySound) : t.LibrarySound := by
  cases h with
  | stands k => exact k.sound hs
  | table n x sound free k => exact k.sound (hs.setTable x s.wave sound free)
  | chunk p n c cov entries hc _ loading k =>
    refine k.sound (hs.setTable _ _ ?_ (.inr (hs.unreferenced_of_loading loading)))
    rintro _ _ ⟨⟩
    exact coverageSound_coverChunk (hs.coverage loading) (Nat.lt_succ_of_le hc)
  | emptied k k' => exact k'.sound (k.sound hs).emptyLoading
  | overlay n terms _ k =>
    have names := hs.names.of_eq (t := { s with overlays := Store.put s.overlays n terms }) rfl rfl rfl rfl
    exact k.sound ⟨hs.steps, hs.coverages, hs.counts, names⟩
  | step n m free wf stand k =>
    exact k.sound ⟨wf hs.steps, hs.coverages, hs.counts, hs.names.of_steps free stand⟩
  | program n m free _ stand count k =>
    refine k.sound ⟨hs.steps, hs.coverages, fun i q hq => ?_, hs.names.of_programs free stand⟩
    by_cases other : i = n
    · subst other
      exact count q hq
    · exact hs.counts i q (stand i other ▸ hq)

/-- The chunk written lies outside every other table. -/
theorem Memory.read_writeChunk_of_ne (w : Memory) {n m c i : Nat} {entries : List Int} (length : entries.length = 32)
    (hc : c ≤ 31) (hi : i < 1024) (other : m ≠ n) :
    Memory.read (Memory.writeList w (chunkBase n c) entries) (1024 * m + i) = Memory.read w (1024 * m + i) := by
  refine Memory.read_writeList_outside _ _ ?_
  rw [length, chunkBase]
  omega

/-- No effect changes an entry of a referenced table (R56). -/
theorem State.LibraryEffect.entry (h : s.LibraryEffect full t) (complete : full) (hs : s.LibrarySound) {n i : Nat}
    (named : s.tableReferenced n = true) (hi : i < 1024) : t.entry n i = s.entry n i := by
  cases h with
  | stands k => exact k.entry n i
  | table m x _ _ k => exact k.entry n i
  | chunk p m c cov entries hc length loading k =>
    have other : n ≠ m := by
      rintro rfl
      exact Bool.false_ne_true ((hs.unreferenced_of_loading loading).symm.trans named)
    rw [k.entry, State.entry, State.entry, Memory.read_writeChunk_of_ne _ (length complete) hc hi other]
  | emptied k k' => exact (k'.entry n i).trans (k.entry n i)
  | overlay m terms _ k => exact k.entry n i
  | step m _ _ _ _ k => exact k.entry n i
  | program m _ _ _ _ _ k => exact k.entry n i

/-- No effect changes a term of a referenced overlay set (R54). -/
theorem State.LibraryEffect.terms (h : s.LibraryEffect full t) {n : Nat} (named : s.overlayReferenced n = true) :
    t.terms n = s.terms n := by
  cases h with
  | stands k => exact k.terms n
  | table m x _ _ k => exact k.terms n
  | chunk p m c cov entries _ _ _ k => exact k.terms n
  | emptied k k' => exact (k'.terms n).trans (k.terms n)
  | overlay m terms free k =>
    have other : n ≠ m := by
      rintro rfl
      exact Bool.false_ne_true (free.symm.trans named)
    rw [k.terms, State.terms, State.terms, Store.get_put_ne _ _ other]
  | step m _ _ _ _ k => exact k.terms n
  | program m _ _ _ _ _ k => exact k.terms n

end

end Sys2Proof.Machine
end

section
/-! PROOF. The effect of each command on the library (`exec_libraryEffect`), and from it the two invariants of every step:
the canonical forms of the memories and stores, and the READY tables of the references. -/

namespace Sys2Proof.Machine

section
variable {full : Prop}

/-! ### Chapter 3: tables and overlay sets -/

theorem beginTable_libraryEffect (s : State) (p : Port) (n : Nat) : s.LibraryEffect full (s.beginTable p n).1 := by
  unfold State.beginTable
  split_ifs with _ _ named
  · exact .refl s
  · exact .refl s
  · exact .refl s
  · refine .table n (.loading p []) ?_ (.inr (by simpa using named)) (.refl _)
    rintro _ _ ⟨⟩
    exact ⟨.nil, fun _ h => absurd h List.not_mem_nil⟩

theorem writeTableChunk_libraryEffect (s : State) (p : Port) (n c : Nat) (entries : List Int) :
    s.LibraryEffect (entries.length = 32) (s.writeTableChunk p n c entries).1 := by
  unfold State.writeTableChunk
  split
  · exact .refl s
  · rename_i operands
    have hc : c ≤ 31 := by
      rw [Bool.not_eq_true', Bool.not_eq_false, Bool.and_eq_true, decide_eq_true_eq] at operands
      exact operands.2
    split
    · exact .refl s
    · exact .refl s
    · rename_i q cov loading
      split
      · exact .refl s
      · rename_i owner
        obtain rfl : q = p := not_not.1 owner
        exact .chunk q n c cov (entries.map storedEntry) hc (fun h => (List.length_map _).trans h) loading (.refl _)

theorem commitTable_libraryEffect (s : State) (p : Port) (n : Nat) : s.LibraryEffect full (s.commitTable p n).1 := by
  unfold State.commitTable
  split
  · exact .refl s
  · split
    · exact .refl s
    · exact .refl s
    · split_ifs
      · exact .refl s
      · exact .refl s
      · exact .table n .ready (fun _ _ h => by cases h) (.inl rfl) (.refl _)

theorem discardTable_libraryEffect (s : State) (n : Nat) : s.LibraryEffect full (s.discardTable n).1 := by
  unfold State.discardTable
  split_ifs with _ named
  · exact .refl s
  · exact .refl s
  · exact .table n .empty (fun _ _ h => by cases h) (.inr (by simpa using named)) (.refl _)

theorem writeOverlaySet_libraryEffect (s : State) (n count : Nat) (slots : List OverlaySlot) :
    s.LibraryEffect full (s.writeOverlaySet n count slots).1 := by
  unfold State.writeOverlaySet
  split_ifs with _ named
  · exact .refl s
  · exact .refl s
  · exact .overlay n _ (by simpa using named) (.refl _)

/-! ### Chapter 4: steps and programs -/

theorem writeStep_libraryEffect (s : State) (n : Nat) (r : RawStep) : s.LibraryEffect full (s.writeStep n r).1 := by
  unfold State.writeStep
  split
  · exact .refl s
  · rename_i x _
    split_ifs with _ held
    · exact .refl s
    · exact .step n (Store.put s.steps n x) (by simpa using held) (Store.wf_put n x)
        (fun k hk => Store.get_put_ne _ _ hk) (.refl _)
    · exact .refl s

theorem clearStep_libraryEffect (s : State) (n : Nat) : s.LibraryEffect full (s.clearStep n).1 := by
  unfold State.clearStep
  split_ifs with _ held
  · exact .refl s
  · exact .step n (Store.del s.steps n) (by simpa using held) (Store.wf_del n) (fun k hk => Store.get_del_ne _ hk)
      (.refl _)
  · exact .refl s

theorem count_pos_of_programFrom {first count policy : Nat} {q : Program} (h : programFrom first count policy = some q) :
    1 ≤ q.count := by
  unfold programFrom at h
  split at h
  · split_ifs at h with fields
    obtain rfl := Option.some.inj h
    exact fields.2.1
  · cases h

theorem defineProgram_libraryEffect (s : State) (n first count policy : Nat) :
    s.LibraryEffect full (s.defineProgram n first count policy).1 := by
  unfold State.defineProgram
  split
  · exact .refl s
  · rename_i q fields
    split_ifs with _ held
    · exact .refl s
    · refine .program n (Store.put s.programs n q) (by simpa using held) (Store.wf_put n q)
        (fun k hk => Store.get_put_ne _ _ hk) (fun q' hq => ?_) (.refl _)
      rw [Store.get_put_self] at hq
      obtain rfl := Option.some.inj hq
      exact count_pos_of_programFrom fields
    · exact .refl s

theorem undefineProgram_libraryEffect (s : State) (n : Nat) : s.LibraryEffect full (s.undefineProgram n).1 := by
  unfold State.undefineProgram
  split_ifs with _ held
  · exact .refl s
  · refine .program n (Store.del s.programs n) (by simpa using held) (Store.wf_del n)
      (fun k hk => Store.get_del_ne _ hk) (fun q hq => ?_) (.refl _)
    rw [Store.get_del_self] at hq
    cases hq
  · exact .refl s

/-! ### Chapter 2: channels -/

/-- SET_CHANNEL makes a channel name a READY table (R35). -/
theorem stands_setChannel (s : State) (ch : Nat) (r : RawParams) : s.LibraryStands (s.setChannel ch r).1 := by
  unfold State.setChannel
  split
  · exact .refl s
  · rename_i c _
    split_ifs with _ _ unready
    · exact .refl s
    · exact .refl s
    · have ready : s.Ready r.table := not_not.1 unready
      unfold State.writeSet
      dsimp only
      split
      · exact s.stands_setChan c fun _ => ⟨ready, fun _ none => by cases none⟩
      · refine s.stands_setChan c fun sound => ⟨(sound.names.chans c).1, ?_⟩
        rintro _ ⟨⟩
        exact ready
    · exact .refl s

theorem stands_getChannel (s : State) (ch clear : Nat) : s.LibraryStands (s.getChannel ch clear).1 := by
  unfold State.getChannel
  split
  · dsimp only
    split
    · exact s.stands_setChan _ fun sound => sound.names.chans _
    · exact .refl s
  · exact .refl s

/-- LINK_CHANNEL leaves the tables that a channel names. -/
theorem stands_relink (s : State) (ch : Nat) {change : Chan → Chan}
    (active : ∀ x : Chan, (change x).active.table = x.active.table) (staged : ∀ x : Chan, (change x).staged = x.staged) :
    s.LibraryStands (s.relink ch change).1 := by
  obtain h | ⟨c, -, h⟩ := relink_cases s ch change
  · rw [h]
    exact .refl s
  · rw [h]
    refine s.stands_setChan c fun sound => ?_
    rw [Chan.NamesIn, active, staged]
    exact sound.names.chans c

theorem stands_follow (s : State) (ch : Nat) (offset : Phase) :
    s.LibraryStands (s.relink ch fun x => x.follow s.chans.l1 offset).1 :=
  stands_relink s ch (fun _ => rfl) fun _ => rfl

theorem stands_unlink (s : State) (ch : Nat) : s.LibraryStands (s.relink ch fun x => x.unlink s.chans.l1).1 := by
  refine stands_relink s ch (fun x => ?_) fun x => ?_
  · unfold Chan.unlink
    split <;> rfl
  · unfold Chan.unlink
    split <;> rfl

/-! ### Chapter 5: lanes -/

/-- A step that passes START's checks is defined and names a READY table (R76). -/
theorem State.checkStep_ok {s : State} {chans : ChannelSet} {n depth depth' : Nat} {last : Bool}
    (h : s.checkStep chans n depth last = .ok depth') :
    ∃ step : StepRecord, Store.get s.steps n = some step ∧ ∀ p ∈ step.shape, s.Ready p.table := by
  unfold State.checkStep at h
  split at h
  · cases h
  · rename_i step at_
    refine ⟨step, at_, fun p shape => ?_⟩
    by_contra unready
    have fails : step.shape.any (fun p => s.tableState p.table != .ready) = true :=
      (Option.any_eq_true _ _).2 ⟨p, shape, bne_iff_ne.2 unready⟩
    simp only [fails, if_true] at h
    split_ifs at h

/-- Every step of a walk that passes is defined and names a READY table (R75). -/
theorem State.walk_none {s : State} {chans : ChannelSet} {left n pos depth : Nat}
    (h : s.walk chans left n pos depth = none) (k : Nat) (hk : k < left) :
    ∃ step : StepRecord, Store.get s.steps (n + k) = some step ∧ ∀ p ∈ step.shape, s.Ready p.table := by
  induction left generalizing n pos depth k with
  | zero => exact absurd hk (Nat.not_lt_zero k)
  | succ left ih =>
    unfold State.walk at h
    split at h
    · cases h
    · rename_i passed
      cases k with
      | zero => exact State.checkStep_ok passed
      | succ k =>
        rw [Nat.add_succ, ← Nat.succ_add]
        exact ih h k (Nat.lt_of_succ_lt_succ hk)

/-- The lane record of an accepted START runs its program over READY tables (R83). -/
theorem State.LibrarySound.runs_freshLane {s : State} (h : s.LibrarySound) (p : Port) {program : Nat} {q : Program}
    (chans : ChannelSet) (defined : Store.get s.programs program = some q) (valid : s.validate q chans = none) :
    s.Runs s.Ready (s.freshLane p program chans) q := by
  refine ⟨defined, fun e he => absurd he List.not_mem_nil, fun k hk step at_ => ?_, fun c set snapshot => ?_⟩
  · obtain ⟨step', at', ready⟩ := State.walk_none valid k hk
    obtain rfl : step' = step := Option.some.inj (at'.symm.trans at_)
    exact ready
  · rw [Option.mem_def, State.freshLane_snapshots, State.snapshotOf] at snapshot
    split_ifs at snapshot
    obtain rfl := Option.some.inj snapshot
    exact (h.names.chans c).1

theorem stands_launch (s : State) (p : Port) {program : Nat} {q : Program} (chans : ChannelSet) (l : LaneId)
    (defined : Store.get s.programs program = some q) (valid : s.validate q chans = none) :
    s.LibraryStands (s.launch p program q chans l) := by
  unfold State.launch
  split
  · rename_i step _
    have entered : s.LibrarySound → s.Runs s.Ready ((s.freshLane p program chans).atStep 0 true step) q := fun sound =>
      (sound.runs_freshLane p chans defined valid).atStep (sound.counts program q defined) true step
    have placed : s.LibrarySound → ((s.freshLane p program chans).atStep 0 true step).Placed q := fun sound =>
      ⟨0, rfl, sound.counts program q defined⟩
    unfold State.enterBetween
    dsimp only
    split
    · exact s.stands_holdLane l _ _ fun sound _ =>
        ⟨q, (entered sound).congr rfl (entered sound).stack rfl, fun _ => placed sound⟩
    · exact s.stands_setLane l fun sound _ =>
        ⟨q, (entered sound).congr rfl (entered sound).stack rfl, fun _ => placed sound⟩
  · exact .refl s

theorem stands_start (s : State) (p : Port) (program channels : Nat) : s.LibraryStands (s.start p program channels).1 := by
  unfold State.start
  split
  · exact .refl s
  · split
    · rename_i q chans found _
      have defined : Store.get s.programs program = some q := by
        rw [State.startProgram] at found
        split_ifs at found
        exact found
      split
      · exact .refl s
      · unfold State.startOn
        split
        · exact .refl s
        · split
          · exact .refl s
          · split
            · exact .refl s
            · rename_i valid
              split
              · exact .refl s
              · exact stands_launch s p chans _ defined valid
    · exact .refl s

theorem stands_holdCommand (s : State) (n : Nat) : s.LibraryStands (s.holdCommand n).1 := by
  unfold State.holdCommand
  split
  · exact .refl s
  · rename_i l _
    split
    · rename_i f holdable
      refine s.stands_holdLane l _ _ fun sound => (sound.names.lanes l).congr ?_ ?_ rfl rfl rfl rfl
      · exact fun _ => Lane.running_of_holdable holdable
      · intro _ closing
        rw [closing] at holdable
        cases holdable
    · exact .refl s

theorem Lane.resumed_stack (x : Lane) : x.resumed.stack = x.stack := by
  unfold Lane.resumed
  split <;> rfl

theorem Lane.resumed_position (x : Lane) : x.resumed.position = x.position := by
  unfold Lane.resumed
  split <;> rfl

theorem stands_resumeCommand (s : State) (n : Nat) : s.LibraryStands (s.resumeCommand n).1 := by
  unfold State.resumeCommand
  split
  · exact .refl s
  · rename_i l _
    split
    · rename_i held
      refine s.stands_setLane l fun sound => (sound.names.lanes l).congr ?_ ?_ (Lane.resumed_program _)
        (Lane.resumed_snapshots _) (Lane.resumed_stack _) (Lane.resumed_position _)
      · exact fun _ => (Lane.running_iff _).2 (by rw [held]; decide)
      · exact fun _ => by rw [held]; decide
    · exact .refl s

theorem stands_releaseCommand (s : State) (n : Nat) : s.LibraryStands (s.releaseCommand n).1 := by
  unfold State.releaseCommand
  split
  · exact .refl s
  · rename_i l _
    split
    · exact s.stands_setLane l fun sound => (sound.names.lanes l).congr id id rfl rfl rfl rfl
    · exact .refl s

theorem stands_abortCommand (s : State) (p : Port) (n : Nat) : s.LibraryStands (s.abortCommand p n).1 := by
  unfold State.abortCommand
  split
  · exact .refl s
  · rename_i l _
    split
    · exact .refl s
    · rename_i open_
      refine s.stands_setLane l fun sound _ => ?_
      obtain ⟨q, runs, -⟩ := sound.names.lanes l ((Lane.running_iff _).2 fun idle => open_ (.inl idle))
      exact ⟨q, runs.congr rfl (fun e he => absurd he List.not_mem_nil) rfl, fun h => absurd rfl h⟩

theorem stands_changeKey (s : State) (key : Nat) (b : Bool) : s.LibraryStands (s.changeKey key b).1 := by
  unfold State.changeKey
  split
  · exact .refl s
  · rename_i k _
    cases k
    · exact .of_frame rfl
    · exact .of_frame rfl

/-! ### Chapters 7 to 10 -/

theorem stands_defineDescriptor (s : State) (d : Nat) (r : RawDescriptor) :
    s.LibraryStands (s.defineDescriptor d r).1 := by
  unfold State.defineDescriptor
  split
  · exact .refl s
  · split_ifs
    · exact .refl s
    · exact ⟨rfl, rfl, rfl, rfl, rfl, fun sound => sound.names.of_eq rfl rfl rfl rfl,
        fun ⟨descs, mem, comps⟩ => ⟨Store.wf_put d _ descs, mem, Store.wf_del d comps⟩⟩
    · exact .refl s

theorem stands_undefineDescriptor (s : State) (d : Nat) : s.LibraryStands (s.undefineDescriptor d).1 := by
  unfold State.undefineDescriptor
  split_ifs
  · exact .refl s
  · exact ⟨rfl, rfl, rfl, rfl, rfl, fun sound => sound.names.of_eq rfl rfl rfl rfl,
      fun ⟨descs, mem, comps⟩ => ⟨Store.wf_del d descs, mem, Store.wf_del d comps⟩⟩
  · exact .refl s

theorem stands_startCapture (s : State) (p : Port) (d : Nat) : s.LibraryStands (s.startCapture p d).1 := by
  unfold State.startCapture
  split_ifs
  · exact .refl s
  · exact .of_frame rfl
  · exact .refl s

theorem stands_stopCapture (s : State) : s.LibraryStands s.stopCapture.1 := by
  unfold State.stopCapture
  split
  · exact s.stands_stopRun _
  · exact .refl s

theorem stands_setAlertMask (s : State) (p : Port) (mask : Nat) : s.LibraryStands (s.setAlertMask p mask).1 := by
  unfold State.setAlertMask
  split
  · exact .refl s
  · exact .of_frame rfl

theorem stands_restart (s : State) : s.LibraryStands s.restart.1 := by
  unfold State.restart
  split_ifs
  · exact .refl s
  · exact .refl s
  · exact .of_frame rfl

theorem stands_getLink (s : State) (link clear : Nat) : s.LibraryStands (s.getLink link clear).1 := by
  unfold State.getLink
  split
  · dsimp only
    split
    · exact .of_frame rfl
    · exact .refl s
  · exact .refl s

/-- MASTER_CLEAR ends the lanes, makes the entry and stops the run before it empties the LOADING tables (R183). -/
theorem masterClear_libraryEffect (s : State) (p : Port) : s.LibraryEffect full (s.masterClear p).1 := by
  have entry : s.LibraryStands ((s.endLanes .cleared).takeCause .masterClear (some p)).stopAny :=
    ((s.stands_endLanes .cleared).trans (State.stands_takeCause _ _ _)).trans (State.stands_stopAny _)
  have lines : ∀ u : State, u.LibraryStands u.clearLines := fun u => .of_frame rfl
  exact .emptied entry (lines _)

theorem stands_tickWhen (e : TickEvent) (o : TickOrder) (s : State) : s.LibraryStands (tickWhen e o s) := by
  unfold tickWhen
  split
  · exact s.stands_tick o
  · exact .refl s

end

/-! ### Every command -/

/-- A chunk that the command writes has its 32 entries (R46). -/
def FullChunk : Instr → Prop
  | .writeTableChunk _ _ _ entries => entries.length = 32
  | _ => True

theorem fullChunk_of_wf {i : Instr} (h : i.wf = true) : FullChunk i := by
  cases i with
  | writeTableChunk p n c entries =>
    simp only [Instr.wf, Bool.and_eq_true, decide_eq_true_eq] at h
    obtain ⟨⟨-, length⟩, -⟩ := h
    exact length
  | _ => trivial

/-- Every command but a reset and the deselect itself has an effect of the list on the library. -/
theorem exec_libraryEffect_of_ne (i : Instr) (reset : ∀ low : Bool, i ≠ .resetNAssertion low)
    (deselect : ∀ p : Port, i ≠ .frameError p) (s : State) :
    ∃ t : State, exec i s = .next t ∧ s.LibraryEffect (FullChunk i) t := by
  cases i with
  | frameError p => exact absurd rfl (deselect p)
  | resetNAssertion low => exact absurd rfl (reset low)
  | sampleEvent o => exact ⟨_, rfl, .stands (s.stands_tick o)⟩
  | levelRampEnd c o => exact ⟨_, rfl, .stands (stands_tickWhen _ o s)⟩
  | frequencyRampEnd c o => exact ⟨_, rfl, .stands (stands_tickWhen _ o s)⟩
  | linkLost k o => exact ⟨_, rfl, .stands (stands_tickWhen _ o s)⟩
  | linkRecovered k o => exact ⟨_, rfl, .stands (stands_tickWhen _ o s)⟩
  | truncated c o => exact ⟨_, rfl, .stands (stands_tickWhen _ o s)⟩
  | markerPulseEnd m o => exact ⟨_, rfl, .stands (stands_tickWhen _ o s)⟩
  | dwellEnd l o => exact ⟨_, rfl, .stands (stands_tickWhen _ o s)⟩
  | waitMet l o => exact ⟨_, rfl, .stands (stands_tickWhen _ o s)⟩
  | waitTimeout l o => exact ⟨_, rfl, .stands (stands_tickWhen _ o s)⟩
  | decimationPass o => exact ⟨_, rfl, .stands (stands_tickWhen _ o s)⟩
  | capturePassFull o => exact ⟨_, rfl, .stands (stands_tickWhen _ o s)⟩
  | statusFrame k chars stops => exact ⟨_, rfl, .stands (.of_frame rfl)⟩
  | tripNAsserted => exact ⟨_, rfl, .stands (s.stands_takeSource .tripN true)⟩
  | tripNReleased => exact ⟨_, rfl, .stands (s.stands_takeSource .tripN false)⟩
  | spiSelect p => exact ⟨_, rfl, .stands (.of_frame rfl)⟩
  | spiByteCompleted p b =>
    simp only [exec, execSpiByteCompleted]
    split
    · exact ⟨_, rfl, .stands (.of_frame rfl)⟩
    · exact ⟨_, rfl, .refl s⟩
  | nop p => exact ⟨_, rfl, .answer (.refl s)⟩
  | identify p => exact ⟨_, rfl, .answer (.refl s)⟩
  | getAlerts p => exact ⟨_, rfl, .answer (.stands (.of_frame rfl))⟩
  | setAlertMask p mask => exact ⟨_, rfl, .answer (.stands (stands_setAlertMask s p mask))⟩
  | masterClear p => exact ⟨_, rfl, .answer (masterClear_libraryEffect s p)⟩
  | setChannel p ch r => exact ⟨_, rfl, .answer (.stands (stands_setChannel s ch r))⟩
  | getChannel p ch clear => exact ⟨_, rfl, .answer (.stands (stands_getChannel s ch clear))⟩
  | linkChannelFollow p ch offset => exact ⟨_, rfl, .answer (.stands (stands_follow s ch _))⟩
  | linkChannelUnlink p ch => exact ⟨_, rfl, .answer (.stands (stands_unlink s ch))⟩
  | beginTable p n => exact ⟨_, rfl, .answer (beginTable_libraryEffect s p n)⟩
  | writeTableChunk p n c e => exact ⟨_, rfl, .answer (writeTableChunk_libraryEffect s p n c e)⟩
  | commitTable p n => exact ⟨_, rfl, .answer (commitTable_libraryEffect s p n)⟩
  | discardTable p n => exact ⟨_, rfl, .answer (discardTable_libraryEffect s n)⟩
  | readTableChunk p n c => exact ⟨_, rfl, .answer (.refl s)⟩
  | getTableState p n => exact ⟨_, rfl, .answer (.refl s)⟩
  | writeOverlaySet p n count slots => exact ⟨_, rfl, .answer (writeOverlaySet_libraryEffect s n count slots)⟩
  | readOverlaySet p n => exact ⟨_, rfl, .answer (.refl s)⟩
  | writeStep p n r => exact ⟨_, rfl, .answer (writeStep_libraryEffect s n r)⟩
  | readStep p n => exact ⟨_, rfl, .answer (.refl s)⟩
  | clearStep p n => exact ⟨_, rfl, .answer (clearStep_libraryEffect s n)⟩
  | writeProgramDefine p n first count policy =>
    exact ⟨_, rfl, .answer (defineProgram_libraryEffect s n first count policy)⟩
  | writeProgramUndefine p n => exact ⟨_, rfl, .answer (undefineProgram_libraryEffect s n)⟩
  | readProgram p n => exact ⟨_, rfl, .answer (.refl s)⟩
  | start p program channels => exact ⟨_, rfl, .answer (.stands (stands_start s p program channels))⟩
  | hold p lane => exact ⟨_, rfl, .answer (.stands (stands_holdCommand s lane))⟩
  | resume p lane => exact ⟨_, rfl, .answer (.stands (stands_resumeCommand s lane))⟩
  | release p lane => exact ⟨_, rfl, .answer (.stands (stands_releaseCommand s lane))⟩
  | abort p lane => exact ⟨_, rfl, .answer (.stands (stands_abortCommand s p lane))⟩
  | getLane p lane => exact ⟨_, rfl, .answer (.refl s)⟩
  | setHoldKey p key => exact ⟨_, rfl, .answer (.stands (stands_changeKey s key true))⟩
  | clearHoldKey p key => exact ⟨_, rfl, .answer (.stands (stands_changeKey s key false))⟩
  | getMeasurement p ch => exact ⟨_, rfl, .answer (.refl s)⟩
  | writeDescriptorDefine p d r => exact ⟨_, rfl, .answer (.stands (stands_defineDescriptor s d r))⟩
  | writeDescriptorUndefine p d => exact ⟨_, rfl, .answer (.stands (stands_undefineDescriptor s d))⟩
  | readDescriptor p d => exact ⟨_, rfl, .answer (.refl s)⟩
  | startCapture p d => exact ⟨_, rfl, .answer (.stands (stands_startCapture s p d))⟩
  | stopCapture p => exact ⟨_, rfl, .answer (.stands (stands_stopCapture s))⟩
  | readCapture p a c => exact ⟨_, rfl, .answer (.refl s)⟩
  | getCapture p => exact ⟨_, rfl, .answer (.refl s)⟩
  | trip p => exact ⟨_, rfl, .answer (.stands (s.stands_takeCause .portTrip (some p)))⟩
  | restart p => exact ⟨_, rfl, .answer (.stands (stands_restart s))⟩
  | getTrip p => exact ⟨_, rfl, .answer (.refl s)⟩
  | getLink p link clear => exact ⟨_, rfl, .answer (.stands (stands_getLink s link clear))⟩

theorem length_readEntries (n : Nat) (b : List Byte) : (readEntries n b).length = n := by
  induction n generalizing b with
  | zero => rfl
  | succ n ih => exact congrArg (· + 1) (ih _)

/-- A frame carries a chunk whole (R173). -/
theorem fullChunk_of_commandOf {p : Port} {code : Nat} {b : List Byte} {i : Instr} (h : commandOf p code b = some i) :
    FullChunk i := by
  cases i with
  | writeTableChunk q n c entries =>
    unfold commandOf at h
    split at h
    case h_10 =>
      cases h
      exact length_readEntries 32 _
    all_goals
      try split at h
      all_goals cases h
  | _ => trivial

/-- A frame's command that is taken has an effect of the list; a reset or a deselect is no frame's command (R174). -/
theorem takeCommand_libraryEffect (i : Instr) (s : State) :
    ∃ t : State, takeCommand i s = .next t ∧ s.LibraryEffect (FullChunk i) t := by
  by_cases reset : ∃ low : Bool, i = .resetNAssertion low
  · obtain ⟨low, rfl⟩ := reset
    exact ⟨s, rfl, .refl s⟩
  · by_cases deselect : ∃ p : Port, i = .frameError p
    · obtain ⟨p, rfl⟩ := deselect
      exact ⟨s, rfl, .refl s⟩
    · obtain h | h := takeCommand_cases i s
      · rw [h]
        exact exec_libraryEffect_of_ne i (not_exists.1 reset) (not_exists.1 deselect) s
      · exact ⟨s, h, .refl s⟩

theorem frameError_libraryEffect (p : Port) (s : State) :
    ∃ t : State, exec (.frameError p) s = .next t ∧ s.LibraryEffect True t := by
  simp only [exec, execFrameError]
  split
  · split
    · exact ⟨_, rfl, .stands (.of_frame (by rw [State.hold_frame]))⟩
    · split
      · rename_i i named
        obtain ⟨t, taken, effect⟩ := takeCommand_libraryEffect i s
        exact ⟨t, taken, effect.mono fun _ => fullChunk_of_commandOf named⟩
      · exact ⟨_, rfl, .answer (.refl s)⟩
  · exact ⟨s, rfl, .refl s⟩

/-- Every command but a reset has an effect of the list on the library. -/
theorem exec_libraryEffect {i : Instr} (reset : ∀ low : Bool, i ≠ .resetNAssertion low) (s : State) :
    ∃ t : State, exec i s = .next t ∧ s.LibraryEffect (FullChunk i) t := by
  by_cases deselect : ∃ p : Port, i = .frameError p
  · obtain ⟨p, rfl⟩ := deselect
    exact frameError_libraryEffect p s
  · exact exec_libraryEffect_of_ne i reset (not_exists.1 deselect) s

/-! ### Every step -/

/-- A step takes the front command: a reset, or a command with an effect of the list. -/
theorem step_libraryEffect {s t : State} (h : step s = .next t) :
    (∃ (low : Bool) (rest : List Instr), s.pending = .resetNAssertion low :: rest
      ∧ t = { State.resetWith low with pending := rest })
    ∨ ∃ rest : List Instr, State.LibraryEffect (∀ i ∈ s.pending, FullChunk i) { s with pending := rest } t := by
  unfold step at h
  split at h
  · cases h
    exact .inr ⟨s.pending, .refl s⟩
  · rename_i i rest queue
    by_cases reset : ∃ low : Bool, i = .resetNAssertion low
    · obtain ⟨low, rfl⟩ := reset
      cases h
      exact .inl ⟨low, rest, queue, rfl⟩
    · obtain ⟨u, hu, effect⟩ := exec_libraryEffect (not_exists.1 reset) { s with pending := rest }
      rw [hu] at h
      cases h
      exact .inr ⟨rest, effect.mono fun full => full i (queue ▸ List.mem_cons_self)⟩

/-- Settles O52: RESET_N leaves the memories and stores empty, and every other effect on the library and the capture
side keeps them canonical. -/
theorem stepKeepsMemoriesCanonical : Obligations.StepKeepsMemoriesCanonical := by
  intro s t canonical h
  obtain ⟨low, rest, -, rfl⟩ | ⟨rest, effect⟩ := step_libraryEffect h
  · exact State.reset_canonical low
  · exact effect.canonical canonical

/-- Settles O59: RESET_N leaves a sound library, and every other effect keeps it sound and leaves the entries and the
terms that a holder names. -/
theorem stepKeepsReferencedTablesReady : Obligations.StepKeepsReferencedTablesReady := by
  intro s t ready wf h
  obtain ⟨low, rest, queue, rfl⟩ | ⟨rest, effect⟩ := step_libraryEffect h
  · exact ⟨State.reset_tablesReady low, fun noReset => absurd (by rw [queue]; rfl) (noReset low)⟩
  · have full : ∀ i ∈ s.pending, FullChunk i := fun i hi => fullChunk_of_wf (wf i hi)
    have sound : State.LibrarySound { s with pending := rest } := (State.tablesReady_iff _).1 ready
    exact ⟨(State.tablesReady_iff t).2 (effect.sound sound),
      fun _ => ⟨fun n named i hi => effect.entry full sound named hi, fun n named => effect.terms named⟩⟩

end Sys2Proof.Machine
end

section
/-! PROOF. The reading commands: the report that each makes, row by row of its rule, and its refusal. -/

namespace Sys2Proof.Machine

/-! ### Lists of items of one length -/

theorem length_flatten_of_forall {α : Type} {l : List (List α)} {k : Nat} (h : ∀ x ∈ l, x.length = k) :
    l.flatten.length = l.length * k := by
  rw [List.length_flatten, List.map_congr_left h, List.map_const', List.sum_replicate, smul_eq_mul]

/-- Items of one length stand in their places. -/
theorem take_drop_flatten {α : Type} {l : List (List α)} {k : Nat} (h : ∀ x ∈ l, x.length = k) {i : Nat} {x : List α}
    (hi : l[i]? = some x) : (l.flatten.drop (k * i)).take k = x := by
  induction l generalizing i with
  | nil => cases hi
  | cons y l ih =>
    have first : y.length = k := h y List.mem_cons_self
    have rest : ∀ z ∈ l, z.length = k := fun z hz => h z (List.mem_cons_of_mem y hz)
    rw [List.flatten_cons]
    cases i with
    | zero =>
      obtain rfl : y = x := Option.some.inj hi
      rw [Nat.mul_zero, List.drop_zero, ← first, List.take_left]
    | succ i =>
      rw [Nat.mul_succ, Nat.add_comm, ← List.drop_drop, ← first, List.drop_left, first]
      exact ih rest hi

/-! ### READ_TABLE_CHUNK (R49) -/

theorem State.length_entries (s : State) (t i n : Nat) : (s.entries t i n).length = n := by
  induction n generalizing i with
  | zero => rfl
  | succ n ih => exact congrArg (· + 1) (ih (i + 1))

theorem State.getElem?_entries (s : State) (t : Nat) {i n k : Nat} (hk : k < n) :
    (s.entries t i n)[k]? = some (s.entry t (i + k)) := by
  induction n generalizing i k with
  | zero => exact absurd hk (Nat.not_lt_zero k)
  | succ n ih =>
    cases k with
    | zero => rfl
    | succ k => exact (ih (Nat.lt_of_succ_lt_succ hk)).trans (by rw [Nat.add_succ, Nat.succ_add_eq_add_succ])

/-- The entries of a chunk, two bytes each. -/
def State.chunkBytes (s : State) (t c : Nat) : List Byte := ((s.entries t (32 * c) 32).map (intBytes 2)).flatten

theorem length_of_mem_map_intBytes {k : Nat} {l : List Int} : ∀ x ∈ l.map (intBytes k), x.length = k := by
  intro x hx
  obtain ⟨v, -, rfl⟩ := List.mem_map.1 hx
  exact length_intBytes k v

theorem State.length_chunkBytes (s : State) (t c : Nat) : (s.chunkBytes t c).length = 64 := by
  rw [State.chunkBytes, length_flatten_of_forall length_of_mem_map_intBytes, List.length_map, State.length_entries]

theorem State.take_drop_chunkBytes (s : State) (t c : Nat) {i : Nat} (hi : i < 32) :
    ((s.chunkBytes t c).drop (2 * i)).take 2 = intBytes 2 (s.entry t (32 * c + i)) := by
  refine take_drop_flatten length_of_mem_map_intBytes ?_
  rw [List.getElem?_map, State.getElem?_entries _ _ hi]
  rfl

theorem exec_readTableChunk (p : Port) (t c : Nat) (s : State) :
    exec (.readTableChunk p t c) s = .next (State.answer p 0x24 (s, s.readTableChunk t c)) := rfl

theorem State.readTableChunk_of_lt {s : State} {t c : Nat} (ht : t ≤ 15) (hc : c ≤ 31) : s.readTableChunk t c
    = Reply.ok (BitVec.ofNat 8 (tableStateNumber (s.tableState t)) :: s.chunkBytes t c) :=
  if_pos ⟨Nat.lt_succ_of_le ht, Nat.lt_succ_of_le hc⟩

theorem State.readTableChunk_of_bad_operand {s : State} {t c : Nat} (h : 15 < t ∨ 31 < c) :
    s.readTableChunk t c = Reply.refuse .badArgument := if_neg (by omega)

/-! ### GET_TABLE_STATE and READ_OVERLAY_SET (R49, R53) -/

/-- The holder sets of a report are those of `State.named` (R54). -/
theorem State.holdersAre_holders (s : State) (f : ParamSet → Nat) (g : ShapePart → Nat) (k : Nat) :
    holdersAre s f g k (s.named f g k) (s.activeHolders f k) (s.stagedHolders f k) (s.laneHolders f g k) :=
  ⟨s.activeHolders_get f k, s.stagedHolders_get f k,
    fun l => by rw [State.laneHolders_get, State.laneHolds_iff], s.named_iff_holders f g k⟩

/-- A report that ends with the holders. -/
theorem State.append_holdersBody (s : State) (f : ParamSet → Nat) (g : ShapePart → Nat) (k : Nat) (body : List Byte) :
    body ++ s.holdersBody f g k = body ++ flagItem (s.named f g k) ++ byteItem (channelBits (s.activeHolders f k))
      ++ byteItem (channelBits (s.stagedHolders f k)) ++ byteItem (laneBits (s.laneHolders f g k)) := by
  simp only [State.holdersBody, List.append_assoc]

/-- The rows of R49 of a table's state, its owner and its coverage. -/
def tableReport (x : TableState) : List Byte :=
  match x with
  | .empty => [0#8, 0#8, 0#8] ++ numBytes 4 0
  | .loading q cov => [1#8, 1#8, (match q with | .A => 0#8 | .B => 1#8)] ++ numBytes 4 (chunkBits cov)
  | .ready => [2#8, 0#8, 0#8] ++ numBytes 4 4294967295

theorem chunkBits_full : chunkBits (List.range 32) = 4294967295 := by decide

/-- A table's state as reported; a READY table is covered whole. -/
theorem tableReport_eq (x : TableState) : byteItem (tableStateNumber x)
    ++ optItem 1 (x.owner.map (fun q => byteItem (portNumber q))) ++ numBytes 4 (chunkBits x.coverage)
      = tableReport x := by
  cases x with
  | empty => rfl
  | loading q cov => cases q <;> rfl
  | ready =>
    rw [TableState.coverage, chunkBits_full]
    rfl

theorem exec_getTableState (p : Port) (t : Nat) (s : State) :
    exec (.getTableState p t) s = .next (State.answer p 0x25 (s, s.getTableState t)) := rfl

theorem State.getTableState_of_le {s : State} {t : Nat} (h : t ≤ 15) : s.getTableState t
    = Reply.ok (tableReport (s.tableState t) ++ s.holdersBody ParamSet.table ShapePart.table t) := by
  rw [← tableReport_eq]
  exact if_pos (Nat.lt_succ_of_le h)

theorem State.getTableState_of_gt {s : State} {t : Nat} (h : 15 < t) :
    s.getTableState t = Reply.refuse .badArgument := if_neg (Nat.not_lt.2 h)

theorem exec_readOverlaySet (p : Port) (n : Nat) (s : State) :
    exec (.readOverlaySet p n) s = .next (State.answer p 0x27 (s, s.readOverlaySet n)) := rfl

theorem State.readOverlaySet_of_le {s : State} {n : Nat} (h : n ≤ 7) : s.readOverlaySet n
    = Reply.ok (BitVec.ofNat 8 (s.terms n).length :: ((s.terms n).map termItem).flatten
        ++ s.holdersBody ParamSet.overlay ShapePart.overlay n) := by
  rw [State.readOverlaySet, if_pos (Nat.lt_succ_of_le h), listItem, List.length_map]

theorem State.readOverlaySet_of_gt {s : State} {n : Nat} (h : 7 < n) :
    s.readOverlaySet n = Reply.refuse .badArgument := if_neg (Nat.not_lt.2 h)

/-! ### READ_STEP and READ_PROGRAM (R66, R70) -/

theorem exec_readStep (p : Port) (n : Nat) (s : State) :
    exec (.readStep p n) s = .next (State.answer p 0x31 (s, s.readStep n)) := rfl

/-- A step record with its defined flag. -/
def stepItemReport (e : Option StepRecord) : List Byte :=
  match e with
  | none => List.replicate 60 0#8
  | some x => 1#8 :: stepReport x

theorem stepItem_eq (e : Option StepRecord) : optItem stepFieldsLength (e.map stepFields) = stepItemReport e := by
  cases e <;> rfl

theorem State.readStep_of_le {s : State} {n : Nat} (h : n ≤ 255) : s.readStep n
    = Reply.ok (optItem stepFieldsLength ((Store.get s.steps n).map stepFields)
        ++ byteItem (laneBits (s.rangeHolders n))) := if_pos (Nat.lt_succ_of_le h)

theorem State.readStep_of_gt {s : State} {n : Nat} (h : 255 < n) : s.readStep n = Reply.refuse .badArgument :=
  if_neg (Nat.not_lt.2 h)

theorem exec_readProgram (p : Port) (n : Nat) (s : State) :
    exec (.readProgram p n) s = .next (State.answer p 0x34 (s, s.readProgram n)) := rfl

/-- A program entry with its defined flag. -/
def programReport (e : Option Program) : List Byte :=
  match e with
  | none => List.replicate 5 0#8
  | some q => 1#8 :: byteItem q.first ++ numBytes 2 q.count
      ++ byteItem (match q.policy with | .keep => 0 | .restore => 1)

theorem programItem_eq (e : Option Program) : programItem e = programReport e := by
  cases e <;> rfl

theorem State.readProgram_of_le {s : State} {n : Nat} (h : n ≤ 7) : s.readProgram n
    = Reply.ok (programItem (Store.get s.programs n) ++ byteItem (laneBits (s.runners n))) :=
  if_pos (Nat.lt_succ_of_le h)

theorem State.readProgram_of_gt {s : State} {n : Nat} (h : 7 < n) : s.readProgram n = Reply.refuse .badArgument :=
  if_neg (Nat.not_lt.2 h)

/-! ### GET_LANE and GET_MEASUREMENT (R109, R122) -/

theorem laneOf_laneNumber (l : LaneId) : laneOf (laneNumber l) = some l := by cases l <;> rfl

theorem laneOf_eq_none {n : Nat} (h : 2 < n) : laneOf n = none := by
  unfold laneOf
  split
  · omega
  · omega
  · omega
  · rfl

theorem exec_getLane (p : Port) (n : Nat) (s : State) :
    exec (.getLane p n) s = .next (State.answer p 0x45 (s, s.getLane n)) := rfl

theorem append_endItem (body : List Byte) (e : EndRecord) : body ++ endItem e = body
    ++ byteItem (endReasonNumber e.reason) ++ byteItem e.position ++ numBytes 2 e.timeouts ++ flagItem e.missed := by
  simp only [endItem, List.append_assoc]

theorem State.laneBody_eq (s : State) (x : Lane) : s.laneBody x = laneReport s x := by
  unfold State.laneBody
  simp only [append_endItem]
  rfl

theorem State.getLane_laneNumber (s : State) (l : LaneId) :
    s.getLane (laneNumber l) = Reply.ok (laneReport s (s.lanes.get l)) := by
  rw [State.getLane, laneOf_laneNumber, ← State.laneBody_eq]

theorem State.getLane_of_gt (s : State) {n : Nat} (h : 2 < n) : s.getLane n = Reply.refuse .badArgument := by
  rw [State.getLane, laneOf_eq_none h]

theorem exec_getMeasurement (p : Port) (n : Nat) (s : State) :
    exec (.getMeasurement p n) s = .next (State.answer p 0x50 (s, s.getMeasurement n)) := rfl

/-- The rows of R122 by whether a record is published, an accumulation is open and its polarity is set. -/
theorem measurementBody_eq (x : Sense) : measurementBody x = measurementReport x := by
  obtain ⟨isOpen, polarity, _, _, _, _, _, _, record⟩ := x
  cases record <;> cases isOpen <;> cases polarity <;> rfl

theorem State.getMeasurement_channelNumber (s : State) (c : Channel) :
    s.getMeasurement (channelNumber c) = Reply.ok (measurementReport (s.sense.get c)) := by
  rw [State.getMeasurement, channelOf_channelNumber, ← measurementBody_eq]

theorem State.getMeasurement_of_bad_operand (s : State) {n : Nat} (h : n = 0 ∨ 3 < n) :
    s.getMeasurement n = Reply.refuse .badArgument := by
  rw [State.getMeasurement, channelOf_eq_none h]

/-! ### READ_DESCRIPTOR, GET_CAPTURE and GET_TRIP (R127, R141, R154) -/

theorem exec_readDescriptor (p : Port) (d : Nat) (s : State) :
    exec (.readDescriptor p d) s = .next (State.answer p 0x61 (s, s.readDescriptor d)) := rfl

theorem descriptorItem_eq (d : Option Descriptor) : descriptorItem d = descriptorReport d := by
  rcases d with _ | ⟨_, _, _, _, next, _, _, _⟩
  · rfl
  · cases next <;> rfl

/-- A completion record with its presence byte. -/
def completionReport (c : Option Completion) : List Byte :=
  match c with
  | none => List.replicate 6 0#8
  | some r => 1#8 :: numBytes 2 r.words ++ byteItem (passReasonNumber r.reason) ++ numBytes 2 r.run

theorem completionItem_eq (c : Option Completion) : completionItem c = completionReport c := by
  cases c <;> rfl

theorem State.readDescriptor_of_le {s : State} {d : Nat} (h : d ≤ 15) : s.readDescriptor d
    = Reply.ok (descriptorReport (Store.get s.descs d) ++ completionItem (Store.get s.comps d)
        ++ flagItem (s.engine.isActive && s.engine.current == some d)) := by
  rw [State.readDescriptor, if_pos (Nat.lt_succ_of_le h), descriptorItem_eq]

theorem State.readDescriptor_of_gt {s : State} {d : Nat} (h : 15 < d) :
    s.readDescriptor d = Reply.refuse .badArgument := if_neg (Nat.not_lt.2 h)

/-- The rows of R141; an IDLE engine shows no pass. -/
theorem captureBody_eq (e : Engine) : captureBody e = captureReport e := by
  unfold captureBody captureReport
  cases e.isActive
  · simp only [Bool.false_eq_true, if_false, List.append_assoc]
    rfl
  · simp only [if_true, optItem, List.append_assoc, List.cons_append]

theorem exec_getCapture (p : Port) (s : State) :
    exec (.getCapture p) s = .next (State.answer p 0x65 (s, Reply.ok (captureBody s.engine))) := rfl

theorem tripBody_eq (t : TripUnit) : tripBody t = tripReport t := rfl

theorem exec_getTrip (p : Port) (s : State) :
    exec (.getTrip p) s = .next (State.answer p 0x72 (s, Reply.ok (tripBody s.trip))) := rfl

/-- Settles O31: each command answers its report in its range and a refusal outside it. -/
theorem readingCommandsChangeNothing : Obligations.ReadingCommandsChangeNothing := by
  intro p s
  refine ⟨fun t c ht hc => ⟨s.chunkBytes t c, s.length_chunkBytes t c, fun i hi => s.take_drop_chunkBytes t c hi, ?_⟩,
    fun t c h => ?_, fun t h => ⟨_, _, _, _, s.holdersAre_holders _ _ t, ?_⟩, fun t h => ?_,
    fun n h => ⟨_, _, _, _, s.holdersAre_holders _ _ n, ?_⟩, fun n h => ?_, fun n h => ?_, fun n h => ?_, fun n h => ?_,
    fun n h => ?_, fun l => ?_, fun n h => ?_, fun c => ?_, fun n h => ?_, fun d h => ?_, fun d h => ?_, ?_, ?_⟩
  · rw [exec_readTableChunk, State.readTableChunk_of_lt ht hc, State.answer_ok]
  · rw [exec_readTableChunk, State.readTableChunk_of_bad_operand h, State.answer_refuse]
  · rw [exec_getTableState, State.getTableState_of_le h, State.answer_ok, State.append_holdersBody]
    rfl
  · rw [exec_getTableState, State.getTableState_of_gt h, State.answer_refuse]
  · rw [exec_readOverlaySet, State.readOverlaySet_of_le h, State.answer_ok, State.append_holdersBody]
    rfl
  · rw [exec_readOverlaySet, State.readOverlaySet_of_gt h, State.answer_refuse]
  · rw [exec_readStep, State.readStep_of_le h, State.answer_ok, stepItem_eq]
    rfl
  · rw [exec_readStep, State.readStep_of_gt h, State.answer_refuse]
  · rw [exec_readProgram, State.readProgram_of_le h, State.answer_ok, programItem_eq]
    rfl
  · rw [exec_readProgram, State.readProgram_of_gt h, State.answer_refuse]
  · rw [exec_getLane, State.getLane_laneNumber, State.answer_ok]
  · rw [exec_getLane, State.getLane_of_gt s h, State.answer_refuse]
  · rw [exec_getMeasurement, State.getMeasurement_channelNumber, State.answer_ok]
  · rw [exec_getMeasurement, State.getMeasurement_of_bad_operand s h, State.answer_refuse]
  · rw [exec_readDescriptor, State.readDescriptor_of_le h, State.answer_ok, completionItem_eq]
    rfl
  · rw [exec_readDescriptor, State.readDescriptor_of_gt h, State.answer_refuse]
  · rw [exec_getCapture, State.answer_ok, captureBody_eq]
  · rw [exec_getTrip, State.answer_ok, tripBody_eq]

end Sys2Proof.Machine
end

section
/-! PROOF. The running lanes that hold a step or a program (R65, R69, R72), and their protection: the effect of a command
on the library (`exec_libraryEffect`) writes no step and no program that a running lane holds. -/

namespace Sys2Proof.Machine

/-! ### The lanes that hold a step or a program -/

/-- Some lane holds step `n` in its range (R72). -/
theorem State.anyLane_rangeHolders_iff (s : State) (n : Nat) :
    anyLane (s.rangeHolders n) = true ↔ ∃ l : LaneId, s.inRange (s.lanes.get l) n = true := by
  rw [anyLane_iff]
  exact exists_congr fun l => by rw [State.rangeHolders, PerLane.get_mk_map s.lanes fun x => s.inRange x n]

theorem State.anyLane_rangeHolders_eq_false_iff (s : State) (n : Nat) :
    anyLane (s.rangeHolders n) = false ↔ ∀ l : LaneId, s.inRange (s.lanes.get l) n = false := by
  simp only [← Bool.not_eq_true, State.anyLane_rangeHolders_iff, not_exists]

/-- Some lane runs program `n` (R69). -/
theorem State.anyLane_runners_iff (s : State) (n : Nat) :
    anyLane (s.runners n) = true ↔ ∃ l : LaneId, (s.lanes.get l).state ≠ .idle ∧ (s.lanes.get l).program = some n := by
  rw [anyLane_iff]
  refine exists_congr fun l => ?_
  rw [State.runners, PerLane.get_mk_map s.lanes fun x => x.running && decide (x.program = some n), Bool.and_eq_true,
    Lane.running_iff, decide_eq_true_eq]

theorem State.anyLane_runners_eq_false_iff (s : State) (n : Nat) : anyLane (s.runners n) = false
    ↔ ∀ l : LaneId, (s.lanes.get l).state = .idle ∨ (s.lanes.get l).program ≠ some n := by
  simp only [← Bool.not_eq_true, State.anyLane_runners_iff, not_exists, not_and_or, not_not]

/-! ### The protection of running programs (R72) -/

/-- The steps in the range of a running lane and the entries of its program stand. -/
structure State.ProgramsKept (s t : State) : Prop where
  steps (l : LaneId) (n : Nat) : s.inRange (s.lanes.get l) n = true → Store.get t.steps n = Store.get s.steps n
  programs (l : LaneId) (n : Nat) : (s.lanes.get l).state ≠ .idle → (s.lanes.get l).program = some n →
    Store.get t.programs n = Store.get s.programs n

section
variable {full : Prop} {s t : State}

theorem State.ProgramsKept.of_eq (steps : t.steps = s.steps) (programs : t.programs = s.programs) :
    s.ProgramsKept t :=
  ⟨fun _ _ _ => by rw [steps], fun _ _ _ _ => by rw [programs]⟩

/-- Only the effects of WRITE_STEP, CLEAR_STEP and WRITE_PROGRAM touch the store or the directory, each at one number, and
no running lane holds that number (R62, R65, R69). -/
theorem State.LibraryEffect.programsKept (h : s.LibraryEffect full t) : s.ProgramsKept t := by
  cases h with
  | stands k => exact .of_eq k.steps k.programs
  | table n x _ _ k => exact .of_eq k.steps k.programs
  | chunk p n c cov entries _ _ _ k => exact .of_eq k.steps k.programs
  | emptied k k' => exact .of_eq (k'.steps.trans k.steps) (k'.programs.trans k.programs)
  | overlay n terms _ k => exact .of_eq k.steps k.programs
  | step n m free _ others k =>
    refine ⟨fun l i held => ?_, fun _ _ _ _ => by rw [k.programs]⟩
    have ne : i ≠ n := by
      rintro rfl
      rw [(s.anyLane_rangeHolders_eq_false_iff i).1 free l] at held
      cases held
    rw [k.steps, others i ne]
  | program n m free _ others _ k =>
    refine ⟨fun _ _ _ => by rw [k.steps], fun l i running named => ?_⟩
    have ne : i ≠ n := by
      rintro rfl
      exact ((s.anyLane_runners_eq_false_iff i).1 free l).elim running (· named)
    rw [k.programs, others i ne]

end

/-- Settles O25: RESET_N leaves no lane running, and every other command has an effect of `State.LibraryEffect`. -/
theorem runningProgramIsProtected : Obligations.RunningProgramIsProtected := by
  intro i s t l h before after
  by_cases reset : ∃ low : Bool, i = .resetNAssertion low
  · obtain ⟨low, rfl⟩ := reset
    cases h
    exact absurd (congrArg Lane.state (State.resetWith_lane low l)) after
  · obtain ⟨u, taken, effect⟩ := exec_libraryEffect (not_exists.1 reset) s
    obtain rfl : u = t := by
      rw [taken] at h
      cases h
      rfl
    have kept := effect.programsKept
    exact ⟨fun n held => kept.steps l n held, fun n named => kept.programs l n before named⟩

end Sys2Proof.Machine
end

section
/-! PROOF. The reading of the record that WRITE_STEP carries (R60 to R63), part by part, and the adjusted parts that its
answer names. -/

namespace Sys2Proof.Machine

/-! ### Choices (R173)

Each choice as one equation: the numbers that name something, and what they name. -/

/-- A choice between two, sent as 0 and 1. -/
theorem eq_ite_of_two_choices {α : Type} {f : Nat → Option α} {a b : α} (zero : f 0 = some a) (one : f 1 = some b)
    (more : ∀ n : Nat, f (n + 2) = none) : ∀ n : Nat, f n = if n ≤ 1 then some (if n = 0 then a else b) else none
  | 0 => zero
  | 1 => one
  | n + 2 => (more n).trans (if_neg (by omega)).symm

theorem unitOf_eq : ∀ n : Nat, unitOf n = if n ≤ 1 then some (if n = 0 then .samples else .cycles) else none :=
  eq_ite_of_two_choices rfl rfl fun _ => rfl

theorem quantityOf_eq : ∀ n : Nat, quantityOf n = if n ≤ 1 then some (if n = 0 then .V else .I) else none :=
  eq_ite_of_two_choices rfl rfl fun _ => rfl

theorem waitRelationOf_eq : ∀ n : Nat,
    waitRelationOf n = if n ≤ 1 then some (if n = 0 then .below else .above) else none :=
  eq_ite_of_two_choices rfl rfl fun _ => rfl

theorem onTimeoutOf_eq : ∀ n : Nat,
    onTimeoutOf n = if n ≤ 1 then some (if n = 0 then .continue_ else .abort) else none :=
  eq_ite_of_two_choices rfl rfl fun _ => rfl

theorem policyOf_eq : ∀ n : Nat, policyOf n = if n ≤ 1 then some (if n = 0 then .keep else .restore) else none :=
  eq_ite_of_two_choices rfl rfl fun _ => rfl

theorem keyOf_eq : ∀ n : Nat, keyOf n = if n = 1 ∨ n = 2 then some (if n = 1 then .K1 else .K2) else none
  | 0 | 1 | 2 => rfl
  | n + 3 => (if_neg (by omega)).symm

theorem markerActionOf_eq : ∀ n : Nat, markerActionOf n
    = if n ≤ 3 then some ([MarkerAction.none, .set, .clear, .pulse].getD n .none) else none
  | 0 | 1 | 2 | 3 => rfl
  | n + 4 => (if_neg (by omega)).symm

theorem channelOf_eq : ∀ n : Nat, channelOf n
    = if 1 ≤ n ∧ n ≤ 3 then some (if n = 1 then .L1 else if n = 2 then .L2 else .L3) else none
  | 0 | 1 | 2 | 3 => rfl
  | n + 4 => (if_neg (by omega)).symm

/-! ### Parts of a step record (R60 to R63) -/

/-- A part is read when its presence byte is a flag and, where the part is present, its items exist. -/
theorem partOf_ite {α : Type} (presence : Nat) (names : Prop) [Decidable names] (x : α) :
    partOf presence (if names then some x else none)
      = if presence ≤ 1 ∧ (presence = 1 → names) then some (if presence = 0 then none else some x) else none := by
  match presence with
  | 0 => rfl
  | 1 => by_cases h : names <;> simp [partOf, flagOf, h]
  | n + 2 => exact (if_neg (by omega)).symm

theorem partOf_some {α : Type} (presence : Nat) (x : α) :
    partOf presence (some x) = if presence ≤ 1 then some (if presence = 0 then none else some x) else none := by
  simpa using partOf_ite presence True x

/-- A reading that goes on after a check that names exist. -/
theorem ite_none_bind {α β : Type} (names : Prop) [Decidable names] (x : α) (f : α → Option β) :
    (if names then some x else none).bind f = if names then f x else none := by
  split_ifs <;> rfl

theorem clampNat_zero (hi n : Nat) : clampNat 0 hi n = min n hi := by
  rw [clampNat_eq (Nat.zero_le hi), Nat.zero_max, min_comm]

theorem syncPartOf_eq (a : Nat) :
    syncPartOf a = ⟨min a 3599, BitVec.ofNat 32 (min a 3599 * 4294967296 / 3600)⟩ := by
  rw [syncPartOf, clampNat_zero]
  rfl

theorem durationOf_ite (unit count : Nat) : durationOf (if unit = 0 then .samples else .cycles) count
    = if unit = 0 then ⟨max 1 (min 16777215 count), .samples⟩ else ⟨max 1 (min 65535 count), .cycles⟩ := by
  split_ifs
  · exact congrArg (Duration.mk · _) (clampNat_eq (by decide) count)
  · exact congrArg (Duration.mk · _) (clampNat_eq (by decide) count)

theorem channelSetOf_eq (n : Nat) :
    channelSetOf n = if n ≤ 7 then some ⟨n.testBit 0, n.testBit 1, n.testBit 2⟩ else none :=
  if_congr Nat.lt_succ_iff rfl rfl

theorem shapePartOf_eq (table overlay : Nat) :
    shapePartOf table overlay = if table ≤ 15 ∧ overlay ≤ 7 then some ⟨table, overlay⟩ else none :=
  if_congr (and_congr Nat.lt_succ_iff Nat.lt_succ_iff) rfl rfl

theorem captureOf_eq (d : Nat) : (if d < 16 then some d else none) = if d ≤ 15 then some d else none :=
  if_congr Nat.lt_succ_iff rfl rfl

theorem markersOf_eq (m1 m2 : Nat) :
    ((markerActionOf m1).bind fun x => (markerActionOf m2).bind fun y => pure (MarkersPart.mk x y))
      = if m1 ≤ 3 ∧ m2 ≤ 3 then some ⟨[MarkerAction.none, .set, .clear, .pulse].getD m1 .none,
          [MarkerAction.none, .set, .clear, .pulse].getD m2 .none⟩ else none := by
  rw [markerActionOf_eq, markerActionOf_eq, ite_none_bind, ite_none_bind, ite_and]
  rfl

theorem waitPartOf_eq (r : RawStep) : waitPartOf r
    = if 1 ≤ r.waitChannel ∧ r.waitChannel ≤ 3 ∧ r.quantity ≤ 1 ∧ r.relation ≤ 1 ∧ r.onTimeout ≤ 1 then
        some { channel := if r.waitChannel = 1 then .L1 else if r.waitChannel = 2 then .L2 else .L3
               quantity := if r.quantity = 0 then .V else .I
               relation := if r.relation = 0 then .below else .above
               threshold := min r.threshold 32767, consecutive := max 1 (min 255 r.consecutive)
               timeout := r.timeout, onTimeout := if r.onTimeout = 0 then .continue_ else .abort }
      else none := by
  simp only [waitPartOf, channelOf_eq, quantityOf_eq, waitRelationOf_eq, onTimeoutOf_eq, clampNat_zero,
    clampNat_eq (show 1 ≤ 255 by decide), Option.bind_eq_bind, ite_none_bind]
  simp only [ite_and]
  rfl

/-- The record is read when every item exists, and it is then the one held. -/
theorem stepOf_eq_some_iff (r : RawStep) (x : StepRecord) :
    stepOf r = some x ↔ stepNamesExist r ∧ stepHeld r = x := by
  simp only [stepOf, channelSetOf_eq, unitOf_eq, partOf_some, keyOf_eq, shapePartOf_eq, captureOf_eq, partOf_ite,
    waitPartOf_eq, Option.bind_eq_bind, markersOf_eq, syncPartOf_eq, clampNat_zero, durationOf_ite, freqPartOf,
    jumpPartOf, clampFreq, clampNat_eq (show 4000 ≤ 44000 by decide),
    clampInt_eq (show (-1800 : Int) ≤ 1800 by decide), ite_none_bind, Option.ite_none_right_eq_some]
  constructor
  · rintro ⟨mask, unit, sync, ⟨hold, key⟩, level, freq, jump, ⟨shape, library⟩, ⟨markers, actions⟩,
      ⟨capture, descriptor⟩, ⟨wait, condition⟩, opens, ⟨closes, count⟩, record⟩
    exact ⟨⟨mask, unit, sync, hold, level, freq, jump, shape, markers, capture, wait, opens, closes, key, library,
      actions, descriptor, condition, count⟩, Option.some.inj record⟩
  · rintro ⟨⟨mask, unit, sync, hold, level, freq, jump, shape, markers, capture, wait, opens, closes, key, library,
      actions, descriptor, condition, count⟩, record⟩
    exact ⟨mask, unit, sync, ⟨hold, key⟩, level, freq, jump, ⟨shape, library⟩, ⟨markers, actions⟩,
      ⟨capture, descriptor⟩, ⟨wait, condition⟩, opens, ⟨closes, count⟩, congrArg some record⟩

theorem stepOf_of_named {r : RawStep} (h : stepNamesExist r) : stepOf r = some (stepHeld r) :=
  (stepOf_eq_some_iff r _).2 ⟨h, rfl⟩

theorem stepOf_of_not_named {r : RawStep} (h : ¬ stepNamesExist r) : stepOf r = none :=
  Option.eq_none_iff_forall_ne_some.2 fun x read => h ((stepOf_eq_some_iff r x).1 read).1

/-! ### The adjusted parts (R62, R63) -/

/-- The adjusted parts come in the order of the table of R60. -/
theorem adjustedParts_pairwise (r : RawStep) (x : StepRecord) : (adjustedParts r x).Pairwise (· < ·) := by
  have atMost (b : Bool) (k : Nat) : (if b then [k] else []).Sublist [k] := by cases b <;> simp
  have table : [1, 3, 4, 5, 9, 10].Pairwise (· < ·) := by decide
  exact table.sublist
    ((((((atMost _ 1).append (atMost _ 3)).append (atMost _ 4)).append (atMost _ 5)).append (atMost _ 9)).append
      (atMost _ 10))

theorem mem_ite_singleton {adjusted : Prop} [Decidable adjusted] (k position : Nat) :
    k ∈ (if adjusted then [position] else []) ↔ k = position ∧ adjusted := by
  rw [List.mem_ite_nil_right, List.mem_singleton, and_comm]

/-- A part that may be absent was adjusted when it is present and one of its fields was. -/
theorem any_part_iff {α : Type} {presence : Nat} (h : presence ≤ 1) {x : α} {adjusted : α → Bool} {range : Prop}
    (field : adjusted x = true ↔ range) :
    (if presence = 0 then none else some x : Option α).any adjusted = true ↔ presence = 1 ∧ range := by
  obtain rfl | rfl := Nat.le_one_iff_eq_zero_or_eq_one.1 h <;> simp [field]

/-- The duration's range is that of its unit. -/
theorem stepHeld_count_ne_iff {r : RawStep} (h : r.unit ≤ 1) : (stepHeld r).duration.count ≠ r.count
    ↔ r.count = 0 ∨ 16777215 < r.count ∨ (r.unit = 1 ∧ 65535 < r.count) := by
  simp only [stepHeld]
  split_ifs with samples
  · show max 1 (min 16777215 r.count) ≠ r.count ↔ _
    omega
  · show max 1 (min 65535 r.count) ≠ r.count ↔ _
    omega

/-- The parts that the answer names hold a field that R63 adjusts. -/
theorem mem_adjustedParts_iff {r : RawStep} (h : stepNamesExist r) (k : Nat) : k ∈ adjustedParts r (stepHeld r) ↔
    (k = 1 ∧ r.hasSync = 1 ∧ 3599 < r.sync) ∨ (k = 3 ∧ r.hasLevel = 1 ∧ 2000 < r.level)
    ∨ (k = 4 ∧ r.hasFreq = 1 ∧ (r.freq < 4000 ∨ 44000 < r.freq))
    ∨ (k = 5 ∧ r.hasJump = 1 ∧ (r.jump < -1800 ∨ 1800 < r.jump))
    ∨ (k = 9 ∧ (r.count = 0 ∨ 16777215 < r.count ∨ (r.unit = 1 ∧ 65535 < r.count)))
    ∨ (k = 10 ∧ r.hasWait = 1 ∧ (32767 < r.threshold ∨ r.consecutive = 0 ∨ 255 < r.consecutive)) := by
  obtain ⟨-, unit, sync, -, level, freq, jump, -, -, -, wait, -⟩ := h
  have syncs : (stepHeld r).sync.any (fun p => p.angle != r.sync) = true ↔ r.hasSync = 1 ∧ 3599 < r.sync :=
    any_part_iff sync (by simp only [bne_iff_ne]; omega)
  have levels : (stepHeld r).level.any (fun p => p.target != r.level) = true ↔ r.hasLevel = 1 ∧ 2000 < r.level :=
    any_part_iff level (by simp only [bne_iff_ne]; omega)
  have freqs : (stepHeld r).freq.any (fun p => p.target != r.freq) = true
      ↔ r.hasFreq = 1 ∧ (r.freq < 4000 ∨ 44000 < r.freq) :=
    any_part_iff freq (by simp only [bne_iff_ne]; omega)
  have jumps : (stepHeld r).jump.any (fun p => p.angle != r.jump) = true
      ↔ r.hasJump = 1 ∧ (r.jump < -1800 ∨ 1800 < r.jump) :=
    any_part_iff jump (by simp only [bne_iff_ne]; omega)
  have waits : (stepHeld r).wait.any (fun p => p.threshold != r.threshold || p.consecutive != r.consecutive) = true
      ↔ r.hasWait = 1 ∧ (32767 < r.threshold ∨ r.consecutive = 0 ∨ 255 < r.consecutive) :=
    any_part_iff wait (by simp only [Bool.or_eq_true, bne_iff_ne]; omega)
  simp only [adjustedParts, List.mem_append, mem_ite_singleton, syncs, levels, freqs, jumps, waits,
    bne_iff_ne, stepHeld_count_ne_iff unit, or_assoc]

/-! ### WRITE_STEP (R62) -/

theorem exec_writeStep (p : Port) (n : Nat) (r : RawStep) (s : State) :
    exec (.writeStep p n r) s = .next (State.answer p 0x30 (s.writeStep n r)) := rfl

theorem flatten_map_byteItem (l : List Nat) : (l.map byteItem).flatten = l.map (BitVec.ofNat 8) := by
  induction l with
  | nil => rfl
  | cons n l ih => exact congrArg (BitVec.ofNat 8 n :: ·) ih

theorem listItem_map_byteItem (l : List Nat) :
    listItem (l.map byteItem) = BitVec.ofNat 8 l.length :: l.map (BitVec.ofNat 8) := by
  rw [listItem, flatten_map_byteItem, List.length_map]

section
variable {s : State} {n : Nat} {r : RawStep}

theorem State.writeStep_of_bad_operand (h : 255 < n ∨ ¬ stepNamesExist r) :
    s.writeStep n r = (s, Reply.refuse .badArgument) := by
  by_cases named : stepNamesExist r
  · simp only [State.writeStep, stepOf_of_named named]
    exact if_pos (Nat.not_lt.2 (h.resolve_right (not_not.2 named)))
  · simp only [State.writeStep, stepOf_of_not_named named]

theorem State.writeStep_of_held (low : n ≤ 255) (named : stepNamesExist r)
    (held : anyLane (s.rangeHolders n) = true) : s.writeStep n r = (s, Reply.refuse .inUse) := by
  simp only [State.writeStep, stepOf_of_named named]
  rw [if_neg (not_not.2 (Nat.lt_succ_of_le low)), if_pos held]

theorem State.writeStep_of_accepted (low : n ≤ 255) (named : stepNamesExist r)
    (free : anyLane (s.rangeHolders n) = false) : s.writeStep n r
      = ({ s with steps := Store.put s.steps n (stepHeld r) },
         Reply.taken (adjustedParts r (stepHeld r) != []) (byteItem n
           ++ listItem ((adjustedParts r (stepHeld r)).map byteItem))) := by
  simp only [State.writeStep, stepOf_of_named named]
  rw [if_neg (not_not.2 (Nat.lt_succ_of_le low)), free, if_neg Bool.false_ne_true]

end

/-- Settles O23: one equation of `State.writeStep` for each outcome; the record read is the one held
(`stepOf_eq_some_iff`), and `mem_adjustedParts_iff` says which parts the answer names. -/
theorem writeStepReplacesRecord : Obligations.WriteStepReplacesRecord := by
  refine fun p n r s => ⟨fun h => ?_, fun low named => ⟨fun held => ?_, fun free => ?_⟩⟩
  · rw [exec_writeStep, State.writeStep_of_bad_operand h, State.answer_refuse]
  · rw [exec_writeStep, State.writeStep_of_held low named ((s.anyLane_rangeHolders_iff n).2 held), State.answer_refuse]
  · refine ⟨Store.put s.steps n (stepHeld r), adjustedParts r (stepHeld r), ?_, Store.get_put_self _ n _,
      fun m hm => Store.get_put_ne _ _ hm, adjustedParts_pairwise r _, mem_adjustedParts_iff named⟩
    rw [exec_writeStep, State.writeStep_of_accepted low named ((s.anyLane_rangeHolders_eq_false_iff n).2 free),
      State.answer_taken, listItem_map_byteItem, ← ite_not]
    simp [byteItem]

end Sys2Proof.Machine
end

section
/-! PROOF. The commands of Chapter 4 that write: each command's answer per outcome of its checks. -/

namespace Sys2Proof.Machine

/-! ### CLEAR_STEP (R65) -/

theorem exec_clearStep (p : Port) (n : Nat) (s : State) :
    exec (.clearStep p n) s = .next (State.answer p 0x32 (s.clearStep n)) := rfl

section
variable {s : State} {n first count policy : Nat}

theorem State.clearStep_of_bad_operand (h : 255 < n) : s.clearStep n = (s, Reply.refuse .badArgument) :=
  if_pos (Nat.not_lt.2 h)

theorem State.clearStep_of_held (low : n ≤ 255) (held : anyLane (s.rangeHolders n) = true) :
    s.clearStep n = (s, Reply.refuse .inUse) := by
  rw [State.clearStep, if_neg (not_not.2 (Nat.lt_succ_of_le low)), if_pos held]

theorem State.clearStep_of_accepted (low : n ≤ 255) (free : anyLane (s.rangeHolders n) = false) :
    s.clearStep n = ({ s with steps := Store.del s.steps n }, Reply.ok []) := by
  rw [State.clearStep, if_neg (not_not.2 (Nat.lt_succ_of_le low)), free, if_neg Bool.false_ne_true]

/-! ### WRITE_PROGRAM (R69) -/

theorem exec_writeProgramDefine (p : Port) (n first count policy : Nat) (s : State) :
    exec (.writeProgramDefine p n first count policy) s
      = .next (State.answer p 0x33 (s.defineProgram n first count policy)) := rfl

theorem exec_writeProgramUndefine (p : Port) (n : Nat) (s : State) :
    exec (.writeProgramUndefine p n) s = .next (State.answer p 0x33 (s.undefineProgram n)) := rfl

theorem programFrom_of_named (range : first ≤ 255 ∧ 0 < count ∧ first + count ≤ 256) (choice : policy ≤ 1) :
    programFrom first count policy = some ⟨first, count, if policy = 0 then .keep else .restore⟩ := by
  simp only [programFrom, policyOf_eq, if_pos choice]
  exact if_pos (by omega)

theorem programFrom_of_bad_operand (h : 255 < first ∨ count = 0 ∨ 256 < first + count ∨ 1 < policy) :
    programFrom first count policy = none := by
  unfold programFrom
  split
  · next named =>
    rw [policyOf_eq, Option.ite_none_right_eq_some] at named
    exact if_neg (by omega)
  · rfl

theorem State.defineProgram_of_bad_operand
    (h : 7 < n ∨ 255 < first ∨ count = 0 ∨ 256 < first + count ∨ 1 < policy) :
    s.defineProgram n first count policy = (s, Reply.refuse .badArgument) := by
  unfold State.defineProgram
  split
  · rfl
  · next entry =>
    refine if_pos fun low => ?_
    rw [programFrom_of_bad_operand (h.resolve_left (by omega))] at entry
    cases entry

theorem State.defineProgram_of_running {q : Program} (entry : programFrom first count policy = some q) (low : n ≤ 7)
    (running : anyLane (s.runners n) = true) :
    s.defineProgram n first count policy = (s, Reply.refuse .inUse) := by
  simp only [State.defineProgram, entry]
  rw [if_neg (not_not.2 (Nat.lt_succ_of_le low)), if_pos running]

theorem State.defineProgram_of_accepted {q : Program} (entry : programFrom first count policy = some q) (low : n ≤ 7)
    (free : anyLane (s.runners n) = false) : s.defineProgram n first count policy
      = ({ s with programs := Store.put s.programs n q }, Reply.ok (programReport (some q))) := by
  simp only [State.defineProgram, entry]
  rw [if_neg (not_not.2 (Nat.lt_succ_of_le low)), free, if_neg Bool.false_ne_true, programItem_eq]

theorem State.undefineProgram_of_bad_operand (h : 7 < n) : s.undefineProgram n = (s, Reply.refuse .badArgument) :=
  if_pos (Nat.not_lt.2 h)

theorem State.undefineProgram_of_running (low : n ≤ 7) (running : anyLane (s.runners n) = true) :
    s.undefineProgram n = (s, Reply.refuse .inUse) := by
  rw [State.undefineProgram, if_neg (not_not.2 (Nat.lt_succ_of_le low)), if_pos running]

theorem State.undefineProgram_of_accepted (low : n ≤ 7) (free : anyLane (s.runners n) = false) : s.undefineProgram n
    = ({ s with programs := Store.del s.programs n }, Reply.ok (programReport none)) := by
  rw [State.undefineProgram, if_neg (not_not.2 (Nat.lt_succ_of_le low)), free, if_neg Bool.false_ne_true,
    programItem_eq]

end

/-- Settles O24: one equation of `State.clearStep`, `State.defineProgram` and `State.undefineProgram` for each
outcome. -/
theorem storeAndDirectoryWrites : Obligations.StoreAndDirectoryWrites := by
  refine fun p n s => ⟨fun h => ?_, fun low held => ?_, fun low free => ?_,
    fun first count policy => ⟨fun h => ?_, fun low hf hc hs hp => ?_⟩,
    fun h => ?_, fun low running => ?_, fun low free => ?_⟩
  · rw [exec_clearStep, State.clearStep_of_bad_operand h, State.answer_refuse]
  · rw [exec_clearStep, State.clearStep_of_held low ((s.anyLane_rangeHolders_iff n).2 held), State.answer_refuse]
  · refine ⟨Store.del s.steps n, ?_, Store.get_del_self _ n, fun m hm => Store.get_del_ne _ hm⟩
    rw [exec_clearStep, State.clearStep_of_accepted low ((s.anyLane_rangeHolders_eq_false_iff n).2 free),
      State.answer_ok]
  · rw [exec_writeProgramDefine, State.defineProgram_of_bad_operand h, State.answer_refuse]
  · have entry := programFrom_of_named ⟨hf, hc, hs⟩ hp
    refine ⟨fun running => ?_, fun free => ?_⟩
    · rw [exec_writeProgramDefine, State.defineProgram_of_running entry low ((s.anyLane_runners_iff n).2 running),
        State.answer_refuse]
    · refine ⟨Store.put s.programs n ⟨first, count, if policy = 0 then .keep else .restore⟩, ?_,
        Store.get_put_self _ n _, fun m hm => Store.get_put_ne _ _ hm⟩
      rw [exec_writeProgramDefine,
        State.defineProgram_of_accepted entry low ((s.anyLane_runners_eq_false_iff n).2 free), State.answer_ok]
      obtain rfl | rfl : policy = 0 ∨ policy = 1 := by omega
      · rfl
      · rfl
  · rw [exec_writeProgramUndefine, State.undefineProgram_of_bad_operand h, State.answer_refuse]
  · rw [exec_writeProgramUndefine, State.undefineProgram_of_running low ((s.anyLane_runners_iff n).2 running),
      State.answer_refuse]
  · refine ⟨Store.del s.programs n, ?_, Store.get_del_self _ n, fun m hm => Store.get_del_ne _ hm⟩
    rw [exec_writeProgramUndefine,
      State.undefineProgram_of_accepted low ((s.anyLane_runners_eq_false_iff n).2 free), State.answer_ok]
    rfl

end Sys2Proof.Machine
end

section
/-! PROOF. What a lane may become and what its port is told, said once: `Lane.Moves` is what anything but a START or a reset
makes of a lane record, `State.Announces` adds that no pending alert is lost and that going HELD and going IDLE alert the
originating port (R110, R178). Every part of a sample event, every ending of lanes and every lane command announces. -/

namespace Sys2Proof.Machine

/-! ### Pending alerts (R178) -/

/-- Alert `a` is pending, with the lane or channel that it carries. -/
def Alerts.has (x : Alerts) : Alert → Prop
  | .laneEnded l => x.kinds.laneEnded = true ∧ x.ended.get l = true
  | .laneHeld l => x.kinds.laneHeld = true ∧ x.held.get l = true
  | .trip => x.kinds.trip = true
  | .captureEnded => x.kinds.captureEnded = true
  | .captureMissed => x.kinds.captureMissed = true
  | .clipping c => x.kinds.clipping = true ∧ x.clipped.get c = true

theorem PerLane.get_set {α : Type} (x : PerLane α) (l m : LaneId) (v : α) :
    (x.set l v).get m = if m = l then v else x.get m := by
  split_ifs with h
  · rw [h, PerLane.get_set_self]
  · exact PerLane.get_set_ne x v h

theorem addAlert_has_self (x : Alerts) (a : Alert) : (addAlert x a).has a := by
  cases a <;> simp [addAlert, Alerts.has]

/-- A raised alert takes no other from the pending set. -/
theorem Alerts.has.addAlert {x : Alerts} {b : Alert} (h : x.has b) (a : Alert) : (addAlert x a).has b := by
  cases a <;> cases b <;> simp_all [Machine.addAlert, Alerts.has, PerLane.get_set, PerChannel.get_set]

/-- Alert `a` is pending at port `p`. -/
def State.alerted (s : State) (p : Port) (a : Alert) : Prop := (s.ports.get p).alerts.has a

theorem State.alerted_of_ports {s t : State} (h : t.ports = s.ports) {p : Port} {a : Alert} (k : s.alerted p a) :
    t.alerted p a := by rwa [State.alerted, h]

theorem State.alerted_alert_self (s : State) (p : Port) (a : Alert) : (s.alert p a).alerted p a := by
  rw [State.alerted, State.alert_get_self]
  exact addAlert_has_self _ a

theorem State.alerted.alert {s : State} {q : Port} {b : Alert} (h : s.alerted q b) (p : Port) (a : Alert) :
    (s.alert p a).alerted q b := by
  unfold State.alerted
  by_cases hq : q = p
  · rw [hq, State.alert_get_self]
    exact Alerts.has.addAlert (hq ▸ h) a
  · rw [State.alert_get_ne s a hq]
    exact h

/-- A response takes no alert from a pending set. -/
theorem State.alerted_hold (s : State) (p q : Port) (r : Response) (a : Alert) :
    (s.hold p r).alerted q a ↔ s.alerted q a := by
  rw [State.alerted, State.alerts_hold]
  rfl

/-! ### Lane records -/

/-- What a lane record may become by anything but a START or a reset: it stands but for its end record, it runs on over the
same channels for the same port, or it is IDLE with its end record alone (R79, R99). -/
inductive Lane.Moves (x : Lane) : Lane → Prop
  | ending (e : EndRecord) : Lane.Moves x { x with ending := e }
  | runs {y : Lane} : x.running = true → y.running = true → y.channels = x.channels → y.origin = x.origin →
      Lane.Moves x y
  | idles (e : EndRecord) : Lane.Moves x { Lane.reset with ending := e }

theorem Lane.Moves.refl (x : Lane) : x.Moves x := .ending x.ending

theorem Lane.Moves.trans {x y z : Lane} (h : x.Moves y) (k : y.Moves z) : x.Moves z := by
  cases k with
  | idles e => exact .idles e
  | ending e =>
    cases h with
    | ending => exact .ending e
    | runs hx hy hc ho => exact .runs hx hy hc ho
    | idles => exact .idles e
  | runs hy hz hc ho =>
    cases h with
    | ending => exact .runs hy hz hc ho
    | runs hx _ hc' ho' => exact .runs hx hz (hc.trans hc') (ho.trans ho')
    | idles => cases hy

/-- A lane that runs afterwards ran before, over the same channels, for the same port. -/
theorem Lane.Moves.ran {x y : Lane} (h : x.Moves y) (hy : y.running = true) :
    x.running = true ∧ y.channels = x.channels ∧ y.origin = x.origin := by
  cases h with
  | ending => exact ⟨hy, rfl, rfl⟩
  | runs hx _ hc ho => exact ⟨hx, hc, ho⟩
  | idles => cases hy

/-- A channel bound afterwards was bound before. -/
theorem Lane.Moves.binds {x y : Lane} (h : x.Moves y) {c : Channel} (hb : y.binds c = true) : x.binds c = true := by
  rw [Lane.binds, Bool.and_eq_true] at hb ⊢
  obtain ⟨hx, hc, -⟩ := h.ran hb.1
  exact ⟨hx, hc ▸ hb.2⟩

/-- An IDLE record holds nothing but its end record (R79, R99). -/
def Lane.Rests (x : Lane) : Prop := x.state = .idle → x = x.toIdle

theorem Lane.Rests.of_running {x : Lane} (h : x.running = true) : x.Rests :=
  fun idle => absurd idle ((Lane.running_iff x).1 h)

theorem Lane.Moves.rests {x y : Lane} (h : x.Moves y) (hx : x.Rests) : y.Rests := by
  cases h with
  | ending e =>
    intro idle
    have same := hx idle
    show _ = { Lane.reset with ending := e }
    rw [same]
    rfl
  | runs _ hy => exact .of_running hy
  | idles => exact fun _ => rfl

/-- The soundness of the lanes: no channel bound twice, and every record rests. -/
theorem State.lanesSound_iff (s : State) : s.lanesSound ↔
    (∀ (l m : LaneId) (c : Channel), (s.lanes.get l).binds c = true → (s.lanes.get m).binds c = true → l = m)
    ∧ ∀ l : LaneId, (s.lanes.get l).Rests := Iff.rfl

theorem State.lanesSound_of_moves {s t : State} (h : s.lanesSound)
    (moves : ∀ l : LaneId, (s.lanes.get l).Moves (t.lanes.get l)) : t.lanesSound :=
  ⟨fun l m c hl hm => h.1 l m c ((moves l).binds hl) ((moves m).binds hm), fun l => (moves l).rests (h.2 l)⟩

/-! ### Announced changes of the lanes -/

/-- The lanes move, no pending alert is lost, and a lane that goes HELD or IDLE alerts its originating port (R110). -/
structure State.Announces (s t : State) : Prop where
  moves (l : LaneId) : (s.lanes.get l).Moves (t.lanes.get l)
  alerts {p : Port} {a : Alert} : s.alerted p a → t.alerted p a
  held {l : LaneId} {p : Port} : (s.lanes.get l).origin = some p → (s.lanes.get l).state ≠ .held →
    (t.lanes.get l).state = .held → t.alerted p (.laneHeld l)
  ended {l : LaneId} {p : Port} : (s.lanes.get l).origin = some p → (s.lanes.get l).state ≠ .idle →
    (t.lanes.get l).state = .idle → t.alerted p (.laneEnded l)

/-- The lanes stand but for their end records, and no pending alert is lost. -/
theorem State.Announces.of_ending {s t : State} (lanes : ∀ l : LaneId, ∃ e : EndRecord,
      t.lanes.get l = { s.lanes.get l with ending := e })
    (alerts : ∀ (p : Port) (a : Alert), s.alerted p a → t.alerted p a) : s.Announces t := by
  have state : ∀ l : LaneId, (t.lanes.get l).state = (s.lanes.get l).state := fun l => by
    obtain ⟨e, he⟩ := lanes l
    rw [he]
  refine ⟨fun l => ?_, alerts _ _, fun _ hs ht => absurd (state _ ▸ ht) hs, fun _ hs ht => absurd (state _ ▸ ht) hs⟩
  obtain ⟨e, he⟩ := lanes l
  rw [he]
  exact .ending e

theorem State.Announces.of_lanes {s t : State} (lanes : t.lanes = s.lanes)
    (alerts : ∀ (p : Port) (a : Alert), s.alerted p a → t.alerted p a) : s.Announces t :=
  .of_ending (fun l => ⟨(s.lanes.get l).ending, by rw [lanes]⟩) alerts

theorem State.Announces.of_eq {s t : State} (lanes : t.lanes = s.lanes) (ports : t.ports = s.ports) : s.Announces t :=
  .of_lanes lanes fun _ _ => State.alerted_of_ports ports

theorem State.Announces.refl (s : State) : s.Announces s := .of_eq rfl rfl

theorem State.Announces.trans {s t u : State} (h : s.Announces t) (k : t.Announces u) : s.Announces u where
  moves l := (h.moves l).trans (k.moves l)
  alerts a := k.alerts (h.alerts a)
  held {l p} origin before after := by
    by_cases held : (t.lanes.get l).state = .held
    · exact k.alerts (h.held origin before held)
    · have ran := (k.moves l).ran ((Lane.running_iff _).2 (by rw [after]; decide))
      exact k.held (((h.moves l).ran ran.1).2.2.trans origin) held after
  ended {l p} origin before after := by
    by_cases idle : (t.lanes.get l).state = .idle
    · exact k.alerts (h.ended origin before idle)
    · exact k.ended (((h.moves l).ran ((Lane.running_iff _).2 idle)).2.2.trans origin) idle after

/-! ### Alerts and responses -/

theorem State.announces_alert (s : State) (p : Port) (a : Alert) : s.Announces (s.alert p a) :=
  .of_lanes rfl fun _ _ h => h.alert p a

theorem State.announces_alertBoth (s : State) (a : Alert) : s.Announces (s.alertBoth a) :=
  (s.announces_alert .A a).trans (State.announces_alert _ .B a)

theorem State.announces_alertOrigin (s : State) (o : Option Port) (a : Alert) : s.Announces (s.alertOrigin o a) := by
  cases o with
  | none => exact .refl s
  | some p => exact s.announces_alert p a

theorem State.announces_answer (p : Port) (code : Nat) (v : State × Reply) :
    v.1.Announces (State.answer p code v) :=
  .of_lanes rfl fun _ _ => (State.alerted_hold _ _ _ _ _).2

/-! ### Lanes that run on, go HELD and go IDLE -/

/-- Record `y` is running record `x` at some point of its run. -/
structure Lane.RunsOn (x y : Lane) : Prop where
  running : x.running = true
  channels : y.channels = x.channels
  origin : y.origin = x.origin

theorem State.announces_setLane (s : State) {l : LaneId} {y : Lane} (h : (s.lanes.get l).RunsOn y)
    (running : y.state ≠ .idle) (held : y.state = .held → (s.lanes.get l).state = .held) :
    s.Announces (s.setLane l y) := by
  have lanes : ∀ m : LaneId, (s.setLane l y).lanes.get m = if m = l then y else s.lanes.get m :=
    fun m => PerLane.get_set _ _ _ _
  refine ⟨fun m => ?_, id, fun {m} _ _ before after => ?_, fun {m} _ _ before after => ?_⟩
  · rw [lanes]
    split_ifs with hm
    · subst hm
      exact .runs h.running ((Lane.running_iff y).2 running) h.channels h.origin
    · exact .refl _
  · rw [lanes] at after
    split_ifs at after with hm
    · subst hm
      exact absurd (held after) before
    · exact absurd after before
  · rw [lanes] at after
    split_ifs at after with hm
    · exact absurd after running
    · exact absurd after before

theorem State.announces_holdLane (s : State) {l : LaneId} {y : Lane} (r : HoldReason) (f : HeldFrom)
    (h : (s.lanes.get l).RunsOn y) : s.Announces (s.holdLane l y r f) := by
  have lanes : ∀ m : LaneId, (s.holdLane l y r f).lanes.get m = if m = l then y.toHeld r f else s.lanes.get m := by
    intro m
    rw [State.holdLane, State.lanes_alertOrigin]
    exact PerLane.get_set _ _ _ _
  refine ⟨fun m => ?_, (State.announces_alertOrigin (s.setLane l (y.toHeld r f)) y.origin _).alerts,
    fun {m} p origin before after => ?_, fun {m} _ _ before after => ?_⟩
  · rw [lanes]
    split_ifs with hm
    · subst hm
      exact .runs h.running rfl h.channels h.origin
    · exact .refl _
  · rw [lanes] at after
    split_ifs at after with hm
    · subst hm
      rw [State.holdLane, h.origin, origin]
      exact State.alerted_alert_self _ _ _
    · exact absurd after before
  · rw [lanes] at after
    split_ifs at after with hm
    · cases after
    · exact absurd after before

theorem State.announces_goIdle (s : State) (l : LaneId) : s.Announces (s.goIdle l) := by
  have lanes : ∀ m : LaneId, (s.goIdle l).lanes.get m = if m = l then (s.lanes.get l).toIdle else s.lanes.get m := by
    intro m
    rw [State.lanes_goIdle]
    exact PerLane.get_set _ _ _ _
  refine ⟨fun m => ?_, (State.announces_alertOrigin (s.setLane l (s.lanes.get l).toIdle) _ _).alerts,
    fun {m} _ _ before after => ?_, fun {m} p origin before after => ?_⟩
  · rw [lanes]
    split_ifs with hm
    · exact .idles _
    · exact .refl _
  · rw [lanes] at after
    split_ifs at after with hm
    · cases after
    · exact absurd after before
  · rw [lanes] at after
    split_ifs at after with hm
    · subst hm
      simp only [State.goIdle, origin]
      exact State.alerted_alert_self _ _ _
    · exact absurd after before

/-! ### Endings of lanes and the trip unit -/

theorem State.announces_revert (s : State) (x : Lane) (c : Channel) : s.Announces (s.revert x c) := by
  rw [State.revert_frame]
  exact .of_eq rfl rfl

theorem State.announces_revertUnreverted (s : State) (x : Lane) (c : Channel) :
    s.Announces (s.revertUnreverted x c) := by
  rw [State.revertUnreverted_frame]
  exact .of_eq rfl rfl

theorem State.announces_endLane (r : EndReason) (s : State) (l : LaneId) : s.Announces (s.endLane r l) := by
  by_cases running : (s.lanes.get l).running = true
  · unfold State.endLane
    dsimp only
    rw [if_pos running]
    have written : ∀ e : EndRecord, s.Announces (s.setLane l { s.lanes.get l with ending := e }) := fun e =>
      s.announces_setLane ⟨running, rfl, rfl⟩ ((Lane.running_iff _).1 running) id
    have reverted : ∀ (u : State) (x : Lane), u.Announces
        (((u.revertUnreverted x .L1).revertUnreverted x .L2).revertUnreverted x .L3) := fun u x =>
      ((u.announces_revertUnreverted x .L1).trans (State.announces_revertUnreverted _ x .L2)).trans
        (State.announces_revertUnreverted _ x .L3)
    exact ((written _).trans (reverted _ _)).trans (State.announces_goIdle _ l)
  · rw [State.endLane_of_idle r s l (by simpa using running)]
    exact .refl s

theorem State.announces_endLanes (r : EndReason) (s : State) : s.Announces (s.endLanes r) :=
  ((State.announces_endLane r s .lane0).trans (State.announces_endLane r _ .lane1)).trans
    (State.announces_endLane r _ .lane2)

theorem State.announces_enterTripped (s : State) (c : Cause) (p : Option Port) : s.Announces (s.enterTripped c p) := by
  unfold State.enterTripped
  have entered : s.Announces (s.setTrip { s.trip with
      state := .tripped, causes := CauseSet.empty.add c, first := ⟨c, p⟩, outputs := PerChannel.all .parked }) :=
    .of_eq rfl rfl
  have parked : ∀ u : State, u.Announces u.parkFrames := fun u => .of_eq rfl rfl
  exact ((entered.trans (State.announces_endLanes _ _)).trans (parked _)).trans (State.announces_alertBoth _ _)

theorem State.announces_takeCause (s : State) (c : Cause) (p : Option Port) : s.Announces (s.takeCause c p) := by
  unfold State.takeCause
  split
  · exact s.announces_enterTripped c p
  · exact .of_eq rfl rfl

theorem State.announces_takeSource (s : State) (c : Cause) (on : Bool) : s.Announces (s.takeSource c on) := by
  unfold State.takeSource
  split
  · split
    · exact .refl s
    · have joined : s.Announces (s.setTrip { s.trip with active := s.trip.active.put c true }) := .of_eq rfl rfl
      exact joined.trans (State.announces_takeCause _ _ _)
  · exact .of_eq rfl rfl

theorem State.announces_takeLinks (s : State) (o : LinkOrder) : s.Announces (s.takeLinks o) := by
  have one : ∀ (t : State) (k : Channel), t.Announces (t.takeLink k) := fun t k =>
    (t.announces_takeSource _ _).trans (State.announces_takeSource _ _ _)
  exact ((one _ _).trans (one _ _)).trans (one _ _)

/-! ### The capture engine -/

theorem State.announces_endRun (s : State) : s.Announces s.endRun := by
  have idle : s.Announces (s.setEngine { s.engine with isActive := false, current := none }) := .of_eq rfl rfl
  exact idle.trans (State.announces_alertOrigin _ _ _)

theorem State.announces_stopAny (s : State) : s.Announces s.stopAny := by
  unfold State.stopAny
  split
  · have closed : ∀ d : Nat, s.Announces (s.closePass d .stopped) := fun d => .of_eq rfl rfl
    exact (closed _).trans (State.announces_endRun _)
  · exact .refl s

theorem State.announces_endPass (s : State) (d : Nat) (x : Descriptor) (r : PassReason) :
    s.Announces (s.endPass d x r) := by
  have closed : s.Announces (s.closePass d r) := .of_eq rfl rfl
  unfold State.endPass State.followNext
  refine closed.trans ?_
  split
  · split
    · exact .of_eq rfl rfl
    · exact State.announces_endRun _
  · exact State.announces_endRun _

theorem State.announces_takeOffer (s : State) (d : Nat) (x : Descriptor) (o : Offer) :
    s.Announces (s.takeOffer d x o).st := by
  have fill : ∀ u : State, u.Announces (u.fillCheck d x).st := by
    intro u
    unfold State.fillCheck
    split
    · exact u.announces_endPass d x .full
    · exact .refl u
  have counted : s.Announces (s.setEngine { s.engine with phase := 0 }) := .of_eq rfl rfl
  have stored : ∀ (u : State) (w : Int) (v : Option Int), u.Announces (u.storeWord x w v) := fun _ _ _ =>
    .of_eq rfl rfl
  unfold State.takeOffer
  split
  · exact .of_eq rfl rfl
  · refine counted.trans ?_
    unfold State.passOffer
    split
    · exact (stored _ _ _).trans (fill _)
    · split
      · exact (stored _ _ _).trans (State.announces_endPass _ _ _ _)
      · split
        · exact (stored _ _ _).trans (fill _)
        · exact .refl _

theorem State.announces_laneStart (s : State) (l : LaneId) (p : Port) (d : Nat) : s.Announces (s.laneStart l p d) := by
  unfold State.laneStart
  split
  · exact .of_eq rfl rfl
  · have marked : ∀ (e : Engine) (r : EndRecord),
        s.Announces ((s.setEngine e).setLane l { s.lanes.get l with ending := r }) := by
      refine fun e r => .of_ending (fun m => ?_) fun _ _ => id
      by_cases hm : m = l
      · subst hm
        exact ⟨r, PerLane.get_set_self _ _ _⟩
      · exact ⟨(s.lanes.get m).ending, PerLane.get_set_ne _ _ hm⟩
    exact (marked _ _).trans (State.announces_alert _ _ _)

end Sys2Proof.Machine
end

section
/-! PROOF. Every part of a sample event announces (`State.Announces`), and each lane asks the capture engine for no start
but its own; so does the whole of it (`tick_announces`). -/

namespace Sys2Proof.Machine

/-! ### The lanes' work -/

/-- Work of lane `l` announces, and every capture start that it asks for is the lane's own (R89). -/
structure Tick.Announces (l : LaneId) (t u : Tick) : Prop where
  st : t.st.Announces u.st
  starts {e : LaneId × Port × Nat} : e ∈ u.starts → e ∈ t.starts ∨ e.1 = l

theorem Tick.Announces.refl (l : LaneId) (t : Tick) : t.Announces l t := ⟨.refl _, .inl⟩

theorem Tick.Announces.trans {l : LaneId} {t u v : Tick} (h : t.Announces l u) (k : u.Announces l v) :
    t.Announces l v :=
  ⟨h.st.trans k.st, fun he => (k.starts he).elim h.starts .inr⟩

theorem Tick.announces_withState (l : LaneId) {t : Tick} {s : State} (h : t.st.Announces s) :
    t.Announces l (t.withState s) := ⟨h, .inl⟩

theorem Tick.announces_happens (l : LaneId) (t : Tick) (e : TickEvent) : t.Announces l (t.happens e) :=
  ⟨.refl _, .inl⟩

/-- A running lane takes another state of its run. -/
theorem Tick.announces_setLane {l : LaneId} {t : Tick} {y : Lane} (h : (t.st.lanes.get l).RunsOn y)
    (running : y.state ≠ .idle) (held : y.state = .held → (t.st.lanes.get l).state = .held) :
    t.Announces l (t.setLane l y) := Tick.announces_withState l (t.st.announces_setLane h running held)

theorem Tick.applyMarkers_stands (t : Tick) (step : StepRecord) :
    (t.applyMarkers step).st.lanes = t.st.lanes ∧ (t.applyMarkers step).st.ports = t.st.ports
    ∧ (t.applyMarkers step).starts = t.starts := by
  unfold Tick.applyMarkers
  split
  · exact ⟨rfl, rfl, rfl⟩
  · simp

theorem Tick.announces_applyCapture (l : LaneId) (t : Tick) (step : StepRecord) (x : Lane) :
    t.Announces l (t.applyCapture step l x) := by
  unfold Tick.applyCapture
  split
  · refine ⟨.refl _, fun he => ?_⟩
    rcases List.mem_append.1 he with he | he
    · exact .inl he
    · exact .inr (by rw [List.mem_singleton.1 he])
  · exact .refl l t

theorem Tick.applyCapture_st (t : Tick) (step : StepRecord) (l : LaneId) (x : Lane) :
    (t.applyCapture step l x).st = t.st := by
  unfold Tick.applyCapture
  split <;> rfl

theorem Tick.announces_applyStep {l : LaneId} {t : Tick} {x : Lane} (step : StepRecord)
    (h : (t.st.lanes.get l).RunsOn x) : t.Announces l (t.applyStep l x step) := by
  have fields : (t.applyFields step x).st.lanes = t.st.lanes ∧ (t.applyFields step x).st.ports = t.st.ports
      ∧ (t.applyFields step x).starts = t.starts := by rw [Tick.applyFields_frame]; exact ⟨rfl, rfl, rfl⟩
  obtain ⟨lanes, ports, starts⟩ := (t.applyFields step x).applyMarkers_stands step
  have marked : t.Announces l ((t.applyFields step x).applyMarkers step) :=
    ⟨.of_eq (lanes.trans fields.1) (ports.trans fields.2.1), fun he => .inl (by rwa [starts, fields.2.2] at he)⟩
  have noted := marked.trans (Tick.announces_applyCapture l _ step x)
  refine noted.trans (Tick.announces_setLane ?_ (fun e => by cases e) fun e => by cases e)
  show (((((t.applyFields step x).applyMarkers step).applyCapture step l x).st.lanes).get l).RunsOn _
  rw [Tick.applyCapture_st, lanes, fields.1]
  exact ⟨h.running, h.channels, h.origin⟩

theorem Tick.announces_align {l : LaneId} {t : Tick} {x : Lane} (step : StepRecord) (h : (t.st.lanes.get l).RunsOn x) :
    t.Announces l (t.align l x step) := by
  unfold Tick.align
  split
  · exact Tick.announces_applyStep step h
  · exact Tick.announces_setLane ⟨h.running, h.channels, h.origin⟩ (fun e => by cases e) fun e => by cases e

theorem Tick.announces_enter {l : LaneId} {t : Tick} {x : Lane} (pos : Nat) (push : Bool)
    (h : (t.st.lanes.get l).RunsOn x) : t.Announces l (t.enter l x pos push) := by
  unfold Tick.enter
  split
  · exact .refl l t
  · dsimp only
    split
    · exact Tick.announces_withState l (t.st.announces_holdLane _ _ ⟨h.running, h.channels, h.origin⟩)
    · exact Tick.announces_align _ ⟨h.running, h.channels, h.origin⟩

theorem Tick.announces_complete {l : LaneId} {t : Tick} {x : Lane} (policy : ExitPolicy)
    (h : (t.st.lanes.get l).RunsOn x) (running : x.state ≠ .idle) (held : x.state ≠ .held) :
    t.Announces l (t.complete l x policy) := by
  cases policy with
  | keep =>
    refine Tick.announces_withState l (State.Announces.trans ?_ (State.announces_goIdle _ l))
    exact t.st.announces_setLane ⟨h.running, h.channels, h.origin⟩ running fun e => absurd e held
  | restore =>
    exact Tick.announces_setLane ⟨h.running, h.channels, h.origin⟩ (fun e => by cases e) fun e => by cases e

theorem Tick.announces_finish {l : LaneId} {t : Tick} {x : Lane} (step : StepRecord)
    (h : (t.st.lanes.get l).RunsOn x) (running : x.state ≠ .idle) (held : x.state ≠ .held) :
    t.Announces l (t.finish l x step) := by
  unfold Tick.finish
  split
  · dsimp only
    split
    · exact Tick.announces_enter _ _ ⟨h.running, h.channels, h.origin⟩
    · split
      · exact Tick.announces_enter _ _ ⟨h.running, h.channels, h.origin⟩
      · exact Tick.announces_complete _ ⟨h.running, h.channels, h.origin⟩ running held
  · exact .refl l t

theorem Tick.announces_dwellWork {l : LaneId} {t : Tick} (step : StepRecord)
    (hx : (t.st.lanes.get l).state = .dwell) : t.Announces l (t.dwellWork l (t.st.lanes.get l) step) := by
  have running : (t.st.lanes.get l).running = true := (Lane.running_iff _).2 (by rw [hx]; decide)
  unfold Tick.dwellWork
  split
  · exact .refl l t
  · dsimp only
    split_ifs
    · exact .refl l t
    · unfold Tick.dwellDone
      dsimp only
      refine (Tick.announces_happens l t (.dwellEnd l)).trans ?_
      split
      · exact Tick.announces_setLane ⟨running, rfl, rfl⟩ (fun e => by cases e) fun e => by cases e
      · exact Tick.announces_finish _ ⟨running, rfl, rfl⟩ (by rw [hx]; decide) (by rw [hx]; decide)
    · exact Tick.announces_setLane ⟨running, rfl, rfl⟩ (by rw [hx]; decide) fun e => e

theorem Tick.announces_timeoutWork {l : LaneId} {t : Tick} {x : Lane} (step : StepRecord) (w : WaitPart)
    (h : (t.st.lanes.get l).RunsOn x) (hx : x.state = .waiting) : t.Announces l (t.timeoutWork l x step w) := by
  have counted : ∀ n : Nat, t.Announces l (t.setLane l { x with timeout := n }) := fun n =>
    Tick.announces_setLane ⟨h.running, h.channels, h.origin⟩ (by rw [hx]; decide) fun e => by rw [hx] at e; cases e
  unfold Tick.timeoutWork
  dsimp only
  split_ifs
  · unfold Tick.timedOut
    dsimp only
    refine (Tick.announces_happens l t (.waitTimeout l)).trans ?_
    split
    · exact Tick.announces_finish _ ⟨h.running, h.channels, h.origin⟩ (by rw [hx]; decide) (by rw [hx]; decide)
    · exact Tick.announces_setLane ⟨h.running, h.channels, h.origin⟩ (fun e => by cases e) fun e => by cases e
  · exact counted _
  · exact counted x.timeout

theorem Tick.announces_waitWork {l : LaneId} {t : Tick} (step : StepRecord)
    (hx : (t.st.lanes.get l).state = .waiting) : t.Announces l (t.waitWork l (t.st.lanes.get l) step) := by
  have running : (t.st.lanes.get l).running = true := (Lane.running_iff _).2 (by rw [hx]; decide)
  unfold Tick.waitWork
  split
  · exact .refl l t
  · dsimp only
    split_ifs
    · refine (Tick.announces_happens l t (.waitMet l)).trans ?_
      exact Tick.announces_finish _ ⟨running, rfl, rfl⟩ (by rw [hx]; decide) (by rw [hx]; decide)
    · exact Tick.announces_timeoutWork _ _ ⟨running, rfl, rfl⟩ hx

/-- The state after the reverts of a CLOSING lane at this sample event (R42). -/
def Tick.closingReverts (t : Tick) (x : Lane) : State :=
  let f (s : State) (c : Channel) : State := if t.revertsNow x c then s.revert x c else s
  f (f (f t.st .L1) .L2) .L3

/-- The channels of a CLOSING lane that have reverted after this sample event (R42, R100). -/
def Tick.revertedAfter (t : Tick) (x : Lane) : ChannelSet :=
  ⟨x.reverted.l1 || t.revertsNow x .L1, x.reverted.l2 || t.revertsNow x .L2, x.reverted.l3 || t.revertsNow x .L3⟩

theorem Tick.closingWork_eq (t : Tick) (l : LaneId) (x : Lane) : t.closingWork l x = t.withState
    (if t.revertedAfter x = x.channels then
      ((t.closingReverts x).setLane l { x with reverted := t.revertedAfter x }).goIdle l
    else (t.closingReverts x).setLane l { x with reverted := t.revertedAfter x }) := rfl

/-- The reverts of a CLOSING lane change the channels. -/
theorem Tick.closingReverts_frame (t : Tick) (x : Lane) :
    t.closingReverts x = { t.st with chans := (t.closingReverts x).chans } := by
  have one : ∀ (s : State) (c : Channel), (if t.revertsNow x c then s.revert x c else s)
      = { s with chans := (if t.revertsNow x c then s.revert x c else s).chans } := by
    intro s c
    split
    · exact s.revert_frame x c
    · rfl
  unfold Tick.closingReverts
  dsimp only
  rw [one _ .L3, one _ .L2, one _ .L1]

theorem Tick.announces_closingWork {l : LaneId} {t : Tick} (hx : (t.st.lanes.get l).state = .closing) :
    t.Announces l (t.closingWork l (t.st.lanes.get l)) := by
  have running : (t.st.lanes.get l).running = true := (Lane.running_iff _).2 (by rw [hx]; decide)
  have lanes : (t.closingReverts (t.st.lanes.get l)).lanes = t.st.lanes := by rw [Tick.closingReverts_frame]
  have reverts : t.st.Announces (t.closingReverts (t.st.lanes.get l)) :=
    .of_eq lanes (by rw [Tick.closingReverts_frame])
  have marked : ∀ b : ChannelSet, t.st.Announces
      ((t.closingReverts (t.st.lanes.get l)).setLane l { t.st.lanes.get l with reverted := b }) := by
    refine fun b => reverts.trans (State.announces_setLane _ ?_ (by rw [hx]; decide) fun e => ?_)
    · rw [lanes]
      exact ⟨running, rfl, rfl⟩
    · rwa [lanes]
  rw [Tick.closingWork_eq]
  refine Tick.announces_withState l ?_
  split
  · exact (marked _).trans (State.announces_goIdle _ l)
  · exact marked _

theorem Tick.announces_laneWork (t : Tick) (l : LaneId) : t.Announces l (t.laneWork l) := by
  unfold Tick.laneWork
  dsimp only
  split
  · rename_i hx _
    exact Tick.announces_align _ ⟨(Lane.running_iff _).2 (by rw [hx]; decide), rfl, rfl⟩
  · rename_i hx _
    exact Tick.announces_dwellWork _ hx
  · rename_i hx _
    exact Tick.announces_waitWork _ hx
  · rename_i hx
    exact Tick.announces_closingWork hx
  · exact .refl l t

/-! ### The channels' work -/

/-- Stages 1 and 2 before the lanes leave the ports and the capture starts; the lanes stand (`Tick.Opened`). -/
theorem Tick.opening_stands (t : Tick) (c : Channel) :
    (t.opening c).st.ports = t.st.ports ∧ (t.opening c).starts = t.starts := by
  have adv : (t.advance c).adv.get c = some (t.nextAdvance c) := by rw [Tick.advance_eq]; simp
  obtain ⟨e, -, hs⟩ := (t.advance c).senseWork_eq c adv
  have adv' : ((t.advance c).senseWork c).adv.get c = some (t.nextAdvance c) := by rw [hs]; exact adv
  have hp := ((t.advance c).senseWork c).promote_eq c adv'
  have adv'' : (((t.advance c).senseWork c).promote c).adv.get c = some (t.nextAdvance c) := by rw [hp]; exact adv'
  have hu := (((t.advance c).senseWork c).promote c).unpark_eq c adv''
  unfold Tick.opening
  rw [hu, hp, hs, Tick.advance_eq]
  exact ⟨rfl, rfl⟩

theorem Tick.announces_opening (t : Tick) (c : Channel) : t.st.Announces (t.opening c).st :=
  .of_eq (t.opening_spec c).lanes (t.opening_stands c).1

theorem State.announces_countClip (s : State) (c : Channel) : s.Announces (s.countClip c) := by
  have counted : ∀ x : Chan, s.Announces (s.setChan c x) := fun x => .of_eq rfl rfl
  unfold State.countClip
  dsimp only
  split
  · exact (counted _).trans (State.announces_alertBoth _ _)
  · exact counted _

theorem Tick.announces_ending (t : Tick) (c : Channel) : t.st.Announces (t.ending c).st := by
  have ramps : t.st.Announces (t.ramps c).st := by rw [Tick.ramps_eq]; exact .of_eq rfl rfl
  refine ramps.trans ?_
  show (t.ramps c).st.Announces ((t.ramps c).emit c).st
  unfold Tick.emit
  dsimp only
  split
  · exact .refl _
  · exact State.announces_countClip _ c

theorem Tick.ending_starts (t : Tick) (c : Channel) : (t.ending c).starts = t.starts := by
  obtain ⟨n, p, h, he⟩ := (t.ramps c).emit_eq c
  unfold Tick.ending
  rw [he, Tick.ramps_eq]

theorem Tick.announces_work (t : Tick) (g : ChannelSet) : t.st.Announces (t.work g).st := by
  have opened : t.st.Announces (t.openings g).st :=
    Tick.forChannels_keeps (P := fun u => t.st.Announces u.st) (fun u c _ h => h.trans (u.announces_opening c))
      (.refl _)
  have worked : t.st.Announces ((t.openings g).lanesIn g).st :=
    Tick.lanesIn_keeps (P := fun u => t.st.Announces u.st) (fun u l h _ => h.trans (u.announces_laneWork l).st) opened
  exact Tick.forChannels_keeps (P := fun u => t.st.Announces u.st) (fun u c _ h => h.trans (u.announces_ending c))
    worked

theorem announces_tickChannels (o : TickOrder) (s : State) : s.Announces (tickChannels o s).st := by
  have verdicts : s.Announces (Tick.verdicts s).st := by
    obtain ⟨e, he⟩ := Tick.verdicts_eq s
    rw [he]
    exact .of_eq rfl rfl
  have first := (Tick.announces_work (Tick.verdicts s) ((Tick.verdicts s).st.firstGroup o.before)).trans
    (State.announces_takeLinks _ o.sources)
  exact (verdicts.trans first).trans (Tick.announces_work (Tick.withState _ _) _)

/-! ### After the channels' work -/

theorem Tick.announces_endPulse (t : Tick) (m : MarkerLine) (b : Bool) : t.st.Announces (t.endPulse m b).st := by
  unfold Tick.endPulse
  split
  · exact .of_eq (State.lanes_setMarker _ m _) (State.ports_setMarker _ m _)
  · exact .refl _

theorem Tick.announces_takeStarts (t : Tick) (starts : List (LaneId × Port × Nat)) :
    t.st.Announces (t.takeStarts starts).st := by
  induction starts generalizing t with
  | nil => exact .refl _
  | cons e starts ih =>
    exact (t.st.announces_laneStart e.1 e.2.1 e.2.2).trans (ih (t.withState (t.st.laneStart e.1 e.2.1 e.2.2)))

theorem Tick.announces_offerWork (t : Tick) (b : Bool) : t.st.Announces (t.offerWork b).st := by
  unfold Tick.offerWork
  split
  · split
    · split
      · dsimp only
        split_ifs <;> exact State.announces_takeOffer _ _ _ _
      · exact .refl _
    · exact .refl _
  · exact .refl _

/-- What follows the channels' work in a sample event announces. -/
theorem tick_tail_announces (o : TickOrder) (s : State) : (tickChannels o s).st.Announces (tick o s).st := by
  have capture : ∀ (u : Tick) (b : Bool) (n : Nat), u.st.Announces (u.captureWork b n).st := fun u b n =>
    ((u.announces_takeStarts _).trans (Tick.announces_offerWork _ b)).trans (Tick.announces_takeStarts _ _)
  have frames : ∀ (u : Tick) (f : Channel → Bool), u.st.Announces (u.frames o f).st := fun u f => .of_eq rfl rfl
  exact (((frames _ _).trans (Tick.announces_endPulse _ .M1 _)).trans (Tick.announces_endPulse _ .M2 _)).trans
    (capture _ _ _)

/-- A sample event moves the lanes, and a lane that goes HELD or IDLE alerts its originating port (R110). -/
theorem tick_announces (o : TickOrder) (s : State) : s.Announces (tick o s).st :=
  (announces_tickChannels o s).trans (tick_tail_announces o s)

end Sys2Proof.Machine
end

section
/-! PROOF. START's checks one by one (R82): what names a program and a set of channels, which lane holds the first bound
channel, which channel has a pending staged set, which lane is the lowest IDLE one; and the record that an accepted START
leaves (R83, R86). -/

namespace Sys2Proof.Machine

/-! ### The first of three -/

/-- The first channel, in channel order, to which `f` gives a value. -/
def firstOf {α : Type} (f : Channel → Option α) : Option α := (f .L1).or ((f .L2).or (f .L3))

theorem firstOf_eq_none_iff {α : Type} (f : Channel → Option α) : firstOf f = none ↔ ∀ c : Channel, f c = none := by
  unfold firstOf
  rw [Option.or_eq_none_iff, Option.or_eq_none_iff]
  exact ⟨fun ⟨h1, h2, h3⟩ c => by cases c <;> assumption, fun h => ⟨h _, h _, h _⟩⟩

/-- The value of a channel before which no channel has one. -/
theorem firstOf_eq {α : Type} {f : Channel → Option α} {c : Channel} {v : α} (h : f c = some v)
    (before : ∀ d : Channel, channelNumber d < channelNumber c → f d = none) : firstOf f = some v := by
  unfold firstOf
  cases c with
  | L1 => rw [h]; rfl
  | L2 => rw [before .L1 (by decide), h]; rfl
  | L3 => rw [before .L1 (by decide), before .L2 (by decide), h]; rfl

/-! ### The checks of START (R82) -/

theorem State.firstBusy_eq (s : State) (chans : ChannelSet) :
    s.firstBusy chans = firstOf fun c => if chans.get c then s.boundTo c else none := rfl

theorem State.firstPending_eq (s : State) (chans : ChannelSet) : s.firstPending chans
    = firstOf fun c => if chans.get c && (s.chans.get c).staged.isSome then some c else none := rfl

/-- No channel of the set is bound. -/
theorem State.firstBusy_eq_none_iff (s : State) (chans : ChannelSet) :
    s.firstBusy chans = none ↔ ∀ c : Channel, chans.get c = true → s.boundTo c = none := by
  simp [State.firstBusy_eq, firstOf_eq_none_iff]

/-- No channel of the set has a pending staged set. -/
theorem State.firstPending_eq_none_iff (s : State) (chans : ChannelSet) :
    s.firstPending chans = none ↔ ∀ c : Channel, chans.get c = true → (s.chans.get c).staged = none := by
  simp [State.firstPending_eq, firstOf_eq_none_iff]

theorem State.firstBusy_eq_some {s : State} {chans : ChannelSet} {c : Channel} {l : LaneId} (hc : chans.get c = true)
    (bound : s.boundTo c = some l)
    (before : ∀ d : Channel, channelNumber d < channelNumber c → chans.get d = true → s.boundTo d = none) :
    s.firstBusy chans = some l := by
  rw [State.firstBusy_eq]
  refine firstOf_eq (c := c) (by rw [hc, bound]; rfl) fun d hd => ?_
  split_ifs with member
  · exact before d hd member
  · rfl

theorem State.firstPending_eq_some {s : State} {chans : ChannelSet} {c : Channel} (hc : chans.get c = true)
    (staged : (s.chans.get c).staged.isSome = true)
    (before : ∀ d : Channel, channelNumber d < channelNumber c → chans.get d = true → (s.chans.get d).staged = none) :
    s.firstPending chans = some c := by
  rw [State.firstPending_eq]
  refine firstOf_eq (c := c) (by rw [hc, staged]; rfl) fun d hd => ?_
  by_cases member : chans.get d = true
  · simp [before d hd member]
  · simp [member]

theorem Lane.running_eq_false_iff (x : Lane) : x.running = false ↔ x.state = .idle := by
  rw [← Bool.not_eq_true, Lane.running_iff, not_not]

/-- The lane that START takes is IDLE. -/
theorem State.idleLane_idle {s : State} {l : LaneId} (h : s.idleLane = some l) : (s.lanes.get l).state = .idle := by
  unfold State.idleLane at h
  rw [← Lane.running_eq_false_iff, ← Bool.not_eq_true']
  split_ifs at h with h0 h1 h2
  · obtain rfl := Option.some.inj h; exact h0
  · obtain rfl := Option.some.inj h; exact h1
  · obtain rfl := Option.some.inj h; exact h2

/-- START takes the lowest IDLE lane (R83). -/
theorem State.idleLane_eq_some {s : State} {l : LaneId} (idle : (s.lanes.get l).state = .idle)
    (before : ∀ m : LaneId, laneNumber m < laneNumber l → (s.lanes.get m).state ≠ .idle) : s.idleLane = some l := by
  have free : (s.lanes.get l).running = false := (Lane.running_eq_false_iff _).2 idle
  have runs : ∀ m : LaneId, laneNumber m < laneNumber l → (s.lanes.get m).running = true := fun m hm =>
    (Lane.running_iff _).2 (before m hm)
  unfold State.idleLane
  cases l with
  | lane0 =>
    have free0 : s.lanes.n0.running = false := free
    simp [free0]
  | lane1 =>
    have free1 : s.lanes.n1.running = false := free
    have runs0 : s.lanes.n0.running = true := runs .lane0 (by decide)
    simp [free1, runs0]
  | lane2 =>
    have free2 : s.lanes.n2.running = false := free
    have runs0 : s.lanes.n0.running = true := runs .lane0 (by decide)
    have runs1 : s.lanes.n1.running = true := runs .lane1 (by decide)
    simp [free2, runs0, runs1]

theorem State.idleLane_eq_none {s : State} (h : ∀ l : LaneId, (s.lanes.get l).state ≠ .idle) : s.idleLane = none := by
  cases taken : s.idleLane with
  | none => rfl
  | some l => exact absurd (State.idleLane_idle taken) (h l)

/-! ### The record of an accepted START (R83, R86) -/

/-- The lane record that an accepted START leaves: HELD from ENTRY at a set key, ALIGNING otherwise (R83, R86). -/
def State.startedLane (s : State) (p : Port) (program : Nat) (chans : ChannelSet) (step : StepRecord) : Lane :=
  { Lane.reset with
    state := if (s.holdAt step).isSome then .held else .aligning, program := some program, origin := some p
    channels := chans, position := some 0, stack := (step.groupOpen.map fun c => ⟨0, c⟩).toList
    holdReason := s.holdAt step, heldFrom := if (s.holdAt step).isSome then some .entry else none
    snapshots := ⟨s.snapshotOf chans .L1, s.snapshotOf chans .L2, s.snapshotOf chans .L3⟩ }

/-- The launch writes the lane's record, and alerts the port when the lane is held at once. -/
theorem State.launch_eq {s : State} (p : Port) (program : Nat) {q : Program} (chans : ChannelSet) (l : LaneId)
    {step : StepRecord} (hs : Store.get s.steps q.first = some step) : s.launch p program q chans l
      = if (s.holdAt step).isSome then (s.setLane l (s.startedLane p program chans step)).alert p (.laneHeld l)
        else s.setLane l (s.startedLane p program chans step) := by
  have entered : s.launch p program q chans l = s.enterBetween l (s.freshLane p program chans) 0 step := by
    unfold State.launch
    rw [hs]
  rw [entered]
  unfold State.enterBetween State.startedLane
  dsimp only
  generalize s.holdAt step = hold
  cases hold <;> rfl

/-- A launch writes one lane's record, over the channels that START names. -/
theorem State.launch_lanes (s : State) (p : Port) (program : Nat) (q : Program) (chans : ChannelSet) (l : LaneId) :
    (s.launch p program q chans l).lanes = s.lanes
    ∨ ∃ y : Lane, y.running = true ∧ y.channels = chans ∧ (s.launch p program q chans l).lanes = s.lanes.set l y := by
  cases hs : Store.get s.steps q.first with
  | none =>
    refine .inl ?_
    unfold State.launch
    rw [hs]
  | some step =>
    refine .inr ⟨s.startedLane p program chans step, ?_, rfl, ?_⟩
    · rw [Lane.running_iff]
      unfold State.startedLane
      dsimp only
      split_ifs <;> decide
    · rw [State.launch_eq p program chans l hs]
      split_ifs <;> rfl

/-! ### The outcomes of START -/

theorem exec_start (p : Port) (n m : Nat) (s : State) :
    exec (.start p n m) s = .next (State.answer p 0x40 (s.start p n m)) := rfl

theorem State.start_of_tripped {s : State} (p : Port) (n m : Nat) (h : s.trip.state = .tripped) :
    s.start p n m = (s, Reply.refuse .tripped) := if_pos h

theorem State.startProgram_of_lt {s : State} {n : Nat} (h : n < 8) : s.startProgram n = Store.get s.programs n :=
  if_pos h

theorem channelSetOf_of_gt {m : Nat} (h : 7 < m) : channelSetOf m = none := if_neg (by omega)

theorem channelSetOf_zero : channelSetOf 0 = some (PerChannel.all false) := by decide

/-- Check 2 of R82: a program or a set of channels that names nothing, or no channel. -/
theorem State.start_of_bad_operand {s : State} (p : Port) {n m : Nat} (normal : s.trip.state = .normal)
    (h : 7 < n ∨ Store.get s.programs n = none ∨ m = 0 ∨ 7 < m) : s.start p n m = (s, Reply.refuse .badArgument) := by
  unfold State.start
  rw [if_neg (by rw [normal]; decide)]
  split
  · rename_i q chans program named
    refine if_pos ?_
    rcases h with h | h | rfl | h
    · rw [State.startProgram, if_neg (by omega)] at program
      cases program
    · rw [State.startProgram, h, ite_self] at program
      cases program
    · rw [channelSetOf_zero] at named
      obtain rfl := Option.some.inj named
      rfl
    · rw [channelSetOf_of_gt h] at named
      cases named
  · rfl

/-- START passes check 2 of R82. -/
structure State.StartNamed (s : State) (n m : Nat) (q : Program) (chans : ChannelSet) : Prop where
  normal : s.trip.state = .normal
  program : s.startProgram n = some q
  named : channelSetOf m = some chans
  member : noChannels chans = false

theorem State.StartNamed.start_eq {s : State} {n m : Nat} {q : Program} {chans : ChannelSet}
    (h : s.StartNamed n m q chans) (p : Port) : s.start p n m = s.startOn p n q chans := by
  unfold State.start
  rw [if_neg (by rw [h.normal]; decide), h.program, h.named]
  exact if_neg (by rw [h.member]; decide)

theorem State.startOn_of_busy {s : State} (p : Port) (n : Nat) (q : Program) {chans : ChannelSet} {l : LaneId}
    (busy : s.firstBusy chans = some l) : s.startOn p n q chans = (s, ⟨.channelBusy, byteItem (laneNumber l)⟩) := by
  unfold State.startOn
  rw [busy]

theorem State.startOn_of_pending {s : State} (p : Port) (n : Nat) (q : Program) {chans : ChannelSet} {c : Channel}
    (free : s.firstBusy chans = none) (pending : s.firstPending chans = some c) :
    s.startOn p n q chans = (s, ⟨.pending, byteItem (channelNumber c)⟩) := by
  unfold State.startOn
  rw [free, pending]

theorem State.startOn_of_invalid {s : State} (p : Port) (n : Nat) {q : Program} {chans : ChannelSet}
    {body : List Byte} (free : s.firstBusy chans = none) (settled : s.firstPending chans = none)
    (invalid : s.validate q chans = some body) : s.startOn p n q chans = (s, ⟨.badProgram, body⟩) := by
  unfold State.startOn
  rw [free, settled, invalid]

theorem State.startOn_of_no_lane {s : State} (p : Port) (n : Nat) {q : Program} {chans : ChannelSet}
    (free : s.firstBusy chans = none) (settled : s.firstPending chans = none) (valid : s.validate q chans = none)
    (full : s.idleLane = none) : s.startOn p n q chans = (s, Reply.refuse .noLane) := by
  unfold State.startOn
  rw [free, settled, valid, full]

theorem State.startOn_of_accepted {s : State} (p : Port) (n : Nat) {q : Program} {chans : ChannelSet} {l : LaneId}
    (free : s.firstBusy chans = none) (settled : s.firstPending chans = none) (valid : s.validate q chans = none)
    (idle : s.idleLane = some l) : s.startOn p n q chans = (s.launch p n q chans l,
      Reply.ok (byteItem (laneNumber l) ++ byteItem (channelNumber (lowest chans)))) := by
  unfold State.startOn
  rw [free, settled, valid, idle]

/-- START changes nothing, or launches a program on an IDLE lane over channels that no lane binds. -/
theorem State.start_cases (s : State) (p : Port) (n m : Nat) : (s.start p n m).1 = s
    ∨ ∃ (q : Program) (chans : ChannelSet) (l : LaneId), (s.lanes.get l).state = .idle
      ∧ (∀ c : Channel, chans.get c = true → s.Unbound c) ∧ (s.start p n m).1 = s.launch p n q chans l := by
  unfold State.start
  split
  · exact .inl rfl
  · split
    · rename_i q chans _ _
      split
      · exact .inl rfl
      · unfold State.startOn
        split
        · exact .inl rfl
        · rename_i free
          split
          · exact .inl rfl
          · split
            · exact .inl rfl
            · split
              · exact .inl rfl
              · rename_i l idle
                exact .inr ⟨q, chans, l, State.idleLane_idle idle,
                  fun c hc => State.boundTo_none ((s.firstBusy_eq_none_iff chans).1 free c hc), rfl⟩
    · exact .inl rfl

/-- The rest of the block stands at a launch: the channels, the trip unit, the links and what `State.restKept` lists. -/
theorem State.launch_stands {s : State} (p : Port) (program : Nat) {q : Program} (chans : ChannelSet) (l : LaneId)
    {step : StepRecord} (hs : Store.get s.steps q.first = some step) :
    let t := s.launch p program q chans l
    t.chans = s.chans ∧ t.trip = s.trip ∧ t.links = s.links ∧ s.restKept t
      ∧ t.lanes = s.lanes.set l (s.startedLane p program chans step)
      ∧ t.ports = if (s.holdAt step).isSome then (s.alert p (.laneHeld l)).ports else s.ports := by
  intro t
  have ht : t = _ := State.launch_eq p program chans l hs
  rw [ht]
  split_ifs
  · exact ⟨rfl, rfl, rfl, ⟨rfl, rfl, rfl, rfl, rfl, rfl, rfl, rfl, rfl, rfl, rfl, rfl, rfl, rfl, rfl⟩, rfl, rfl⟩
  · exact ⟨rfl, rfl, rfl, ⟨rfl, rfl, rfl, rfl, rfl, rfl, rfl, rfl, rfl, rfl, rfl, rfl, rfl, rfl, rfl⟩, rfl, rfl⟩

/-- Settles O26: the checks of R82 pass, the lowest IDLE lane is taken, and the launch writes its record alone. -/
theorem startTakesLowestIdleLane : Obligations.StartTakesLowestIdleLane := by
  intro p n m chans q step l s normal hn program named member clear valid hs idle lowest_
  have free := (s.firstBusy_eq_none_iff chans).2 fun c hc => (clear c hc).1
  have settled := (s.firstPending_eq_none_iff chans).2 fun c hc => (clear c hc).2
  have start : s.StartNamed n m q chans := ⟨normal, (State.startProgram_of_lt hn).trans program, named, member⟩
  obtain ⟨chans_, trip, links, rest, lanes, ports⟩ := State.launch_stands p n chans l hs
  refine ⟨s.launch p n q chans l, ?_, ?_, fun m hm => ?_, chans_, trip, links, rest, fun none => ?_, fun held => ?_⟩
  · rw [exec_start, start.start_eq, State.startOn_of_accepted p n free settled valid
      (State.idleLane_eq_some idle lowest_), State.answer_ok]
    rfl
  · rw [lanes, PerLane.get_set_self]
    rfl
  · rw [lanes, PerLane.get_set_ne _ _ hm]
  · rw [ports, none]
    rfl
  · rw [ports, if_pos held]

end Sys2Proof.Machine
end

section
/-! PROOF. What a command can do to the lanes, said once (`State.LanesEffect`, `exec_lanesEffect`): they move
(`Lane.Moves`), RESET_N resets them, or START takes an IDLE one over channels that no lane binds. From it the soundness of
the lanes is kept by every step (R81). -/

namespace Sys2Proof.Machine

/-! ### The effects -/

/-- What a command can do to the lanes. -/
inductive State.LanesEffect (s : State) : State → Prop
  /-- The lanes, of which an IDLE one holds its end record alone, move. -/
  | moves {t : State} : (∀ l : LaneId, (s.lanes.get l).Rests → (s.lanes.get l).Moves (t.lanes.get l)) →
      State.LanesEffect s t
  /-- RESET_N (R184). -/
  | reset {t : State} (low : Bool) : t.lanes = (State.resetWith low).lanes → State.LanesEffect s t
  /-- START on an IDLE lane, over channels that no lane binds (R82, R83). -/
  | started {t : State} (l : LaneId) (y : Lane) : (s.lanes.get l).state = .idle → y.running = true →
      (∀ c : Channel, y.channels.get c = true → s.Unbound c) → t.lanes = s.lanes.set l y → State.LanesEffect s t

theorem State.LanesEffect.announces {s t : State} (h : s.Announces t) : s.LanesEffect t := .moves fun l _ => h.moves l

theorem State.LanesEffect.stand {s t : State} (h : t.lanes = s.lanes) : s.LanesEffect t :=
  .moves fun _ _ => h ▸ .refl _

/-- A response leaves what its command has done to the lanes. -/
theorem State.LanesEffect.answer {s : State} {v : State × Reply} (p : Port) (code : Nat) (h : s.LanesEffect v.1) :
    s.LanesEffect (State.answer p code v) := by
  obtain ⟨t, r⟩ := v
  cases h with
  | moves h => exact .moves h
  | reset low h => exact .reset low h
  | started l y idle running free h => exact .started l y idle running free h

/-- The lanes stand at a command that writes none of them. -/
theorem State.LanesEffect.answer_stand {s : State} {v : State × Reply} (p : Port) (code : Nat)
    (h : v.1.lanes = s.lanes) : s.LanesEffect (State.answer p code v) := .answer p code (.stand h)

/-- A record set in its place moves when it runs on. -/
theorem State.lanesEffect_setLane {s : State} {l : LaneId} {y : Lane}
    (h : (s.lanes.get l).Rests → (s.lanes.get l).Moves y) : s.LanesEffect (s.setLane l y) := by
  refine .moves fun m rests => ?_
  rw [State.lanes_setLane, PerLane.get_set]
  split_ifs with hm
  · subst hm
    exact h rests
  · exact .refl _

theorem State.LanesEffect.sound {s t : State} (e : s.LanesEffect t) (h : s.lanesSound) : t.lanesSound := by
  cases e with
  | moves moves => exact State.lanesSound_of_moves h fun l => moves l (h.2 l)
  | reset low lanes =>
    unfold State.lanesSound
    rw [lanes]
    exact State.reset_lanesSound low
  | started l y idle running free lanes =>
    have get : ∀ m : LaneId, t.lanes.get m = if m = l then y else s.lanes.get m := fun m => by
      rw [lanes, PerLane.get_set]
    have alone : ∀ (m : LaneId) (c : Channel), y.binds c = true → (s.lanes.get m).binds c = false := by
      intro m c hb
      rw [Lane.binds, Bool.and_eq_true] at hb
      exact free c hb.2 m
    refine ⟨fun m n c hm hn => ?_, fun m => ?_⟩
    · rw [get] at hm hn
      split_ifs at hm hn with h1 h2 h2
      · exact h1.trans h2.symm
      · exact absurd hn (by simp [alone n c hm])
      · exact absurd hm (by simp [alone m c hn])
      · exact h.1 m n c hm hn
    · rw [get]
      split_ifs
      · exact Lane.Rests.of_running running
      · exact h.2 m

/-! ### Commands of Chapter 5 -/

theorem lanesEffect_start (s : State) (p : Port) (n m : Nat) : s.LanesEffect (s.start p n m).1 := by
  obtain h | ⟨q, chans, l, idle, free, h⟩ := s.start_cases p n m
  · rw [h]
    exact .stand rfl
  · rw [h]
    obtain stand | ⟨y, running, channels, set⟩ := s.launch_lanes p n q chans l
    · exact .stand stand
    · exact .started l y idle running (channels ▸ free) set

theorem lanesEffect_holdCommand (s : State) (n : Nat) : s.LanesEffect (s.holdCommand n).1 := by
  unfold State.holdCommand
  split
  · exact .stand rfl
  · split
    · rename_i f holdable
      exact .announces (s.announces_holdLane _ f ⟨Lane.running_of_holdable holdable, rfl, rfl⟩)
    · exact .stand rfl

theorem Lane.resumed_origin (x : Lane) : x.resumed.origin = x.origin := by
  unfold Lane.resumed
  split <;> rfl

theorem Lane.resumed_running (x : Lane) : x.resumed.running = true := by
  unfold Lane.resumed
  split <;> rfl

theorem lanesEffect_resumeCommand (s : State) (n : Nat) : s.LanesEffect (s.resumeCommand n).1 := by
  unfold State.resumeCommand
  split
  · exact .stand rfl
  · rename_i l _
    split
    · rename_i held
      refine State.lanesEffect_setLane fun _ => .runs ?_ (Lane.resumed_running _) (Lane.resumed_channels _)
        (Lane.resumed_origin _)
      exact (Lane.running_iff _).2 (by rw [held]; decide)
    · exact .stand rfl

/-- RELEASE finds an unbounded group, which an IDLE lane does not hold (R96). -/
theorem lanesEffect_releaseCommand (s : State) (n : Nat) : s.LanesEffect (s.releaseCommand n).1 := by
  unfold State.releaseCommand
  split
  · exact .stand rfl
  · rename_i l _
    split
    · rename_i unbounded
      have running : (s.lanes.get l).Rests → (s.lanes.get l).running = true := by
        intro rests
        rw [Lane.running_iff]
        intro idle
        have empty : (s.lanes.get l).stack = [] := by rw [rests idle]; rfl
        rw [empty] at unbounded
        cases unbounded
      exact State.lanesEffect_setLane fun rests => .runs (running rests) (running rests) rfl rfl
    · exact .stand rfl

theorem lanesEffect_abortCommand (s : State) (p : Port) (n : Nat) : s.LanesEffect (s.abortCommand p n).1 := by
  unfold State.abortCommand
  split
  · exact .stand rfl
  · split
    · exact .stand rfl
    · rename_i h
      exact State.lanesEffect_setLane fun _ => .runs ((Lane.running_iff _).2 fun e => h (.inl e)) rfl rfl rfl

/-! ### Commands that leave the lanes -/

theorem lanes_setChannel (s : State) (ch : Nat) (r : RawParams) : (s.setChannel ch r).1.lanes = s.lanes := by
  have written : ∀ (c : Channel) (q : ParamSet), (s.writeSet c q).lanes = s.lanes := by
    intro c q
    unfold State.writeSet
    dsimp only
    split <;> rfl
  unfold State.setChannel
  split
  · rfl
  · split_ifs
    · rfl
    · rfl
    · exact written _ _
    · rfl

theorem lanes_getChannel (s : State) (ch clear : Nat) : (s.getChannel ch clear).1.lanes = s.lanes := by
  unfold State.getChannel
  split
  · dsimp only
    split_ifs <;> rfl
  · rfl

theorem lanes_relink (s : State) (ch : Nat) (change : Chan → Chan) : (s.relink ch change).1.lanes = s.lanes := by
  obtain h | ⟨c, -, h⟩ := relink_cases s ch change
  · rw [h]
  · rw [h, State.lanes_setChan]

theorem lanes_beginTable (s : State) (p : Port) (n : Nat) : (s.beginTable p n).1.lanes = s.lanes := by
  unfold State.beginTable
  split_ifs <;> rfl

theorem lanes_writeTableChunk (s : State) (p : Port) (n c : Nat) (entries : List Int) :
    (s.writeTableChunk p n c entries).1.lanes = s.lanes := by
  unfold State.writeTableChunk
  split
  · rfl
  · split
    · rfl
    · rfl
    · split_ifs <;> rfl

theorem lanes_commitTable (s : State) (p : Port) (n : Nat) : (s.commitTable p n).1.lanes = s.lanes := by
  unfold State.commitTable
  split
  · rfl
  · split
    · rfl
    · rfl
    · split_ifs <;> rfl

theorem lanes_discardTable (s : State) (n : Nat) : (s.discardTable n).1.lanes = s.lanes := by
  unfold State.discardTable
  split_ifs <;> rfl

theorem lanes_writeOverlaySet (s : State) (n count : Nat) (slots : List OverlaySlot) :
    (s.writeOverlaySet n count slots).1.lanes = s.lanes := by
  unfold State.writeOverlaySet
  split_ifs <;> rfl

theorem lanes_writeStep (s : State) (n : Nat) (r : RawStep) : (s.writeStep n r).1.lanes = s.lanes := by
  unfold State.writeStep
  split
  · rfl
  · split_ifs <;> rfl

theorem lanes_clearStep (s : State) (n : Nat) : (s.clearStep n).1.lanes = s.lanes := by
  unfold State.clearStep
  split_ifs <;> rfl

theorem lanes_defineProgram (s : State) (n first count policy : Nat) :
    (s.defineProgram n first count policy).1.lanes = s.lanes := by
  unfold State.defineProgram
  split
  · rfl
  · split_ifs <;> rfl

theorem lanes_undefineProgram (s : State) (n : Nat) : (s.undefineProgram n).1.lanes = s.lanes := by
  unfold State.undefineProgram
  split_ifs <;> rfl

theorem lanes_changeKey (s : State) (key : Nat) (b : Bool) : (s.changeKey key b).1.lanes = s.lanes := by
  unfold State.changeKey
  split
  · rfl
  · exact State.lanes_setKey _ _ _

theorem lanes_defineDescriptor (s : State) (d : Nat) (r : RawDescriptor) :
    (s.defineDescriptor d r).1.lanes = s.lanes := by
  unfold State.defineDescriptor
  split
  · rfl
  · split_ifs <;> rfl

theorem lanes_undefineDescriptor (s : State) (d : Nat) : (s.undefineDescriptor d).1.lanes = s.lanes := by
  unfold State.undefineDescriptor
  split_ifs <;> rfl

theorem lanes_startCapture (s : State) (p : Port) (d : Nat) : (s.startCapture p d).1.lanes = s.lanes := by
  unfold State.startCapture
  split_ifs <;> rfl

theorem lanes_stopCapture (s : State) : s.stopCapture.1.lanes = s.lanes := by
  unfold State.stopCapture
  split
  · rename_i d _ _
    have stopped := congrArg State.lanes (s.stopRun_eq d)
    exact stopped
  · rfl

theorem lanes_setAlertMask (s : State) (p : Port) (mask : Nat) : (s.setAlertMask p mask).1.lanes = s.lanes := by
  unfold State.setAlertMask
  split <;> rfl

theorem lanes_restart (s : State) : s.restart.1.lanes = s.lanes := by
  unfold State.restart
  split_ifs <;> rfl

theorem lanes_getLink (s : State) (link clear : Nat) : (s.getLink link clear).1.lanes = s.lanes := by
  unfold State.getLink
  split
  · dsimp only
    split_ifs <;> rfl
  · rfl

/-! ### The other commands -/

/-- MASTER_CLEAR ends the lanes before its entry to TRIPPED; the rest of it leaves them (R183). -/
theorem announces_masterClear (s : State) (p : Port) : s.Announces (s.masterClear p).1 := by
  have entry := (State.announces_endLanes .cleared s).trans (State.announces_takeCause _ .masterClear (some p))
  have cleared : ∀ u : State, u.Announces u.emptyLoading.clearLines := fun u => .of_eq rfl rfl
  exact (entry.trans (State.announces_stopAny _)).trans (cleared _)

theorem tickWhen_announces (e : TickEvent) (o : TickOrder) (s : State) : s.Announces (tickWhen e o s) := by
  unfold tickWhen
  split
  · exact tick_announces o s
  · exact .refl s

theorem tickWhen_lanesEffect (e : TickEvent) (o : TickOrder) (s : State) : s.LanesEffect (tickWhen e o s) :=
  .announces (tickWhen_announces e o s)

/-- Every command but the deselect itself has an effect of the list. -/
theorem exec_lanesEffect_of_ne (i : Instr) (hi : ∀ p : Port, i ≠ .frameError p) (s : State) :
    ∃ t : State, exec i s = .next t ∧ s.LanesEffect t := by
  cases i with
  | frameError p => exact absurd rfl (hi p)
  | resetNAssertion low => exact ⟨_, rfl, .reset low rfl⟩
  | sampleEvent o => exact ⟨_, rfl, .announces (tick_announces o s)⟩
  | levelRampEnd c o => exact ⟨_, rfl, tickWhen_lanesEffect _ o s⟩
  | frequencyRampEnd c o => exact ⟨_, rfl, tickWhen_lanesEffect _ o s⟩
  | linkLost k o => exact ⟨_, rfl, tickWhen_lanesEffect _ o s⟩
  | linkRecovered k o => exact ⟨_, rfl, tickWhen_lanesEffect _ o s⟩
  | truncated c o => exact ⟨_, rfl, tickWhen_lanesEffect _ o s⟩
  | markerPulseEnd m o => exact ⟨_, rfl, tickWhen_lanesEffect _ o s⟩
  | dwellEnd l o => exact ⟨_, rfl, tickWhen_lanesEffect _ o s⟩
  | waitMet l o => exact ⟨_, rfl, tickWhen_lanesEffect _ o s⟩
  | waitTimeout l o => exact ⟨_, rfl, tickWhen_lanesEffect _ o s⟩
  | decimationPass o => exact ⟨_, rfl, tickWhen_lanesEffect _ o s⟩
  | capturePassFull o => exact ⟨_, rfl, tickWhen_lanesEffect _ o s⟩
  | statusFrame k chars stops => exact ⟨_, rfl, .stand rfl⟩
  | tripNAsserted => exact ⟨_, rfl, .announces (s.announces_takeSource .tripN true)⟩
  | tripNReleased => exact ⟨_, rfl, .announces (s.announces_takeSource .tripN false)⟩
  | spiSelect p => exact ⟨_, rfl, .stand rfl⟩
  | spiByteCompleted p b =>
    simp only [exec, execSpiByteCompleted]
    split
    · exact ⟨_, rfl, .stand rfl⟩
    · exact ⟨_, rfl, .stand rfl⟩
  | nop p => exact ⟨_, rfl, .answer_stand p _ rfl⟩
  | identify p => exact ⟨_, rfl, .answer_stand p _ rfl⟩
  | getAlerts p => exact ⟨_, rfl, .answer_stand p _ rfl⟩
  | setAlertMask p mask => exact ⟨_, rfl, .answer_stand p _ (lanes_setAlertMask s p mask)⟩
  | masterClear p => exact ⟨_, rfl, .answer p _ (.announces (announces_masterClear s p))⟩
  | setChannel p ch r => exact ⟨_, rfl, .answer_stand p _ (lanes_setChannel s ch r)⟩
  | getChannel p ch clear => exact ⟨_, rfl, .answer_stand p _ (lanes_getChannel s ch clear)⟩
  | linkChannelFollow p ch offset => exact ⟨_, rfl, .answer_stand p _ (lanes_relink s ch _)⟩
  | linkChannelUnlink p ch => exact ⟨_, rfl, .answer_stand p _ (lanes_relink s ch _)⟩
  | beginTable p n => exact ⟨_, rfl, .answer_stand p _ (lanes_beginTable s p n)⟩
  | writeTableChunk p n c e => exact ⟨_, rfl, .answer_stand p _ (lanes_writeTableChunk s p n c e)⟩
  | commitTable p n => exact ⟨_, rfl, .answer_stand p _ (lanes_commitTable s p n)⟩
  | discardTable p n => exact ⟨_, rfl, .answer_stand p _ (lanes_discardTable s n)⟩
  | readTableChunk p n c => exact ⟨_, rfl, .answer_stand p _ rfl⟩
  | getTableState p n => exact ⟨_, rfl, .answer_stand p _ rfl⟩
  | writeOverlaySet p n count slots => exact ⟨_, rfl, .answer_stand p _ (lanes_writeOverlaySet s n count slots)⟩
  | readOverlaySet p n => exact ⟨_, rfl, .answer_stand p _ rfl⟩
  | writeStep p n r => exact ⟨_, rfl, .answer_stand p _ (lanes_writeStep s n r)⟩
  | readStep p n => exact ⟨_, rfl, .answer_stand p _ rfl⟩
  | clearStep p n => exact ⟨_, rfl, .answer_stand p _ (lanes_clearStep s n)⟩
  | writeProgramDefine p n first count policy =>
    exact ⟨_, rfl, .answer_stand p _ (lanes_defineProgram s n first count policy)⟩
  | writeProgramUndefine p n => exact ⟨_, rfl, .answer_stand p _ (lanes_undefineProgram s n)⟩
  | readProgram p n => exact ⟨_, rfl, .answer_stand p _ rfl⟩
  | start p program channels => exact ⟨_, rfl, .answer p _ (lanesEffect_start s p program channels)⟩
  | hold p lane => exact ⟨_, rfl, .answer p _ (lanesEffect_holdCommand s lane)⟩
  | resume p lane => exact ⟨_, rfl, .answer p _ (lanesEffect_resumeCommand s lane)⟩
  | release p lane => exact ⟨_, rfl, .answer p _ (lanesEffect_releaseCommand s lane)⟩
  | abort p lane => exact ⟨_, rfl, .answer p _ (lanesEffect_abortCommand s p lane)⟩
  | getLane p lane => exact ⟨_, rfl, .answer_stand p _ rfl⟩
  | setHoldKey p key => exact ⟨_, rfl, .answer_stand p _ (lanes_changeKey s key true)⟩
  | clearHoldKey p key => exact ⟨_, rfl, .answer_stand p _ (lanes_changeKey s key false)⟩
  | getMeasurement p ch => exact ⟨_, rfl, .answer_stand p _ rfl⟩
  | writeDescriptorDefine p d r => exact ⟨_, rfl, .answer_stand p _ (lanes_defineDescriptor s d r)⟩
  | writeDescriptorUndefine p d => exact ⟨_, rfl, .answer_stand p _ (lanes_undefineDescriptor s d)⟩
  | readDescriptor p d => exact ⟨_, rfl, .answer_stand p _ rfl⟩
  | startCapture p d => exact ⟨_, rfl, .answer_stand p _ (lanes_startCapture s p d)⟩
  | stopCapture p => exact ⟨_, rfl, .answer_stand p _ (lanes_stopCapture s)⟩
  | readCapture p a c => exact ⟨_, rfl, .answer_stand p _ rfl⟩
  | getCapture p => exact ⟨_, rfl, .answer_stand p _ rfl⟩
  | trip p => exact ⟨_, rfl, .answer p _ (.announces (s.announces_takeCause .portTrip (some p)))⟩
  | restart p => exact ⟨_, rfl, .answer_stand p _ (lanes_restart s)⟩
  | getTrip p => exact ⟨_, rfl, .answer_stand p _ rfl⟩
  | getLink p link clear => exact ⟨_, rfl, .answer_stand p _ (lanes_getLink s link clear)⟩

/-- Every command answers a next state and has an effect of the list; a deselect has that of its frame's command. -/
theorem exec_lanesEffect (i : Instr) (s : State) : ∃ t : State, exec i s = .next t ∧ s.LanesEffect t := by
  by_cases hi : ∀ p : Port, i ≠ .frameError p
  · exact exec_lanesEffect_of_ne i hi s
  · obtain ⟨p, rfl⟩ : ∃ p : Port, i = .frameError p := by simpa using hi
    simp only [exec, execFrameError]
    split
    · split
      · exact ⟨_, rfl, .stand rfl⟩
      · split
        · rename_i j _
          by_cases hj : ∀ q : Port, j ≠ .frameError q
          · obtain h | h := takeCommand_cases j s
            · rw [h]; exact exec_lanesEffect_of_ne j hj s
            · exact ⟨s, h, .stand rfl⟩
          · obtain ⟨q, rfl⟩ : ∃ q : Port, j = .frameError q := by simpa using hj
            exact ⟨s, rfl, .stand rfl⟩
        · exact ⟨_, rfl, .stand rfl⟩
    · exact ⟨s, rfl, .stand rfl⟩

/-- Settles O55: the soundness of the lanes reads nothing of the queue, and every effect of a command keeps it. -/
theorem stepKeepsLanesDisjoint : Obligations.StepKeepsLanesDisjoint := by
  intro s t sound h
  unfold step at h
  split at h
  · cases h
    exact sound
  · rename_i i rest _
    obtain ⟨u, taken, effect⟩ := exec_lanesEffect i { s with pending := rest }
    rw [taken] at h
    cases h
    exact effect.sound sound

end Sys2Proof.Machine
end

section
/-! PROOF. HOLD, RESUME, RELEASE, ABORT and the hold keys: each command's answer per outcome of its checks. -/

namespace Sys2Proof.Machine

/-! ### HOLD and RESUME (R98, R105) -/

theorem exec_hold (p : Port) (n : Nat) (s : State) :
    exec (.hold p n) s = .next (State.answer p 0x41 (s.holdCommand n)) := rfl

theorem exec_resume (p : Port) (n : Nat) (s : State) :
    exec (.resume p n) s = .next (State.answer p 0x42 (s.resumeCommand n)) := rfl

theorem State.holdCommand_of_gt (s : State) {n : Nat} (h : 2 < n) :
    s.holdCommand n = (s, Reply.refuse .badArgument) := by
  rw [State.holdCommand, laneOf_eq_none h]

theorem State.resumeCommand_of_gt (s : State) {n : Nat} (h : 2 < n) :
    s.resumeCommand n = (s, Reply.refuse .badArgument) := by
  rw [State.resumeCommand, laneOf_eq_none h]

theorem State.holdCommand_of_holdable {s : State} {l : LaneId} {f : HeldFrom}
    (h : (s.lanes.get l).state.holdable = some f) :
    s.holdCommand (laneNumber l) = (s.holdLane l (s.lanes.get l) .command f, Reply.ok []) := by
  simp only [State.holdCommand, laneOf_laneNumber, h]

theorem State.holdCommand_of_not_holdable {s : State} {l : LaneId} (h : (s.lanes.get l).state.holdable = none) :
    s.holdCommand (laneNumber l) = (s, Reply.refuse .wrongState) := by
  simp only [State.holdCommand, laneOf_laneNumber, h]

theorem State.resumeCommand_of_held {s : State} {l : LaneId} (h : (s.lanes.get l).state = .held) :
    s.resumeCommand (laneNumber l) = (s.setLane l (s.lanes.get l).resumed, Reply.ok []) := by
  simp only [State.resumeCommand, laneOf_laneNumber, if_pos h]

theorem State.resumeCommand_of_not_held {s : State} {l : LaneId} (h : (s.lanes.get l).state ≠ .held) :
    s.resumeCommand (laneNumber l) = (s, Reply.refuse .wrongState) := by
  simp only [State.resumeCommand, laneOf_laneNumber, if_neg h]

/-- Settles O28: HOLD answers by where it finds the lane, RESUME by whether it is HELD and from where. -/
theorem holdAndResume : Obligations.HoldAndResume := by
  intro p n s
  refine ⟨fun h => ?_, ?_⟩
  · rw [exec_hold, exec_resume, s.holdCommand_of_gt h, s.resumeCommand_of_gt h]
    exact ⟨rfl, rfl⟩
  · rintro l rfl
    have resumed : ∀ y : Lane, (s.lanes.get l).state = .held → (s.lanes.get l).resumed = y →
        exec (.resume p (laneNumber l)) s = .next ((s.setLane l y).answered p 0x42 .ok []) := by
      rintro y held rfl
      rw [exec_resume, State.resumeCommand_of_held held, State.answer_ok]
    refine ⟨fun h => ?_, fun f h => ?_, fun h => ?_, fun held from_ => resumed _ held ?_, fun held from_ =>
      resumed _ held ?_, fun held from_ => resumed _ held ?_⟩
    · have refused : (s.lanes.get l).state.holdable = none := by
        rcases h with h | h | h <;> rw [h] <;> rfl
      rw [exec_hold, State.holdCommand_of_not_holdable refused, State.answer_refuse]
    · have found : (s.lanes.get l).state.holdable = some f := by
        rcases h with ⟨h, rfl⟩ | ⟨h, rfl⟩ | ⟨h, rfl⟩ <;> rw [h] <;> rfl
      rw [exec_hold, State.holdCommand_of_holdable found, State.answer_ok]
      rfl
    · rw [exec_resume, State.resumeCommand_of_not_held h, State.answer_refuse]
    · rcases from_ with from_ | from_ <;> simp only [Lane.resumed, from_]
    · simp only [Lane.resumed, from_]
    · simp only [Lane.resumed, from_]

/-! ### RELEASE and ABORT (R96, R101) -/

theorem exec_release (p : Port) (n : Nat) (s : State) :
    exec (.release p n) s = .next (State.answer p 0x43 (s.releaseCommand n)) := rfl

theorem exec_abort (p : Port) (n : Nat) (s : State) :
    exec (.abort p n) s = .next (State.answer p 0x44 (s.abortCommand p n)) := rfl

theorem State.releaseCommand_of_gt (s : State) {n : Nat} (h : 2 < n) :
    s.releaseCommand n = (s, Reply.refuse .badArgument) := by
  rw [State.releaseCommand, laneOf_eq_none h]

theorem State.abortCommand_of_gt (s : State) (p : Port) {n : Nat} (h : 2 < n) :
    s.abortCommand p n = (s, Reply.refuse .badArgument) := by
  rw [State.abortCommand, laneOf_eq_none h]

/-- RELEASE looks for an unbounded group on the lane's stack (R96). -/
theorem State.releaseCommand_eq (s : State) (l : LaneId) : s.releaseCommand (laneNumber l)
    = if (s.lanes.get l).stack.any (fun e => e.remaining == 0) then
        (s.setLane l { s.lanes.get l with releasePending := true }, Reply.ok [])
      else (s, Reply.refuse .wrongState) := by
  simp only [State.releaseCommand, laneOf_laneNumber]

theorem State.abortCommand_eq (s : State) (p : Port) (l : LaneId) : s.abortCommand p (laneNumber l)
    = if (s.lanes.get l).state = .idle ∨ (s.lanes.get l).state = .closing then (s, Reply.refuse .wrongState)
      else (s.goClosing l (abortReason p), Reply.ok []) := by
  simp only [State.abortCommand, laneOf_laneNumber]

/-- Settles O29: RELEASE answers by whether an unbounded group is open, ABORT by whether the lane runs a step. -/
theorem releaseAndAbort : Obligations.ReleaseAndAbort := by
  intro p n s
  refine ⟨fun h => ?_, ?_⟩
  · rw [exec_release, exec_abort, s.releaseCommand_of_gt h, s.abortCommand_of_gt p h]
    exact ⟨rfl, rfl⟩
  · rintro l rfl
    refine ⟨fun bounded => ?_, fun unbounded => ?_, fun h => ?_, fun idle closing => ?_⟩
    · rw [exec_release, State.releaseCommand_eq, if_neg (by simpa using bounded), State.answer_refuse]
    · rw [exec_release, State.releaseCommand_eq, if_pos (by simpa using unbounded), State.answer_ok]
    · rw [exec_abort, State.abortCommand_eq, if_pos h, State.answer_refuse]
    · rw [exec_abort, State.abortCommand_eq, if_neg (by simp [idle, closing]), State.answer_ok]
      cases p <;> rfl

/-! ### SET_HOLD_KEY and CLEAR_HOLD_KEY (R108) -/

theorem exec_setHoldKey (p : Port) (key : Nat) (s : State) :
    exec (.setHoldKey p key) s = .next (State.answer p 0x46 (s.changeKey key true)) := rfl

theorem exec_clearHoldKey (p : Port) (key : Nat) (s : State) :
    exec (.clearHoldKey p key) s = .next (State.answer p 0x47 (s.changeKey key false)) := rfl

theorem State.changeKey_of_named (s : State) {key : Nat} {k : HoldKey} (b : Bool) (h : keyOf key = some k) :
    s.changeKey key b = (s.setKey k b, Reply.ok (flagItem (s.setKey k b).key1 ++ flagItem (s.setKey k b).key2)) := by
  simp only [State.changeKey, h]

theorem keyOf_eq_none {n : Nat} (h1 : n ≠ 1) (h2 : n ≠ 2) : keyOf n = none := by
  unfold keyOf
  split
  · exact absurd rfl h1
  · exact absurd rfl h2
  · rfl

theorem State.changeKey_of_unnamed (s : State) {key : Nat} (b : Bool) (h : keyOf key = none) :
    s.changeKey key b = (s, Reply.refuse .badArgument) := by
  simp only [State.changeKey, h]

/-- Settles O30: a key is named by 1 or 2, and the answer is read from the keys as they then stand. -/
theorem holdKeyCommands : Obligations.HoldKeyCommands := by
  intro p s
  refine ⟨?_, ?_, ?_, ?_, fun n h1 h2 => ?_⟩
  · rw [exec_setHoldKey, s.changeKey_of_named true (k := .K1) rfl, State.answer_ok]
    rfl
  · rw [exec_setHoldKey, s.changeKey_of_named true (k := .K2) rfl, State.answer_ok]
    rfl
  · rw [exec_clearHoldKey, s.changeKey_of_named false (k := .K1) rfl, State.answer_ok]
    rfl
  · rw [exec_clearHoldKey, s.changeKey_of_named false (k := .K2) rfl, State.answer_ok]
    rfl
  · have unnamed := keyOf_eq_none h1 h2
    rw [exec_setHoldKey, exec_clearHoldKey, s.changeKey_of_unnamed true unnamed, s.changeKey_of_unnamed false unnamed]
    exact ⟨rfl, rfl⟩

end Sys2Proof.Machine
end

section
/-! PROOF. The validation of a program (R75 to R77) walks its steps in order and stops at the first check that fails, so
its answer is that of the first failing position, read off the checks of that position alone; with START's other checks
this settles START's refusals in their order (R82). -/

namespace Sys2Proof.Machine

/-! ### The checks of one position (R76, R77) -/

theorem channelsWithin_eq_false_iff (a b : ChannelSet) : (!channelsWithin a b) = true
    ↔ (a.l1 ∧ ¬ b.l1) ∨ (a.l2 ∧ ¬ b.l2) ∨ (a.l3 ∧ ¬ b.l3) := by
  unfold channelsWithin
  cases a.l1 <;> cases b.l1 <;> cases a.l2 <;> cases b.l2 <;> simp

theorem depthOpened_eq (x : StepRecord) (depth : Nat) :
    depthOpened x depth = depth + (if x.groupOpen.isSome then 1 else 0) := by
  unfold depthOpened
  split_ifs <;> rfl

theorem groupsOpen_succ {s : State} {q : Program} {k : Nat} {x : StepRecord}
    (h : Store.get s.steps (q.first + k) = some x) :
    groupsOpen s q (k + 1) = depthOpened x (groupsOpen s q k) - x.groupClose.getD 0 := by
  rw [groupsOpen, h, depthOpened_eq]

/-- A list that begins with an optional head has that head, and the rest's otherwise. -/
theorem head?_ite_append {α : Type} (p : Prop) [Decidable p] (a : α) (rest : List α) :
    ((if p then [a] else []) ++ rest).head? = if p then some a else rest.head? := by
  split_ifs <;> rfl

/-- The check of a position, at the depth that its predecessors leave: the first of the reasons it fails by, or the depth
that it leaves. -/
theorem State.checkStep_eq (s : State) (q : Program) (chans : ChannelSet) (k : Nat) :
    s.checkStep chans (q.first + k) (groupsOpen s q k) (decide (k + 1 = q.count))
      = (checksFailed s q chans k).head?.elim (.ok (groupsOpen s q (k + 1))) .error := by
  unfold State.checkStep checksFailed
  cases hx : Store.get s.steps (q.first + k) with
  | none => rfl
  | some x =>
    dsimp only
    rw [groupsOpen_succ hx, ← depthOpened_eq]
    simp only [List.append_assoc, head?_ite_append, channelsWithin_eq_false_iff, Bool.and_eq_true, decide_eq_true_eq,
      Nat.sub_pos_iff_lt]
    split_ifs <;> rfl

/-- What a position that fails no check holds: a step within the channel set, over READY tables, and at the end of the
program no group open. -/
structure State.PositionValid (s : State) (q : Program) (chans : ChannelSet) (k : Nat) (x : StepRecord) : Prop where
  defined : Store.get s.steps (q.first + k) = some x
  mask : channelsWithin x.mask chans = true
  wait : ∀ w ∈ x.wait, chans.get w.channel = true
  shape : ∀ h ∈ x.shape, s.tableState h.table = .ready
  closed : k + 1 = q.count → groupsOpen s q (k + 1) = 0

theorem positionValid_of_checksFailed {s : State} {q : Program} {chans : ChannelSet} {k : Nat}
    (h : checksFailed s q chans k = []) : ∃ x : StepRecord, s.PositionValid q chans k x := by
  unfold checksFailed at h
  cases hx : Store.get s.steps (q.first + k) with
  | none =>
    rw [hx] at h
    cases h
  | some x =>
    rw [hx] at h
    dsimp only at h
    have none_of : ∀ {p : Prop} [Decidable p] {a : Nat}, (if p then [a] else []) = [] → ¬ p := fun h hp => by
      rw [if_pos hp] at h
      cases h
    simp only [List.append_eq_nil_iff] at h
    obtain ⟨⟨⟨⟨⟨mask, wait⟩, shape⟩, -⟩, -⟩, last⟩ := h
    refine ⟨x, hx, ?_, fun w hw => ?_, fun p hp => ?_, fun hk => ?_⟩
    · have within := none_of mask
      rwa [← channelsWithin_eq_false_iff, Bool.not_eq_true', Bool.not_eq_false] at within
    · by_contra outside
      exact none_of wait ((Option.any_eq_true _ _).2 ⟨w, hw, by simpa using outside⟩)
    · by_contra unready
      exact none_of shape ((Option.any_eq_true _ _).2 ⟨p, hp, bne_iff_ne.2 unready⟩)
    · rw [groupsOpen_succ hx, depthOpened_eq]
      exact Nat.sub_eq_zero_of_le (Nat.le_of_not_lt fun open_ => none_of last ⟨hk, open_⟩)

/-! ### The walk (R75) -/

/-- The rest of the walk from position `k` on, at the depth that the positions before it leave. -/
def State.walkFrom (s : State) (q : Program) (chans : ChannelSet) (k : Nat) : Option (List Byte) :=
  s.walk chans (q.count - k) (q.first + k) k (groupsOpen s q k)

theorem State.walkFrom_zero (s : State) (q : Program) (chans : ChannelSet) :
    s.validate q chans = s.walkFrom q chans 0 := rfl

theorem State.walkFrom_count (s : State) (q : Program) (chans : ChannelSet) : s.walkFrom q chans q.count = none := by
  rw [State.walkFrom, Nat.sub_self]
  rfl

/-- One step of the walk: the first reason of the position, or the walk from the next. -/
theorem State.walkFrom_eq (s : State) (q : Program) (chans : ChannelSet) {k : Nat} (hk : k < q.count) :
    s.walkFrom q chans k = (checksFailed s q chans k).head?.elim (s.walkFrom q chans (k + 1))
      fun reason => some (byteItem (q.first + k) ++ byteItem k ++ byteItem reason) := by
  have left : q.count - k = (q.count - (k + 1)) + 1 := by omega
  have last : (q.count - (k + 1) == 0) = decide (k + 1 = q.count) := by
    rw [Bool.eq_iff_iff, beq_iff_eq, decide_eq_true_eq]
    omega
  rw [State.walkFrom, left, State.walk, last, State.checkStep_eq]
  cases (checksFailed s q chans k).head? <;> rfl

theorem State.walkFrom_of_passes {s : State} {q : Program} {chans : ChannelSet} {k : Nat} (hk : k < q.count)
    (passes : checksFailed s q chans k = []) : s.walkFrom q chans k = s.walkFrom q chans (k + 1) := by
  rw [s.walkFrom_eq q chans hk, passes]
  rfl

/-- The validation of a program whose first `k` positions fail nothing is the walk from position `k`. -/
theorem State.validate_eq_walkFrom {s : State} {q : Program} {chans : ChannelSet} (k : Nat) (hk : k ≤ q.count)
    (passes : ∀ j : Nat, j < k → checksFailed s q chans j = []) : s.validate q chans = s.walkFrom q chans k := by
  induction k with
  | zero => exact s.walkFrom_zero q chans
  | succ k ih =>
    rw [ih (by omega) fun j hj => passes j (by omega), State.walkFrom_of_passes hk (passes k (by omega))]

/-- BAD_PROGRAM carries the first reason of the first failing position (R75, R76). -/
theorem State.validate_of_fails {s : State} {q : Program} {chans : ChannelSet} {k reason : Nat} (hk : k < q.count)
    (before : ∀ j : Nat, j < k → checksFailed s q chans j = [])
    (fails : (checksFailed s q chans k).head? = some reason) : s.validate q chans
      = some [BitVec.ofNat 8 (q.first + k), BitVec.ofNat 8 k, BitVec.ofNat 8 reason] := by
  rw [State.validate_eq_walkFrom k hk.le before, s.walkFrom_eq q chans hk, fails]
  rfl

/-- A program validates just when none of its positions fails a check. -/
theorem State.validate_eq_none_iff (s : State) (q : Program) (chans : ChannelSet) :
    s.validate q chans = none ↔ ∀ k : Nat, k < q.count → checksFailed s q chans k = [] := by
  constructor
  · intro valid k
    induction k using Nat.strong_induction_on with
    | _ k ih =>
      intro hk
      cases fails : (checksFailed s q chans k).head? with
      | none => exact List.head?_eq_none_iff.1 fails
      | some reason =>
        rw [State.validate_of_fails hk (fun j hj => ih j hj (by omega)) fails] at valid
        cases valid
  · intro passes
    rw [State.validate_eq_walkFrom q.count le_rfl passes, State.walkFrom_count]

/-- A program whose positions fail nothing closes every group that it opens (R77). -/
theorem groupsOpen_count {s : State} {q : Program} {chans : ChannelSet}
    (passes : ∀ k : Nat, k < q.count → checksFailed s q chans k = []) : groupsOpen s q q.count = 0 := by
  rcases Nat.eq_zero_or_eq_succ_pred q.count with none | last
  · rw [none, groupsOpen]
  · obtain ⟨x, valid⟩ := positionValid_of_checksFailed (passes q.count.pred (by omega))
    rw [last]
    exact valid.closed last.symm

/-! ### START's refusals (R82) -/

/-- Settles O27: each refusal from the check that gives it and those before it passing; the validation by its walk. -/
theorem startRefusals : Obligations.StartRefusals := by
  intro p n m s
  refine ⟨fun tripped => ?_, fun normal => ⟨fun bad => ?_, fun q chans hn program named member => ?_⟩⟩
  · rw [exec_start, State.start_of_tripped p n m tripped, State.answer_refuse]
  · rw [exec_start, State.start_of_bad_operand p normal bad, State.answer_refuse]
  have start : s.StartNamed n m q chans := ⟨normal, (State.startProgram_of_lt hn).trans program, named, member⟩
  refine ⟨fun c l hc bound before => ?_, fun unbound => ?_⟩
  · rw [exec_start, start.start_eq, State.startOn_of_busy p n q (State.firstBusy_eq_some hc bound before)]
    rfl
  have free := (s.firstBusy_eq_none_iff chans).2 unbound
  refine ⟨fun c hc staged before => ?_, fun clear => ?_⟩
  · rw [exec_start, start.start_eq, State.startOn_of_pending p n q free (State.firstPending_eq_some hc staged before)]
    rfl
  have settled := (s.firstPending_eq_none_iff chans).2 clear
  refine ⟨fun k reason hk before fails => ?_, fun passes => ?_, fun valid => ?_⟩
  · rw [exec_start, start.start_eq,
      State.startOn_of_invalid p n free settled (State.validate_of_fails hk before fails)]
    rfl
  · have valid := (s.validate_eq_none_iff q chans).2 passes
    refine ⟨valid, fun full => ?_⟩
    rw [exec_start, start.start_eq, State.startOn_of_no_lane p n free settled valid (State.idleLane_eq_none full),
      State.answer_refuse]
  · have passes := (s.validate_eq_none_iff q chans).1 valid
    refine ⟨fun k hk => ?_, groupsOpen_count passes⟩
    obtain ⟨x, valid⟩ := positionValid_of_checksFailed (passes k hk)
    exact ⟨x, valid.defined, valid.mask, valid.wait, valid.shape, passes k hk⟩

end Sys2Proof.Machine
end

section
/-! PROOF. An entry to TRIPPED ends the running lanes and takes their channels back to their snapshots at once (R43, R103).
The entry of a command, of the pin and of a link is the same `State.enterTripped`; a link's is reached through
`State.takeLinks`, which enters just when some source is new, and the rest of the sample event leaves what it made. -/

namespace Sys2Proof.Machine

/-! ### What an ending leaves of a lane and of a channel (R43, R103) -/

/-- The record of a lane ended at once: an IDLE lane's own; else the end record alone, with the reason and the position
written unless it was CLOSING (R103). -/
def Lane.ended (x : Lane) (r : EndReason) : Lane :=
  if x.running then { Lane.reset with ending :=
    if x.state = .closing then x.ending else x.ending.close r (x.position.getD 0) }
  else x

/-- Channel `c`, of record `y`, after lane `x` has been ended at once: its snapshot when the lane holds the channel and has
not reverted it (R43). -/
def Lane.endedChan (x : Lane) (c : Channel) (y : Chan) : Chan :=
  if x.binds c && !x.reverted.get c then (x.snapshots.get c).elim y y.takeSet else y

theorem State.endLane_lane (r : EndReason) (s : State) (l : LaneId) :
    (s.endLane r l).lanes.get l = (s.lanes.get l).ended r := by
  unfold Lane.ended
  by_cases running : (s.lanes.get l).running = true
  · rw [State.endLane_get_self r s l running, if_pos running]
  · rw [State.endLane_of_idle r s l (by simpa using running), if_neg running]

theorem State.chans_goIdle (s : State) (l : LaneId) : (s.goIdle l).chans = s.chans := by rw [State.goIdle_frame]

theorem State.revertUnreverted_get_self (s : State) (x : Lane) (c : Channel) : (s.revertUnreverted x c).chans.get c
    = if x.channels.get c && !x.reverted.get c then (x.snapshots.get c).elim (s.chans.get c) (s.chans.get c).takeSet
      else s.chans.get c := by
  unfold State.revertUnreverted
  split_ifs
  · cases snapshot : x.snapshots.get c with
    | none => rw [State.revert, snapshot]; rfl
    | some q => rw [State.revert_get_self s x c snapshot]; rfl
  · rfl

theorem State.endLane_chan (r : EndReason) (s : State) (l : LaneId) (c : Channel) :
    (s.endLane r l).chans.get c = (s.lanes.get l).endedChan c (s.chans.get c) := by
  by_cases running : (s.lanes.get l).running = true
  · unfold State.endLane Lane.endedChan
    dsimp only
    rw [if_pos running, State.chans_goIdle, Lane.binds, running, Bool.true_and]
    cases c with
    | L1 =>
      rw [State.revertUnreverted_get_ne _ _ (by decide), State.revertUnreverted_get_ne _ _ (by decide),
        State.revertUnreverted_get_self]
      rfl
    | L2 =>
      rw [State.revertUnreverted_get_ne _ _ (by decide), State.revertUnreverted_get_self,
        State.revertUnreverted_get_ne _ _ (by decide)]
      rfl
    | L3 =>
      rw [State.revertUnreverted_get_self, State.revertUnreverted_get_ne _ _ (by decide),
        State.revertUnreverted_get_ne _ _ (by decide)]
      rfl
  · rw [Bool.not_eq_true] at running
    rw [State.endLane_of_idle r s l running, Lane.endedChan, Lane.binds, running]
    rfl

/-- Channel `c` after every running lane has been ended at once. -/
def State.endedChan (s : State) (c : Channel) : Chan :=
  (s.lanes.get .lane2).endedChan c ((s.lanes.get .lane1).endedChan c ((s.lanes.get .lane0).endedChan c (s.chans.get c)))

theorem State.endLanes_chan (r : EndReason) (s : State) (c : Channel) :
    (s.endLanes r).chans.get c = s.endedChan c := by
  unfold State.endLanes State.endedChan
  rw [State.endLane_chan, State.endLane_chan, State.endLane_chan, State.endLane_get_ne r _ (by decide),
    State.endLane_get_ne r _ (by decide), State.endLane_get_ne r _ (by decide)]

/-- A lane leaves a channel that it does not hold, or has reverted already. -/
def Lane.Leaves (x : Lane) (c : Channel) : Prop := x.binds c = false ∨ x.reverted.get c = true

theorem Lane.Leaves.endedChan {x : Lane} {c : Channel} (h : x.Leaves c) (y : Chan) : x.endedChan c y = y := by
  refine if_neg ?_
  rcases h with h | h <;> simp [h]

theorem Lane.endedChan_of_unreverted {x : Lane} {c : Channel} {q : ParamSet} (bound : x.binds c = true)
    (unreverted : x.reverted.get c = false) (snapshot : x.snapshots.get c = some q) (y : Chan) :
    x.endedChan c y = y.takeSet q := by
  rw [Lane.endedChan, bound, unreverted, snapshot]
  rfl

/-- The lanes that do not hold a channel of lane `l` leave it. -/
theorem State.leaves_of_bound {s : State} (sound : s.lanesSound) {c : Channel} {l : LaneId} (bound : s.boundTo c = some l)
    {m : LaneId} (hm : m ≠ l) : (s.lanes.get m).Leaves c := by
  refine .inl ?_
  rw [← Bool.not_eq_true]
  exact fun h => hm (sound.1 m l c h (State.boundTo_some bound))

theorem State.endedChan_of_leaves {s : State} {c : Channel} (h : ∀ l : LaneId, (s.lanes.get l).Leaves c) :
    s.endedChan c = s.chans.get c := by
  rw [State.endedChan, (h _).endedChan, (h _).endedChan, (h _).endedChan]

/-- A channel that no lane holds, or that its lane has reverted, stands (R43). -/
theorem State.endedChan_stands {s : State} (sound : s.lanesSound) {c : Channel}
    (h : s.boundTo c = none ∨ ∃ l : LaneId, s.boundTo c = some l ∧ (s.lanes.get l).reverted.get c = true) :
    s.endedChan c = s.chans.get c := by
  refine State.endedChan_of_leaves fun m => ?_
  obtain free | ⟨l, bound, reverted⟩ := h
  · exact .inl (State.boundTo_none free m)
  · by_cases hm : m = l
    · exact hm ▸ .inr reverted
    · exact State.leaves_of_bound sound bound hm

/-- A channel that its lane has not reverted is taken back to its snapshot (R43). -/
theorem State.endedChan_reverts {s : State} (sound : s.lanesSound) {c : Channel} {l : LaneId} {q : ParamSet}
    (bound : s.boundTo c = some l) (unreverted : (s.lanes.get l).reverted.get c = false)
    (snapshot : (s.lanes.get l).snapshots.get c = some q) : s.endedChan c = (s.chans.get c).takeSet q := by
  have reverts := Lane.endedChan_of_unreverted (State.boundTo_some bound) unreverted snapshot
  have others : ∀ m : LaneId, m ≠ l → (s.lanes.get m).Leaves c := fun m => State.leaves_of_bound sound bound
  unfold State.endedChan
  cases l with
  | lane0 => rw [reverts, (others _ (by decide)).endedChan, (others _ (by decide)).endedChan]
  | lane1 => rw [reverts, (others _ (by decide)).endedChan, (others _ (by decide)).endedChan]
  | lane2 => rw [reverts, (others _ (by decide)).endedChan, (others _ (by decide)).endedChan]

/-! ### What an entry leaves (R146) -/

/-- Every lane of `s` has been ended at once with reason TRIPPED, and its channels are back at their snapshots (R103). -/
structure State.LanesTripped (s t : State) : Prop where
  lanes (l : LaneId) : t.lanes.get l = (s.lanes.get l).ended .tripped
  chans (c : Channel) : t.chans.get c = s.endedChan c

theorem State.LanesTripped.of_eq {s t u : State} (h : s.LanesTripped t) (lanes : u.lanes = t.lanes)
    (chans : u.chans = t.chans) : s.LanesTripped u :=
  ⟨fun l => by rw [lanes, h.lanes], fun c => by rw [chans, h.chans]⟩

theorem State.lanesTripped_endLanes {s u : State} (lanes : u.lanes = s.lanes) (chans : u.chans = s.chans) :
    s.LanesTripped (u.endLanes .tripped) where
  lanes l := by rw [State.endLanes_get, State.endLane_lane, lanes]
  chans c := by rw [State.endLanes_chan, State.endedChan, State.endedChan, lanes, chans]

theorem State.lanesTripped_enterTripped {s u : State} (lanes : u.lanes = s.lanes) (chans : u.chans = s.chans)
    (c : Cause) (p : Option Port) : s.LanesTripped (u.enterTripped c p) := by
  have announced : ∀ v : State, s.LanesTripped v → s.LanesTripped (v.parkFrames.alertBoth .trip) :=
    fun v h => h.of_eq rfl rfl
  unfold State.enterTripped
  exact announced _ (State.lanesTripped_endLanes lanes chans)

theorem Lane.ended_of_running {x : Lane} (h : x.state ≠ .idle) (r : EndReason) : x.ended r = { Lane.reset with
    ending := if x.state = .closing then x.ending
      else { x.ending with reason := r, position := x.position.getD 0 } } :=
  if_pos ((Lane.running_iff x).2 h)

theorem Lane.ended_of_idle {x : Lane} (h : x.state = .idle) (r : EndReason) : x.ended r = x :=
  if_neg (by rw [(Lane.running_eq_false_iff x).2 h]; decide)

theorem Lane.ended_state (x : Lane) (r : EndReason) : (x.ended r).state = .idle := by
  by_cases h : x.state = .idle
  · rw [Lane.ended_of_idle h, h]
  · rw [Lane.ended_of_running h]
    rfl

/-- LANE_ENDED for lane `l` is pending at its originating port. -/
theorem State.Announces.laneEnded {s t : State} (h : s.Announces t) {l : LaneId} (running : (s.lanes.get l).state ≠ .idle)
    (idle : (t.lanes.get l).state = .idle) (q : Port) (hq : q ∈ (s.lanes.get l).origin) :
    (t.ports.get q).alerts.kinds.laneEnded = true ∧ (t.ports.get q).alerts.ended.get l = true :=
  h.ended hq running idle

/-- The lanes after an entry: each running one ended and announced, each IDLE one as it was. -/
theorem State.LanesTripped.ended {s t : State} (h : s.LanesTripped t) (announces : s.Announces t) :
    (∀ l : LaneId, (s.lanes.get l).state ≠ .idle →
      t.lanes.get l = { Lane.reset with ending :=
        if (s.lanes.get l).state = .closing then (s.lanes.get l).ending
        else { (s.lanes.get l).ending with reason := .tripped, position := (s.lanes.get l).position.getD 0 } }
      ∧ ∀ q ∈ (s.lanes.get l).origin, (t.ports.get q).alerts.kinds.laneEnded = true
          ∧ (t.ports.get q).alerts.ended.get l = true)
    ∧ (∀ l : LaneId, (s.lanes.get l).state = .idle → t.lanes.get l = s.lanes.get l) := by
  refine ⟨fun l running => ⟨?_, fun q hq => announces.laneEnded running ?_ q hq⟩, fun l idle => ?_⟩
  · rw [h.lanes, Lane.ended_of_running running]
  · rw [h.lanes, Lane.ended_state]
  · rw [h.lanes, Lane.ended_of_idle idle]

/-! ### The links' sources make an entry when one is new (R145, R146) -/

theorem SourceSet.has_of_has_put {x : SourceSet} {c d : Cause} (h : (x.put c false).has d = true) : x.has d = true := by
  cases c <;> cases d <;> simp_all [SourceSet.put, SourceSet.has, PerChannel.get_set]

/-- No entry yet: the trip unit is NORMAL, nothing but it has changed, and it holds no source that it did not hold. -/
structure State.Unentered (s t : State) : Prop where
  moved : s.SourcesMoved t
  normal : t.trip.state = .normal
  held : ∀ c : Cause, t.trip.active.has c = true → s.trip.active.has c = true

/-- The source reported by link `k`: its loss and its FAULT indication (R145). -/
def State.reports (s : State) : Cause → Bool
  | .linkLoss k => (s.links.get k).health == .lost
  | .linkFault k => (s.links.get k).fault
  | _ => false

/-- The entry has been made by a source that a link reports (R145, R146). -/
structure State.LinkTripped (s t : State) : Prop where
  tripped : t.trip.state = .tripped
  ends : s.LanesTripped t
  outputs : t.trip.outputs = PerChannel.all .parked
  alerts : ∀ q : Port, t.alerted q .trip
  first : ∃ c : Cause, s.reports c = true ∧ t.trip.first = ⟨c, none⟩
  reports : t.reports = s.reports

theorem State.reports_of_links {s t : State} (h : ∀ k : Channel, (t.links.get k).health = (s.links.get k).health
    ∧ (t.links.get k).fault = (s.links.get k).fault) : t.reports = s.reports := by
  funext c
  cases c with
  | linkLoss k => rw [State.reports, (h k).1]; rfl
  | linkFault k => exact (h k).2
  | _ => rfl

theorem State.reports_enterTripped (s : State) (c : Cause) (p : Option Port) : (s.enterTripped c p).reports = s.reports := by
  refine State.reports_of_links fun k => ?_
  have links : (s.enterTripped c p).links = s.parkFrames.links := by
    unfold State.enterTripped
    dsimp only
    rw [State.alertBoth_frame]
    unfold State.parkFrames
    rw [State.endLanes_frame]
    rfl
  rw [links]
  have parked : ∀ x : Link, x.parkFrame.health = x.health ∧ x.parkFrame.fault = x.fault := fun x => by
    unfold Link.parkFrame
    split_ifs <;> exact ⟨rfl, rfl⟩
  cases k <;> exact parked _

theorem State.alerted_enterTripped (s : State) (c : Cause) (p : Option Port) (q : Port) :
    (s.enterTripped c p).alerted q .trip := by
  unfold State.enterTripped
  dsimp only
  cases q with
  | A => exact (State.alerted_alert_self _ .A .trip).alert .B .trip
  | B => exact State.alerted_alert_self _ .B .trip

/-- The links' sources as taken so far: no entry, or the entry of one of them. -/
def State.LinksTaken (s t : State) : Prop := s.Unentered t ∨ s.LinkTripped t

theorem State.LinkTripped.moved {s t u : State} (h : s.LinkTripped t) (k : t.SourcesMoved u)
    (first : u.trip.first = t.trip.first) : s.LinkTripped u := by
  have frame := k.frame
  refine ⟨k.state.trans h.tripped, h.ends.of_eq (by rw [frame]) (by rw [frame]), k.outputs.trans h.outputs, fun q => ?_,
    by rw [first]; exact h.first, ?_⟩
  · exact State.alerted_of_ports (by rw [frame]) (h.alerts q)
  · rw [← h.reports]
    exact State.reports_of_links fun k => by rw [frame]; exact ⟨rfl, rfl⟩

theorem State.takeSource_first_of_tripped {s : State} (h : s.trip.state = .tripped) (c : Cause) (on : Bool) :
    (s.takeSource c on).trip.first = s.trip.first := by
  unfold State.takeSource State.takeCause
  split_ifs with _ _ normal
  · rfl
  · have normal' : s.trip.state = .normal := normal
    rw [h] at normal'
    cases normal'
  · rfl
  · rfl

/-- A source taken in NORMAL: no entry when it is passive or held already, else its entry. -/
theorem State.Unentered.takeSource {s t : State} (h : s.Unentered t) {c : Cause} {on : Bool} (reports : s.reports c = on) :
    s.LinksTaken (t.takeSource c on) := by
  have frame := h.moved.frame
  by_cases new : on = true ∧ t.trip.active.has c = false
  · obtain ⟨rfl, fresh⟩ := new
    refine .inr ?_
    unfold State.takeSource State.takeCause
    rw [if_pos rfl, if_neg (by rw [fresh]; decide), if_pos (by exact h.normal)]
    set u := t.setTrip { t.trip with active := t.trip.active.put c true } with hu
    refine ⟨by rw [State.enterTripped_trip], ?_, by rw [State.enterTripped_trip], u.alerted_enterTripped c none,
      ⟨c, reports, by rw [State.enterTripped_trip]⟩, ?_⟩
    · exact State.lanesTripped_enterTripped (by rw [hu, frame]; rfl) (by rw [hu, frame]; rfl) c none
    · rw [State.reports_enterTripped, hu, frame]
      rfl
  · have quiet : on = true → t.trip.active.has c = true := fun hon => by
      cases has : t.trip.active.has c with
      | true => rfl
      | false => exact absurd ⟨hon, has⟩ new
    have moved := t.takeSource_moved c on (.inr quiet)
    refine .inl ⟨h.moved.trans moved, moved.state.trans h.normal, fun d hd => h.held d ?_⟩
    rw [State.takeSource_active] at hd
    split_ifs at hd with seen
    · exact hd
    · cases on with
      | false => exact SourceSet.has_of_has_put hd
      | true => exact absurd (quiet rfl) (by simpa using seen)

theorem State.LinksTaken.takeSource {s t : State} (h : s.LinksTaken t) {c : Cause} {on : Bool}
    (reports : s.reports c = on) : s.LinksTaken (t.takeSource c on) := by
  obtain unentered | entered := h
  · exact unentered.takeSource reports
  · exact .inr (entered.moved (t.takeSource_moved c on (.inl entered.tripped))
      (State.takeSource_first_of_tripped entered.tripped c on))

theorem State.LinksTaken.reports {s t : State} (h : s.LinksTaken t) : t.reports = s.reports := by
  obtain unentered | entered := h
  · exact State.reports_of_links fun k => by rw [unentered.moved.frame]; exact ⟨rfl, rfl⟩
  · exact entered.reports

theorem State.LinksTaken.takeLink {s t : State} (h : s.LinksTaken t) (k : Channel) : s.LinksTaken (t.takeLink k) :=
  (h.takeSource (congrFun h.reports (.linkLoss k)).symm).takeSource (congrFun h.reports (.linkFault k)).symm

theorem State.linksTaken_takeLinks {s : State} (normal : s.trip.state = .normal) (o : LinkOrder) :
    s.LinksTaken (s.takeLinks o) :=
  ((State.LinksTaken.takeLink (.inl ⟨⟨rfl, rfl, rfl⟩, normal, fun _ h => h⟩) _).takeLink _).takeLink _

/-- Every link's sources are held just as the link reports them once they have been taken (R145). -/
theorem State.takeLinks_active {s : State} (normal : s.trip.state = .normal) (o : LinkOrder) (k : Channel) :
    (s.takeLinks o).trip.active.loss.get k = s.reports (.linkLoss k)
    ∧ (s.takeLinks o).trip.active.fault.get k = s.reports (.linkFault k) := by
  have start : s.LinksTaken s := .inl ⟨⟨rfl, rfl, rfl⟩, normal, fun _ h => h⟩
  have one : ∀ (t : State) (j : Channel), s.LinksTaken t →
      ((t.takeLink j).trip.active.loss.get k = if k = j then s.reports (.linkLoss k) else t.trip.active.loss.get k)
      ∧ ((t.takeLink j).trip.active.fault.get k = if k = j then s.reports (.linkFault k)
          else t.trip.active.fault.get k) := by
    intro t j taken
    rw [(t.takeLink_active j k).1, (t.takeLink_active j k).2, ← taken.reports]
    refine ⟨?_, ?_⟩
    · split_ifs with hk
      · rw [hk]; rfl
      · rfl
    · split_ifs with hk
      · rw [hk]; rfl
      · rfl
  have first := start.takeLink (linksInOrder o).1
  have second := first.takeLink (linksInOrder o).2.1
  unfold State.takeLinks
  rw [(one _ _ second).1, (one _ _ second).2, (one _ _ first).1, (one _ _ first).2, (one _ _ start).1, (one _ _ start).2]
  cases o <;> cases k <;> exact ⟨rfl, rfl⟩

theorem State.settled_of_reports_held {s : State} (h : ∀ c : Cause, s.reports c = true → s.trip.active.has c = true) :
    s.Settled := .inr fun k => ⟨fun lost => h (.linkLoss k) (by rw [State.reports, lost]; rfl), h (.linkFault k)⟩

/-- In NORMAL the links' sources, in any order, make an entry when one of them is new (R145, R146, R155). -/
theorem State.takeLinks_of_unsettled {s : State} (normal : s.trip.state = .normal) (due : ¬ s.Settled) (o : LinkOrder) :
    s.LinkTripped (s.takeLinks o) := by
  refine (State.linksTaken_takeLinks normal o).resolve_left fun unentered => due ?_
  refine State.settled_of_reports_held fun c hc => unentered.held c ?_
  cases c with
  | linkLoss k => exact ((State.takeLinks_active normal o k).1).trans hc
  | linkFault k => exact ((State.takeLinks_active normal o k).2).trans hc
  | tripN => cases hc
  | portTrip => cases hc
  | masterClear => cases hc
  | powerOn => cases hc

end Sys2Proof.Machine
end

section
/-! PROOF. A sample event in which a link makes an entry (R103, R155, log 4): the first group's work leaves the trip unit
NORMAL and the new sources new, `State.takeLinks` enters, and the work after it finds every lane IDLE and every output
PARKED, so that it changes neither. -/

namespace Sys2Proof.Machine

/-! ### A lane that asked for no capture start is left by the tail of a sample event -/

theorem State.laneStart_lane_ne (s : State) {l m : LaneId} (hm : m ≠ l) (p : Port) (d : Nat) :
    (s.laneStart l p d).lanes.get m = s.lanes.get m := by
  unfold State.laneStart
  split
  · rfl
  · exact PerLane.get_set_ne _ _ hm

theorem Tick.takeStarts_lane (t : Tick) (l : LaneId) (starts : List (LaneId × Port × Nat))
    (other : ∀ e ∈ starts, e.1 ≠ l) : (t.takeStarts starts).st.lanes.get l = t.st.lanes.get l := by
  induction starts generalizing t with
  | nil => rfl
  | cons e starts ih =>
    calc (t.takeStarts (e :: starts)).st.lanes.get l
        = ((t.withState (t.st.laneStart e.1 e.2.1 e.2.2)).takeStarts starts).st.lanes.get l := rfl
      _ = (t.st.laneStart e.1 e.2.1 e.2.2).lanes.get l := ih _ fun f hf => other f (List.mem_cons_of_mem e hf)
      _ = t.st.lanes.get l := t.st.laneStart_lane_ne (other e List.mem_cons_self).symm _ _

theorem Tick.offerWork_lanes (t : Tick) (b : Bool) : (t.offerWork b).st.lanes = t.st.lanes := by
  have taken : ∀ (d : Nat) (x : Descriptor) (o : Offer), (t.st.takeOffer d x o).st.lanes = t.st.lanes := fun d x o => by
    rw [State.takeOffer_frame]
  unfold Tick.offerWork
  split
  · split
    · split
      · dsimp only
        split_ifs <;> exact taken _ _ _
      · rfl
    · rfl
  · rfl

/-- The capture starts stand, and with them the record of a lane that asked for none. -/
structure Tick.LaneTail (l : LaneId) (t u : Tick) : Prop where
  starts : u.starts = t.starts
  lane : (∀ e ∈ t.starts, e.1 ≠ l) → u.st.lanes.get l = t.st.lanes.get l

theorem Tick.LaneTail.trans {l : LaneId} {t u v : Tick} (h : t.LaneTail l u) (k : u.LaneTail l v) : t.LaneTail l v :=
  ⟨k.starts.trans h.starts, fun other => (k.lane (by rwa [h.starts])).trans (h.lane other)⟩

theorem Tick.laneTail_frames (l : LaneId) (t : Tick) (o : TickOrder) (f : Channel → Bool) :
    t.LaneTail l (t.frames o f) := by
  have one : ∀ (u : Tick) (k : Channel) (b w : Bool), u.LaneTail l (u.sendFrame k b w) := fun _ _ _ _ =>
    ⟨rfl, fun _ => rfl⟩
  exact ((one _ _ _ _).trans (one _ _ _ _)).trans (one _ _ _ _)

theorem Tick.laneTail_endPulse (l : LaneId) (t : Tick) (m : MarkerLine) (b : Bool) : t.LaneTail l (t.endPulse m b) := by
  unfold Tick.endPulse
  split
  · exact ⟨rfl, fun _ => congrArg (·.get l) (State.lanes_setMarker _ m _)⟩
  · exact ⟨rfl, fun _ => rfl⟩

theorem Tick.offerWork_starts (t : Tick) (b : Bool) : (t.offerWork b).starts = t.starts := by
  unfold Tick.offerWork
  split
  · split
    · split
      · dsimp only
        split_ifs <;> rfl
      · rfl
    · rfl
  · rfl

theorem Tick.laneTail_captureWork (l : LaneId) (t : Tick) (b : Bool) (n : Nat) : t.LaneTail l (t.captureWork b n) := by
  refine ⟨(Tick.offerWork_starts _ b).trans rfl, fun other => ?_⟩
  unfold Tick.captureWork
  rw [Tick.takeStarts_lane _ l _ fun e he => other e (List.mem_of_mem_drop he), Tick.offerWork_lanes,
    Tick.takeStarts_lane _ l _ fun e he => other e (List.mem_of_mem_take he)]

theorem laneTail_tick (l : LaneId) (o : TickOrder) (s : State) : (tickChannels o s).LaneTail l (tick o s) :=
  (((Tick.laneTail_frames l _ _ _).trans (Tick.laneTail_endPulse l _ _ _)).trans (Tick.laneTail_endPulse l _ _ _)).trans
    (Tick.laneTail_captureWork l _ _ _)

/-- What follows the channels' work leaves whole the record of a lane that asked for no capture start. -/
theorem tick_tail_lane (o : TickOrder) (s : State) {l : LaneId} (other : ∀ e ∈ (tickChannels o s).starts, e.1 ≠ l) :
    (tick o s).st.lanes.get l = (tickChannels o s).st.lanes.get l := (laneTail_tick l o s).lane other

/-! ### The work of a group -/

theorem Tick.openings_starts (t : Tick) (g : ChannelSet) : (t.openings g).starts = t.starts :=
  Tick.forChannels_keeps (P := fun u => u.starts = t.starts) (fun u c _ h => (u.opening_stands c).2.trans h) rfl

theorem Tick.endings_starts (t : Tick) (g : ChannelSet) : (t.endings g).starts = t.starts :=
  Tick.forChannels_keeps (P := fun u => u.starts = t.starts) (fun u c _ h => (u.ending_starts c).trans h) rfl

theorem Tick.verdicts_starts (s : State) : (Tick.verdicts s).starts = [] := by
  obtain ⟨e, he⟩ := Tick.verdicts_eq s
  rw [he]
  rfl

theorem Tick.verdicts_stands (s : State) : (Tick.verdicts s).st.lanes = s.lanes ∧ (Tick.verdicts s).st.chans = s.chans
    ∧ (Tick.verdicts s).st.trip = s.trip := by
  obtain ⟨e, he⟩ := Tick.verdicts_eq s
  rw [he]
  exact ⟨rfl, rfl, rfl⟩

/-- What the work of a group leaves of the trip unit and the links: its state, its sources, and every link. -/
structure Tick.SourcesKept (t u : Tick) : Prop where
  state : u.st.trip.state = t.st.trip.state
  active : u.st.trip.active = t.st.trip.active
  links : u.st.links = t.st.links

theorem Tick.SourcesKept.trans {t u v : Tick} (h : t.SourcesKept u) (k : u.SourcesKept v) : t.SourcesKept v :=
  ⟨k.state.trans h.state, k.active.trans h.active, k.links.trans h.links⟩

theorem Tick.work_sourcesKept (t : Tick) (g : ChannelSet) : t.SourcesKept (t.work g) := by
  have opened : t.SourcesKept (t.openings g) :=
    Tick.forChannels_keeps (P := t.SourcesKept) (fun u c _ h => by
      have spec := u.opening_spec c
      exact h.trans ⟨by rw [spec.trip], by rw [spec.trip], spec.links⟩) ⟨rfl, rfl, rfl⟩
  have lanes := (t.openings g).lanesIn_kept g
  have worked : t.SourcesKept ((t.openings g).lanesIn g) :=
    opened.trans ⟨by rw [lanes.trip], by rw [lanes.trip], lanes.links⟩
  exact Tick.forChannels_keeps (P := t.SourcesKept) (fun u c _ h => by
    have spec := u.ending_spec c
    exact h.trans ⟨by rw [spec.trip], by rw [spec.trip], spec.links⟩) worked

/-- Work with every lane IDLE and every output PARKED leaves the trip unit, the lanes and the capture starts. -/
structure Tick.Parked (t u : Tick) : Prop where
  trip : u.st.trip = t.st.trip
  lanes : u.st.lanes = t.st.lanes
  starts : u.starts = t.starts

theorem Tick.lanesIn_of_idle {t : Tick} (idle : t.st.lanesIdle) (g : ChannelSet) : t.lanesIn g = t := by
  have one : ∀ l : LaneId, t.laneIn g l = t := fun l => by
    unfold Tick.laneIn
    rw [t.laneWork_of_idle l (idle l), ite_self]
  rw [Tick.lanesIn, one, one, one]

theorem Tick.work_parked {t : Tick} (idle : t.st.lanesIdle) (parked : t.st.trip.outputs = PerChannel.all .parked)
    (g : ChannelSet) : t.Parked (t.work g) := by
  have opened : t.Parked (t.openings g) :=
    Tick.forChannels_keeps (P := t.Parked) (fun u c _ h => by
      have spec := u.opening_spec c
      have outputs : u.st.trip.outputs.get c = .parked := by rw [h.trip, parked, PerChannel.get_all]
      refine ⟨?_, spec.lanes.trans h.lanes, (u.opening_stands c).2.trans h.starts⟩
      rw [spec.trip, if_neg (by rw [outputs]; rintro ⟨-, e⟩; cases e), h.trip]) ⟨rfl, rfl, rfl⟩
  have lanes : (t.openings g).lanesIn g = t.openings g :=
    Tick.lanesIn_of_idle (fun l => by rw [opened.lanes]; exact idle l) g
  rw [Tick.work_eq, lanes]
  exact Tick.forChannels_keeps (P := t.Parked) (fun u c _ h => by
    have spec := u.ending_spec c
    exact ⟨spec.trip.trans h.trip, spec.lanes.trans h.lanes, (u.ending_starts c).trans h.starts⟩) opened

/-! ### A channel that has taken a set and has no ramp stands through the other stages -/

/-- The channel holds the set `q`, settled: its envelope at the level, and no ramp. -/
structure Chan.Holds (x : Chan) (q : ParamSet) : Prop where
  active : x.active = q
  env : x.env = q.level * 1024
  levelRamp : x.levelRamp = none
  freqRamp : x.freqRamp = none

theorem Chan.holds_takeSet (x : Chan) (q : ParamSet) : (x.takeSet q).Holds q := ⟨rfl, rfl, rfl, rfl⟩

theorem Chan.rampsStepped_of_none {x : Chan} (level : x.levelRamp = none) (freq : x.freqRamp = none) (a b : Bool) :
    x.rampsStepped a b = x := by
  have stepLevel : x.stepLevel = x := by rw [Chan.stepLevel, level]
  have stepFreq : x.stepFreq = x := by rw [Chan.stepFreq, freq]
  unfold Chan.rampsStepped
  dsimp only
  rw [stepLevel, ite_self, stepFreq, ite_self]

theorem Chan.Holds.ending {t : Tick} {c : Channel} {q : ParamSet} (h : (t.st.chans.get c).Holds q) (d : Channel) :
    ((t.ending d).st.chans.get c).Holds q := by
  obtain ⟨n, hn⟩ := (t.ending_spec d).chans
  rw [hn, PerChannel.get_set]
  split_ifs with hd
  · subst hd
    rw [Chan.rampsStepped_of_none h.levelRamp h.freqRamp]
    exact ⟨h.active, h.env, h.levelRamp, h.freqRamp⟩
  · exact h

theorem Chan.Holds.endings {t : Tick} {c : Channel} {q : ParamSet} (h : (t.st.chans.get c).Holds q) (g : ChannelSet) :
    ((t.endings g).st.chans.get c).Holds q :=
  Tick.forChannels_keeps (P := fun u => (u.st.chans.get c).Holds q) (fun _ d _ hu => hu.ending d) h

/-- Without a staged set, a channel that holds a set still holds it after the stages before the lanes (R38). -/
theorem Chan.Holds.openings {t : Tick} {c : Channel} {q : ParamSet} (h : (t.st.chans.get c).Holds q)
    (staged : (t.st.chans.get c).staged = none) (g : ChannelSet) : ((t.openings g).st.chans.get c).Holds q := by
  have kept := Tick.forChannels_keeps (g := g) (work := Tick.opening)
    (P := fun u => (u.st.chans.get c).Holds q ∧ (u.st.chans.get c).staged = none) (t := t) (fun u d _ ⟨hu, hs⟩ => by
      rw [(u.opening_spec d).chans, PerChannel.get_set]
      split_ifs with hd
      · subst hd
        have unstaged := Chan.promoted_of_none
          (x := { u.st.chans.get c with phase := (u.nextAdvance c).after + u.lateJump c }) hs (u.nextAdvance c)
        rw [unstaged]
        exact ⟨⟨hu.active, hu.env, hu.levelRamp, hu.freqRamp⟩, hs⟩
      · exact ⟨hu, hs⟩) ⟨h, staged⟩
  exact kept.1

theorem Chan.Holds.work {t : Tick} {c : Channel} {q : ParamSet} (h : (t.st.chans.get c).Holds q)
    (staged : (t.st.chans.get c).staged = none) (idle : t.st.lanesIdle) (g : ChannelSet) :
    ((t.work g).st.chans.get c).Holds q := by
  have opened : (t.openings g).st.lanes = t.st.lanes :=
    Tick.forChannels_keeps (P := fun u => u.st.lanes = t.st.lanes) (fun u d _ hu => (u.opening_spec d).lanes.trans hu) rfl
  rw [Tick.work_eq, Tick.lanesIn_of_idle (fun l => by rw [opened]; exact idle l)]
  exact (h.openings staged g).endings g

/-! ### The entry of a sample event -/

/-- Some link holds a source that is new. -/
theorem State.newSource_of_unsettled {s : State} (due : ¬ s.Settled) :
    (s.newSource .L1 || s.newSource .L2 || s.newSource .L3) = true := by
  by_contra none
  rw [Bool.not_eq_true, Bool.or_eq_false_iff, Bool.or_eq_false_iff] at none
  obtain ⟨⟨h1, h2⟩, h3⟩ := none
  have old : ∀ k : Channel, s.newSource k = false := fun k => by cases k <;> assumption
  refine due (.inr fun k => ⟨fun lost => ?_, fun fault => ?_⟩)
  · have := old k
    simp only [State.newSource, lost, Bool.or_eq_false_iff] at this
    simpa using this.1
  · have := old k
    simp only [State.newSource, fault, Bool.or_eq_false_iff] at this
    simpa using this.2

/-- With an entry due and no channel asked for, no channel's work comes before it (log 4). -/
theorem State.firstGroup_of_unasked {s : State} (normal : s.trip.state = .normal) (due : ¬ s.Settled) :
    s.firstGroup ⟨false, false, false⟩ = PerChannel.all false := by
  have later : ∀ c : Channel, s.worksFirst ⟨false, false, false⟩ c = false := fun c => by
    have outside : channelsWithin (s.mates c) ⟨false, false, false⟩ = false := by
      have self := s.mates_self c
      cases c <;> simp only [PerChannel.get] at self <;> simp [channelsWithin, self]
    rw [State.worksFirst, outside]
    rfl
  unfold State.firstGroup
  rw [if_pos ⟨normal, State.newSource_of_unsettled due⟩, later, later, later]
  rfl

/-- The verdicts of a sample event leave a source new when an entry is due. -/
theorem Tick.verdicts_unsettled {s : State} (due : ¬ s.noEntryDue) : ¬ (Tick.verdicts s).st.Settled := by
  obtain ⟨e, he⟩ := Tick.verdicts_eq s
  rw [he]
  refine fun settled => due (settled.imp id fun a k => ?_)
  cases k with
  | L1 => exact a .L1
  | L2 => exact a .L2
  | L3 => exact a .L3

/-- The scratch record of a sample event before the links' sources are taken. -/
def tickBefore (o : TickOrder) (s : State) : Tick :=
  (Tick.verdicts s).work ((Tick.verdicts s).st.firstGroup o.before)

/-- The scratch record of a sample event once they have been taken. -/
def tickEntered (o : TickOrder) (s : State) : Tick :=
  (tickBefore o s).withState ((tickBefore o s).st.takeLinks o.sources)

theorem tickChannels_eq (o : TickOrder) (s : State) : tickChannels o s
    = (tickEntered o s).work (otherChannels ((Tick.verdicts s).st.firstGroup o.before)) := rfl

section
variable {o : TickOrder} {s : State} (normal : s.trip.state = .normal) (due : ¬ s.noEntryDue)
include normal due

/-- An entry that is due is made, between the two groups' work. -/
theorem tickEntered_tripped : (tickBefore o s).st.LinkTripped (tickEntered o s).st := by
  have kept : (Tick.verdicts s).SourcesKept (tickBefore o s) := Tick.work_sourcesKept _ _
  have still : (tickBefore o s).st.trip.state = .normal := by
    rw [kept.state, (Tick.verdicts_stands s).2.2, normal]
  have new : ¬ (tickBefore o s).st.Settled := fun settled =>
    Tick.verdicts_unsettled due (settled.congr kept.state.symm kept.active.symm kept.links.symm)
  exact State.takeLinks_of_unsettled still new o.sources

omit due in
theorem tickEntered_active (k : Channel) :
    (tickEntered o s).st.trip.active.loss.get k = (tickBefore o s).st.reports (.linkLoss k)
    ∧ (tickEntered o s).st.trip.active.fault.get k = (tickBefore o s).st.reports (.linkFault k) := by
  have kept : (Tick.verdicts s).SourcesKept (tickBefore o s) := Tick.work_sourcesKept _ _
  exact State.takeLinks_active (by rw [kept.state, (Tick.verdicts_stands s).2.2, normal]) o.sources k

theorem tickEntered_idle : (tickEntered o s).st.lanesIdle := fun l => by
  rw [(tickEntered_tripped normal due).ends.lanes, Lane.ended_state]

/-- The channels' work after the entry leaves the trip unit and the lanes as the entry made them. -/
theorem tickChannels_parked : (tickEntered o s).Parked (tickChannels o s) :=
  Tick.work_parked (tickEntered_idle normal due) (tickEntered_tripped normal due).outputs _

theorem tick_trip_of_due : (tick o s).st.trip = (tickEntered o s).st.trip :=
  (tick_tail o s).trip.trans (tickChannels_parked normal due).trip

theorem tick_idle_of_due : (tick o s).st.lanesIdle := fun l => by
  have same := congrArg Lane.state ((tick_tail o s).lanes l)
  rw [(tickChannels_parked normal due).lanes] at same
  exact same.trans (tickEntered_idle normal due l)

/-- The entry's alert is still pending at the end of the sample event (R156). -/
theorem tick_alerted_of_due (q : Port) : (tick o s).st.alerted q .trip :=
  (tick_tail_announces o s).alerts
    ((Tick.announces_work _ _).alerts ((tickEntered_tripped normal due).alerts q))

/-- The first cause is a link's source, and an active one (R145, R146). -/
theorem tick_first_of_due : ∃ k : Channel,
    ((tick o s).st.trip.first = ⟨.linkLoss k, none⟩ ∧ (tick o s).st.trip.active.loss.get k = true)
    ∨ ((tick o s).st.trip.first = ⟨.linkFault k, none⟩ ∧ (tick o s).st.trip.active.fault.get k = true) := by
  rw [tick_trip_of_due normal due]
  obtain ⟨c, reports, first⟩ := (tickEntered_tripped (o := o) normal due).first
  cases c with
  | linkLoss k => exact ⟨k, .inl ⟨first, (tickEntered_active normal k).1.trans reports⟩⟩
  | linkFault k => exact ⟨k, .inr ⟨first, (tickEntered_active normal k).2.trans reports⟩⟩
  | tripN => cases reports
  | portTrip => cases reports
  | masterClear => cases reports
  | powerOn => cases reports

/-- With no channel asked for before it, the entry finds the state as the verdicts left it (log 4). -/
theorem tickBefore_of_unasked (unasked : o.before = ⟨false, false, false⟩) : tickBefore o s = Tick.verdicts s := by
  have still : (Tick.verdicts s).st.trip.state = .normal := by rw [(Tick.verdicts_stands s).2.2, normal]
  rw [tickBefore, unasked, State.firstGroup_of_unasked still (Tick.verdicts_unsettled due), Tick.work_none]

theorem tickEntered_of_unasked (unasked : o.before = ⟨false, false, false⟩) : s.LanesTripped (tickEntered o s).st := by
  have ends := (tickEntered_tripped (o := o) normal due).ends
  obtain ⟨lanes, chans, -⟩ := Tick.verdicts_stands s
  rw [tickBefore_of_unasked normal due unasked] at ends
  refine ⟨fun l => by rw [ends.lanes, lanes], fun c => ?_⟩
  rw [ends.chans, State.endedChan, State.endedChan, lanes, chans]

/-- The lanes' records are then those of the entry, the capture engine having been asked for no start. -/
theorem tick_lane_of_unasked (unasked : o.before = ⟨false, false, false⟩) (l : LaneId) :
    (tick o s).st.lanes.get l = (s.lanes.get l).ended .tripped := by
  have parked := tickChannels_parked (o := o) normal due
  have starts : (tickChannels o s).starts = [] := by
    rw [parked.starts, ← Tick.verdicts_starts s, ← tickBefore_of_unasked normal due unasked]
    rfl
  rw [tick_tail_lane o s (by rw [starts]; exact fun e he => absurd he List.not_mem_nil), parked.lanes,
    (tickEntered_of_unasked normal due unasked).lanes]

/-- A channel without a staged set that the entry takes back to its snapshot holds it at the end of the sample event. -/
theorem tick_chan_of_unasked (unasked : o.before = ⟨false, false, false⟩) {c : Channel} {q : ParamSet}
    (staged : (s.chans.get c).staged = none) (reverts : s.endedChan c = (s.chans.get c).takeSet q) :
    ((tick o s).st.chans.get c).Holds q := by
  have chan : (tickEntered o s).st.chans.get c = (s.chans.get c).takeSet q :=
    ((tickEntered_of_unasked normal due unasked).chans c).trans reverts
  rw [(tick_tail o s).chans, tickChannels_eq]
  refine Chan.Holds.work ?_ ?_ (tickEntered_idle normal due) _
  · rw [chan]
    exact Chan.holds_takeSet _ q
  · rw [chan]
    exact staged

end

/-! ### The entry of a command and of the pin -/

theorem exec_trip (p : Port) (s : State) : exec (.trip p) s = .next (State.answer p 0x70 (s.takeCause .portTrip (some p),
    Reply.ok (byteItem (tripStateNumber .tripped) ++ flagItem (s.trip.state == .normal)))) := rfl

theorem exec_tripNAsserted (s : State) : exec .tripNAsserted s = .next (s.takeSource .tripN true) := rfl

/-- A command's or the pin's entry from NORMAL ends the lanes, and announces it. -/
theorem exec_trips {i : Instr} {s t : State} (normal : s.trip.state = .normal) (run : exec i s = .next t)
    (trips : (∃ p : Port, i = .trip p) ∨ (i = .tripNAsserted ∧ s.trip.active.tripN = false)) :
    s.LanesTripped t ∧ s.Announces t := by
  obtain ⟨p, rfl⟩ | ⟨rfl, new⟩ := trips
  · rw [exec_trip] at run
    obtain rfl := Host.Outcome.next.inj run
    have ends : s.LanesTripped (s.takeCause .portTrip (some p)) := by
      rw [State.takeCause, if_pos normal]
      exact State.lanesTripped_enterTripped rfl rfl .portTrip (some p)
    have answered : ∀ (u : State) (r : Reply), s.LanesTripped u ∧ s.Announces u →
        s.LanesTripped (State.answer p 0x70 (u, r)) ∧ s.Announces (State.answer p 0x70 (u, r)) :=
      fun u r h => ⟨h.1.of_eq rfl rfl, h.2.trans (State.announces_answer p 0x70 (u, r))⟩
    exact answered _ _ ⟨ends, s.announces_takeCause _ _⟩
  · rw [exec_tripNAsserted] at run
    obtain rfl := Host.Outcome.next.inj run
    refine ⟨?_, s.announces_takeSource _ _⟩
    have fresh : s.trip.active.has .tripN = false := new
    have entered : ∀ x : TripUnit, s.LanesTripped ((s.setTrip x).enterTripped .tripN none) := fun x =>
      State.lanesTripped_enterTripped (s := s) (u := s.setTrip x) rfl rfl .tripN none
    rw [State.takeSource, if_pos rfl, if_neg (by rw [fresh]; decide), State.takeCause, if_pos (by exact normal)]
    exact entered _

/-- Settles O37: the entry of a command or the pin by `exec_trips`; that of a link by the state between the two groups'
work, which the rest of the sample event leaves. -/
theorem tripEndsRunningLanes : Obligations.TripEndsRunningLanes := by
  intro i s t sound normal run ended
  refine ⟨fun trips => ?_, ?_⟩
  · obtain ⟨ends, announces⟩ := exec_trips normal run trips
    refine ⟨ends.ended announces, fun c l q bound unreverted snapshot => ?_, fun c stands => ?_⟩
    · rw [ends.chans, State.endedChan_reverts sound bound unreverted snapshot]
      rfl
    · rw [ends.chans, State.endedChan_stands sound stands]
  · rintro o rfl due
    obtain rfl := Host.Outcome.next.inj run
    have idle : (tick o s).st.lanesIdle := tick_idle_of_due normal due
    have trip := tick_trip_of_due (o := o) normal due
    have entered := tickEntered_tripped (o := o) normal due
    refine ⟨by rw [trip, entered.tripped], idle, fun c => ?_, tick_alerted_of_due normal due,
      tick_first_of_due normal due, fun l running q => (tick_announces o s).laneEnded running (idle l) q,
      fun unasked => ⟨⟨fun l running => ⟨?_, fun q => (tick_announces o s).laneEnded running (idle l) q⟩,
        fun l resting => ?_⟩, fun c l q bound staged unreverted snapshot => ?_⟩⟩
    · rw [trip, entered.outputs, PerChannel.get_all]
    · rw [tick_lane_of_unasked normal due unasked, Lane.ended_of_running running]
    · rw [tick_lane_of_unasked normal due unasked, Lane.ended_of_idle resting]
    · obtain ⟨active, env, level, freq⟩ := tick_chan_of_unasked normal due unasked staged
        (State.endedChan_reverts sound bound unreverted snapshot)
      exact ⟨active, env, level, freq⟩

end Sys2Proof.Machine
end

section
/-! PROOF. The RMS arithmetic (R119): the square root built digit by digit is the floor of the root. -/

namespace Sys2Proof.Machine

/-- The root that `b` more binary digits build on `r` is the floor of the root of `n`, when `r` and `r + 2^b` enclose it. -/
theorem sqrtBits_spec (b r n : Nat) (lower : r * r ≤ n) (upper : n < (r + 2 ^ b) * (r + 2 ^ b)) :
    sqrtBits b r n * sqrtBits b r n ≤ n ∧ n < (sqrtBits b r n + 1) * (sqrtBits b r n + 1) := by
  induction b generalizing r with
  | zero => exact ⟨lower, upper⟩
  | succ b ih =>
    unfold sqrtBits
    split_ifs with digit
    · refine ih _ digit ?_
      rwa [add_assoc, ← two_mul, ← pow_succ']
    · exact ih r lower (not_le.1 digit)

theorem intSqrt_spec {n : Nat} (h : n < 4294967296) :
    intSqrt n * intSqrt n ≤ n ∧ n < (intSqrt n + 1) * (intSqrt n + 1) :=
  sqrtBits_spec 16 0 n (Nat.zero_le n) (by omega)

theorem rmsOf_zero (sum : Nat) : rmsOf sum 0 = 0 := rfl

theorem rmsOf_of_pos (sum : Nat) {n : Nat} (h : 0 < n) : rmsOf sum n = intSqrt (sum / n) := if_neg h.ne'

/-- The mean of `n` squares of codes is at most the square of the largest code. -/
theorem mean_le {sum n : Nat} (h : sum ≤ n * 1073676289) : sum / n ≤ 1073676289 := Nat.div_le_of_le_mul h

/-- The RMS of codes is the floor of the root of their mean square (R119). -/
theorem rmsOf_spec {sum n : Nat} (h : sum ≤ n * 1073676289) (pos : 0 < n) :
    rmsOf sum n * rmsOf sum n ≤ sum / n ∧ sum / n < (rmsOf sum n + 1) * (rmsOf sum n + 1) := by
  rw [rmsOf_of_pos sum pos]
  exact intSqrt_spec (lt_of_le_of_lt (mean_le h) (by decide))

theorem rmsOf_le {sum n : Nat} (h : sum ≤ n * 1073676289) : rmsOf sum n ≤ 32767 := by
  obtain rfl | pos := n.eq_zero_or_pos
  · rw [rmsOf_zero]
    decide
  · exact Nat.mul_self_le_mul_self_iff.1 ((rmsOf_spec h pos).1.trans (mean_le h))

/-- Settles O51: the root's digits enclose it (`sqrtBits_spec`), and the mean of squares of codes is a square of at most
16 digits. -/
theorem rmsIsFloorOfRoot : Obligations.RmsIsFloorOfRoot :=
  ⟨fun _ _ => ⟨rfl, rfl, decide_eq_true_iff⟩,
    fun sum n h => ⟨rmsOf_le h, rmsOf_spec h, fun zero => by rw [zero, rmsOf_zero]⟩⟩

end Sys2Proof.Machine
end

section
/-! PROOF. The frames of a sample event's parts: what the lanes' work (`Tick.LaneFrame`), the stages of a channel, the
capture engine and the tail may change, each said once as the record after it written as the record before it with the
fields that may differ. -/

namespace Sys2Proof.Machine

/-! ### The lanes' work -/

/-- `u` is `t` but for what a lane's work may change: the channels, the lanes, the markers, the ports, and what it notes
of its jump, its parts, its capture starts, its marker actions and its events. -/
def Tick.LaneFrame (t u : Tick) : Prop := u = { t with
  st := { t.st with chans := u.st.chans, lanes := u.st.lanes, marker1 := u.st.marker1, marker2 := u.st.marker2,
                    ports := u.st.ports }
  jump1 := u.jump1, freshLevel := u.freshLevel, freshFreq := u.freshFreq, starts := u.starts, acted1 := u.acted1
  acted2 := u.acted2, events := u.events }

theorem Tick.LaneFrame.refl (t : Tick) : t.LaneFrame t := rfl

theorem Tick.LaneFrame.trans {t u v : Tick} (h : t.LaneFrame u) (k : u.LaneFrame v) : t.LaneFrame v := by
  unfold Tick.LaneFrame at h k ⊢
  rw [k, h]

/-- A change of the state within the scratch record that a lane's work may make. -/
theorem Tick.laneFrame_withState {t : Tick} {s : State} (h : s = { t.st with
    chans := s.chans, lanes := s.lanes, marker1 := s.marker1, marker2 := s.marker2, ports := s.ports }) :
    t.LaneFrame (t.withState s) := by
  unfold Tick.LaneFrame Tick.withState
  dsimp only
  rw [h]

theorem Tick.laneFrame_happens (t : Tick) (e : TickEvent) : t.LaneFrame (t.happens e) := rfl

theorem Tick.laneFrame_setLane (t : Tick) (l : LaneId) (x : Lane) : t.LaneFrame (t.setLane l x) := rfl

theorem Tick.laneFrame_applyMarkers (t : Tick) (step : StepRecord) : t.LaneFrame (t.applyMarkers step) := by
  unfold Tick.applyMarkers
  split <;> rfl

theorem Tick.laneFrame_applyCapture (t : Tick) (step : StepRecord) (l : LaneId) (x : Lane) :
    t.LaneFrame (t.applyCapture step l x) := by
  unfold Tick.applyCapture
  split <;> rfl

theorem Tick.laneFrame_applyFields (t : Tick) (step : StepRecord) (x : Lane) : t.LaneFrame (t.applyFields step x) := by
  rw [Tick.applyFields_frame]
  rfl

theorem Tick.laneFrame_applyStep (t : Tick) (l : LaneId) (x : Lane) (step : StepRecord) :
    t.LaneFrame (t.applyStep l x step) :=
  (((t.laneFrame_applyFields step x).trans (Tick.laneFrame_applyMarkers _ step)).trans
    (Tick.laneFrame_applyCapture _ step l x)).trans (Tick.laneFrame_setLane _ l _)

theorem Tick.laneFrame_align (t : Tick) (l : LaneId) (x : Lane) (step : StepRecord) :
    t.LaneFrame (t.align l x step) := by
  unfold Tick.align
  split
  · exact t.laneFrame_applyStep l x step
  · exact t.laneFrame_setLane l _

theorem Tick.laneFrame_goIdle (t : Tick) (l : LaneId) : t.LaneFrame (t.withState (t.st.goIdle l)) :=
  Tick.laneFrame_withState (by rw [State.goIdle_frame])

theorem Tick.laneFrame_enter (t : Tick) (l : LaneId) (x : Lane) (pos : Nat) (push : Bool) :
    t.LaneFrame (t.enter l x pos push) := by
  unfold Tick.enter
  split
  · rfl
  · dsimp only
    split
    · refine Tick.laneFrame_withState ?_
      unfold State.holdLane
      rw [State.alertOrigin_frame]
      rfl
    · exact t.laneFrame_align l _ _

theorem Tick.laneFrame_complete (t : Tick) (l : LaneId) (x : Lane) (policy : ExitPolicy) :
    t.LaneFrame (t.complete l x policy) := by
  cases policy with
  | keep => exact (t.laneFrame_setLane l _).trans (Tick.laneFrame_goIdle _ l)
  | restore => exact t.laneFrame_setLane l _

theorem Tick.laneFrame_finish (t : Tick) (l : LaneId) (x : Lane) (step : StepRecord) :
    t.LaneFrame (t.finish l x step) := by
  unfold Tick.finish
  split
  · dsimp only
    split
    · exact t.laneFrame_enter l _ _ _
    · split
      · exact t.laneFrame_enter l _ _ _
      · exact t.laneFrame_complete l _ _
  · rfl

theorem Tick.laneFrame_dwellWork (t : Tick) (l : LaneId) (x : Lane) (step : StepRecord) :
    t.LaneFrame (t.dwellWork l x step) := by
  unfold Tick.dwellWork
  split
  · rfl
  · dsimp only
    split_ifs
    · rfl
    · unfold Tick.dwellDone
      dsimp only
      refine (t.laneFrame_happens (.dwellEnd l)).trans ?_
      split
      · exact Tick.laneFrame_setLane _ l _
      · exact Tick.laneFrame_finish _ l _ step
    · exact t.laneFrame_setLane l _

theorem Tick.laneFrame_timeoutWork (t : Tick) (l : LaneId) (x : Lane) (step : StepRecord) (w : WaitPart) :
    t.LaneFrame (t.timeoutWork l x step w) := by
  unfold Tick.timeoutWork
  dsimp only
  split_ifs
  · unfold Tick.timedOut
    dsimp only
    refine (t.laneFrame_happens (.waitTimeout l)).trans ?_
    split
    · exact Tick.laneFrame_finish _ l _ step
    · exact Tick.laneFrame_setLane _ l _
  · exact t.laneFrame_setLane l _
  · exact t.laneFrame_setLane l _

theorem Tick.laneFrame_waitWork (t : Tick) (l : LaneId) (x : Lane) (step : StepRecord) :
    t.LaneFrame (t.waitWork l x step) := by
  unfold Tick.waitWork
  split
  · rfl
  · dsimp only
    split_ifs
    · exact (t.laneFrame_happens (.waitMet l)).trans (Tick.laneFrame_finish _ l _ step)
    · exact t.laneFrame_timeoutWork l _ step _

/-- The work of a CLOSING lane changes the channels, its own record, and the alerts of its port (R42, R99, R100). -/
theorem Tick.closingWork_frame (t : Tick) (l : LaneId) (x : Lane) : t.closingWork l x = t.withState { t.st with
    chans := (t.closingWork l x).st.chans, lanes := (t.closingWork l x).st.lanes
    ports := (t.closingWork l x).st.ports } := by
  rw [Tick.closingWork_eq]
  split
  · rw [State.goIdle_frame, Tick.closingReverts_frame]
    rfl
  · rw [Tick.closingReverts_frame]
    rfl

theorem Tick.laneFrame_closingWork (t : Tick) (l : LaneId) (x : Lane) : t.LaneFrame (t.closingWork l x) := by
  rw [Tick.closingWork_frame]
  rfl

/-- What a lane's work may change (R85). -/
theorem Tick.laneFrame_laneWork (t : Tick) (l : LaneId) : t.LaneFrame (t.laneWork l) := by
  unfold Tick.laneWork
  dsimp only
  split
  · exact t.laneFrame_align l _ _
  · exact t.laneFrame_dwellWork l _ _
  · exact t.laneFrame_waitWork l _ _
  · exact t.laneFrame_closingWork l _
  · rfl

theorem Tick.laneFrame_lanesIn (t : Tick) (g : ChannelSet) : t.LaneFrame (t.lanesIn g) :=
  Tick.lanesIn_keeps (P := t.LaneFrame) (fun u l h _ => h.trans (u.laneFrame_laneWork l)) (.refl t)

/-! ### A channel's stages -/

theorem Tick.promote_frame (t : Tick) (c : Channel) :
    t.promote c = t.withState { t.st with chans := (t.promote c).st.chans } := by
  unfold Tick.promote
  dsimp only
  split
  · split <;> rfl
  · rfl

theorem Tick.unpark_frame (t : Tick) (c : Channel) :
    t.unpark c = t.withState { t.st with trip := (t.unpark c).st.trip } := by
  unfold Tick.unpark
  split <;> rfl

/-- A promotion and the unparking change the channels and the trip unit after the sense work (R38, R149). -/
theorem Tick.opening_senseWork (t : Tick) (c : Channel) :
    t.opening c = ((t.advance c).senseWork c).withState { ((t.advance c).senseWork c).st with
      chans := (t.opening c).st.chans, trip := (t.opening c).st.trip } := by
  unfold Tick.opening
  rw [Tick.unpark_frame, Tick.promote_frame]
  rfl

theorem Tick.advance_adv (t : Tick) (c : Channel) : (t.advance c).adv.get c = some (t.nextAdvance c) := by
  rw [Tick.advance_eq]
  exact PerChannel.get_set_self _ _ _

/-- What the stages before the lanes may change: the channels, the trip unit, the accumulation of channel `c` by its sense
work, and what they note of its advance, its closed measurement and its events (R4, R114). -/
theorem Tick.opening_frame (t : Tick) (c : Channel) : t.opening c = { t with
    st := { t.st with
      chans := (t.opening c).st.chans, trip := (t.opening c).st.trip
      sense := t.st.sense.set c ((t.st.sense.get c).work (t.verdict.get c) (t.nextAdvance c)).1 }
    adv := (t.opening c).adv, closed := (t.opening c).closed, events := (t.opening c).events } := by
  obtain ⟨e, -, sensed⟩ := (t.advance c).senseWork_eq c (t.advance_adv c)
  rw [Tick.opening_senseWork, sensed, Tick.advance_eq]
  rfl

/-- A truncation is an event of its channel's sense work (R116). -/
theorem Tick.opening_truncated (t : Tick) (c : Channel) {m : Measurement} (truncated : m.truncated = true)
    (closed : ((t.st.sense.get c).work (t.verdict.get c) (t.nextAdvance c)).2 = some m) :
    .truncated c ∈ (t.opening c).events := by
  have stands : (t.advance c).st.sense = t.st.sense ∧ (t.advance c).verdict = t.verdict := by
    rw [Tick.advance_eq]
    exact ⟨rfl, rfl⟩
  have sensed : .truncated c ∈ ((t.advance c).senseWork c).events := by
    unfold Tick.senseWork
    rw [Tick.advance_adv, stands.1, stands.2]
    dsimp only
    rw [closed, if_pos (by exact truncated)]
    exact List.mem_cons_self
  rw [Tick.opening_senseWork]
  exact sensed

/-- What the stages after the lanes may change (R13, R14, R22, R24). -/
theorem Tick.ending_frame (t : Tick) (c : Channel) : t.ending c = { t with
    st := { t.st with chans := (t.ending c).st.chans, ports := (t.ending c).st.ports }
    handed := (t.ending c).handed, events := (t.ending c).events } := by
  obtain ⟨n, p, h, emitted⟩ := (t.ramps c).emit_eq c
  unfold Tick.ending
  rw [emitted, Tick.ramps_eq]
  rfl

/-! ### The links' sources -/

theorem State.takeLink_frame (s : State) (k : Channel) : s.takeLink k = { s with
    chans := (s.takeLink k).chans, lanes := (s.takeLink k).lanes, trip := (s.takeLink k).trip
    links := (s.takeLink k).links, ports := (s.takeLink k).ports } := by
  unfold State.takeLink
  dsimp only
  rw [State.takeSource_frame, State.takeSource_frame s]

/-- What the links' sources may change (R145 to R147). -/
theorem State.takeLinks_frame (s : State) (o : LinkOrder) : s.takeLinks o = { s with
    chans := (s.takeLinks o).chans, lanes := (s.takeLinks o).lanes, trip := (s.takeLinks o).trip
    links := (s.takeLinks o).links, ports := (s.takeLinks o).ports } := by
  unfold State.takeLinks
  rw [State.takeLink_frame, State.takeLink_frame (s.takeLink _), State.takeLink_frame s]

/-! ### After the channels' work -/

theorem Tick.frames_sense (t : Tick) (o : TickOrder) (started : Channel → Bool) :
    (t.frames o started).st.sense = t.st.sense := rfl

/-- A setpoint frame opens the window of its answer (R160). -/
theorem Tick.frames_answer (t : Tick) (o : TickOrder) (started : Channel → Bool) (k : Channel) :
    ((t.frames o started).st.links.get k).answer = none := by cases k <;> rfl

/-- The end of a pulse changes its line and is an event (R107). -/
theorem Tick.endPulse_frame (t : Tick) (m : MarkerLine) (acted : Bool) : t.endPulse m acted = { t with
    st := { t.st with marker1 := (t.endPulse m acted).st.marker1, marker2 := (t.endPulse m acted).st.marker2 }
    events := (t.endPulse m acted).events } := by
  unfold Tick.endPulse
  split
  · cases m <;> rfl
  · rfl

theorem State.laneStart_frame (s : State) (l : LaneId) (p : Port) (d : Nat) : s.laneStart l p d = { s with
    lanes := (s.laneStart l p d).lanes, engine := (s.laneStart l p d).engine, ports := (s.laneStart l p d).ports } := by
  unfold State.laneStart
  split <;> rfl

theorem Tick.takeStarts_frame (t : Tick) (starts : List (LaneId × Port × Nat)) :
    t.takeStarts starts = t.withState { t.st with
      lanes := (t.takeStarts starts).st.lanes, engine := (t.takeStarts starts).st.engine
      ports := (t.takeStarts starts).st.ports } := by
  induction starts generalizing t with
  | nil => rfl
  | cons e starts ih =>
    have rest := ih (t.withState (t.st.laneStart e.1 e.2.1 e.2.2))
    have head : t.takeStarts (e :: starts) = (t.withState (t.st.laneStart e.1 e.2.1 e.2.2)).takeStarts starts := rfl
    rw [head, rest, State.laneStart_frame]
    rfl

theorem Tick.offerWork_frame (t : Tick) (b : Bool) : t.offerWork b = { t with
    st := { t.st with comps := (t.offerWork b).st.comps, engine := (t.offerWork b).st.engine
                      mem := (t.offerWork b).st.mem, ports := (t.offerWork b).st.ports }
    events := (t.offerWork b).events } := by
  unfold Tick.offerWork
  split
  · split
    · split
      · dsimp only
        rw [State.takeOffer_frame]
        split_ifs <;> rfl
      · rfl
    · rfl
  · rfl

/-- What the capture engine's work may change (R131 to R136). -/
theorem Tick.captureWork_frame (t : Tick) (b : Bool) (n : Nat) : t.captureWork b n = { t with
    st := { t.st with
      lanes := (t.captureWork b n).st.lanes, comps := (t.captureWork b n).st.comps
      engine := (t.captureWork b n).st.engine, mem := (t.captureWork b n).st.mem
      ports := (t.captureWork b n).st.ports }
    events := (t.captureWork b n).events } := by
  unfold Tick.captureWork
  rw [Tick.takeStarts_frame, Tick.offerWork_frame, Tick.takeStarts_frame t]
  rfl

/-! ### The whole sample event -/

/-- The scratch record of a sample event after the setpoint frames (R160). -/
def tickFrames (o : TickOrder) (s : State) : Tick :=
  (tickChannels o s).frames o (startedFirst (s.trip.state == .normal && (tickChannels o s).st.trip.state == .tripped) o
    ((Tick.verdicts s).st.firstGroup o.before)
    ⟨(Tick.verdicts s).st.newSource .L1, (Tick.verdicts s).st.newSource .L2, (Tick.verdicts s).st.newSource .L3⟩)

/-- The frames are followed by the ends of pulses and the capture engine's work (R107, R131 to R136). -/
theorem tick_eq (o : TickOrder) (s : State) : tick o s
    = (((tickFrames o s).endPulse .M1 (tickFrames o s).acted1).endPulse .M2 (tickFrames o s).acted2).captureWork
        s.engine.isActive o.startsFirst := rfl

/-- The ends of pulses and the capture engine's work leave the sense unit and the links. -/
theorem Tick.captureWork_endPulse_stands (t : Tick) (b1 b2 b : Bool) (n : Nat) :
    (((t.endPulse .M1 b1).endPulse .M2 b2).captureWork b n).st.sense = t.st.sense
    ∧ (((t.endPulse .M1 b1).endPulse .M2 b2).captureWork b n).st.links = t.st.links := by
  rw [Tick.captureWork_frame, Tick.endPulse_frame, Tick.endPulse_frame t]
  exact ⟨rfl, rfl⟩

/-- What follows the channels' work leaves the sense unit. -/
theorem tick_sense (o : TickOrder) (s : State) : (tick o s).st.sense = (tickChannels o s).st.sense := by
  rw [tick_eq, (Tick.captureWork_endPulse_stands _ _ _ _ _).1]
  exact Tick.frames_sense _ _ _

/-- After a sample event the window of every link is open and has no answer yet (R160). -/
theorem tick_answer (o : TickOrder) (s : State) (k : Channel) : ((tick o s).st.links.get k).answer = none := by
  rw [tick_eq, (Tick.captureWork_endPulse_stands _ _ _ _ _).2]
  exact Tick.frames_answer _ _ _ k

end Sys2Proof.Machine
end

section
/-! PROOF. The sense work of one channel keeps its accumulation and its record within their bounds (R113, R114, R116,
R120), and a sample event keeps those of every channel. -/

namespace Sys2Proof.Machine

/-! ### Codes -/

theorem codeInRange_clampCode (v : Int) : codeInRange (clampCode v) := by
  unfold clampCode
  rw [clampInt_eq (by decide)]
  exact ⟨le_max_left _ _, max_le (by decide) (min_le_left _ _)⟩

theorem natAbs_sq_le {v : Int} (h : codeInRange v) : v.natAbs * v.natAbs ≤ 1073676289 := by
  obtain ⟨low, high⟩ := h
  have code : v.natAbs ≤ 32767 := by omega
  exact Nat.mul_le_mul code code

/-- A delivered verdict with codes of a received frame (R112). -/
def Delivered.InRange : Delivered → Prop
  | .received v i _ => codeInRange v ∧ codeInRange i
  | .missing => True

/-- A link whose answer is in range delivers codes in range (R165). -/
theorem Link.verdict_inRange {x : Link} (h : ∀ q ∈ x.answer, codeInRange q.v ∧ codeInRange q.i) :
    ∀ d ∈ x.verdict.2, d.InRange := by
  unfold Link.verdict
  split
  · rintro d ⟨⟩
  · rename_i n q _ answer
    intro d delivered
    dsimp only at delivered
    split at delivered <;> obtain rfl := Option.some.inj delivered
    · exact h q answer
    · trivial
  · rintro d ⟨⟩
    trivial

/-! ### One channel -/

/-- An accumulation of at most `k` samples, its limited ones among those received, its sums those of squares of codes
(R111, R113). -/
structure Sense.Accumulates (x : Sense) (k : Nat) : Prop where
  samples : x.n + x.missing ≤ k
  limit : x.limit ≤ x.n
  sumV : x.sumV ≤ x.n * 1073676289
  sumI : x.sumI ≤ x.n * 1073676289

/-- A measurement within its ranges (R120). -/
def Measurement.Bounded (m : Measurement) : Prop :=
  m.n + m.missing ≤ 1024 ∧ m.limit ≤ m.n ∧ m.rmsV ≤ 32767 ∧ m.rmsI ≤ 32767 ∧ (m.incomplete = true ↔ 0 < m.missing)

theorem Sense.bounded_iff (x : Sense) : x.bounded ↔ (x.isOpen = true → x.Accumulates 1023) ∧ x.nextSeq < 65536
    ∧ ∀ m ∈ x.record, m.Bounded := by
  refine and_congr_left fun _ => imp_congr_right fun _ => ⟨?_, ?_⟩
  · rintro ⟨samples, limit, sumV, sumI⟩
    exact ⟨Nat.le_of_lt_succ samples, limit, sumV, sumI⟩
  · rintro ⟨samples, limit, sumV, sumI⟩
    exact ⟨Nat.lt_succ_of_le samples, limit, sumV, sumI⟩

/-- An attribution adds at most one sample. -/
theorem Sense.Accumulates.attribute {x : Sense} {k : Nat} (h : x.Accumulates k) {d : Option Delivered}
    (range : ∀ e ∈ d, e.InRange) : (x.attribute d).Accumulates (k + 1) := by
  obtain ⟨samples, limit, sumV, sumI⟩ := h
  unfold Sense.attribute
  split
  · split
    · exact ⟨by omega, limit, sumV, sumI⟩
    · exact ⟨by dsimp only; omega, limit, sumV, sumI⟩
    · rename_i v i limited
      obtain ⟨codeV, codeI⟩ := range _ rfl
      have squareV := natAbs_sq_le codeV
      have squareI := natAbs_sq_le codeI
      refine ⟨?_, ?_, ?_, ?_⟩ <;> dsimp only
      · omega
      · split <;> omega
      · omega
      · omega
  · exact ⟨by omega, limit, sumV, sumI⟩

/-- An accumulation closes with a measurement within its ranges (R119, R120). -/
theorem Sense.Accumulates.measure {x : Sense} (h : x.Accumulates 1024) (truncated : Bool) :
    (x.measure truncated).Bounded :=
  ⟨h.samples, h.limit, rmsOf_le h.sumV, rmsOf_le h.sumI, decide_eq_true_iff⟩

/-- A new accumulation is empty. -/
theorem Sense.accumulates_openAt (x : Sense) (p : Option Polarity) (k : Nat) : (x.openAt p).Accumulates k :=
  ⟨Nat.zero_le k, Nat.le_refl 0, Nat.zero_le _, Nat.zero_le _⟩

theorem Sense.Accumulates.close {x : Sense} (h : x.Accumulates 1024) (truncated : Bool) (p : Option Polarity) :
    (x.close truncated p).bounded := by
  rw [Sense.bounded_iff]
  refine ⟨fun _ => Sense.accumulates_openAt _ p _, Nat.mod_lt _ (by decide), fun m hm => ?_⟩
  obtain rfl := Option.some.inj hm
  exact h.measure truncated

/-- The polarity of the half that an advance across a boundary opens (R114). -/
def Advance.polarity (a : Advance) : Polarity := if a.wraps then .positive else .negative

section
variable {x : Sense} {a : Advance}

/-- At a boundary the open accumulation is published and a new one opens. -/
theorem Sense.boundary_of_open (crossed : (a.wraps || a.halves) = true) (isOpen : x.isOpen = true) :
    x.boundary a = (x.close false (some a.polarity), some (x.measure false)) := by
  unfold Sense.boundary
  rw [if_pos crossed, isOpen]
  rfl

/-- At a boundary without an open accumulation one opens. -/
theorem Sense.boundary_of_closed (crossed : (a.wraps || a.halves) = true) (closed : x.isOpen = false) :
    x.boundary a = (x.openAt (some a.polarity), none) := by
  unfold Sense.boundary
  rw [if_pos crossed, closed]
  rfl

/-- Between boundaries an accumulation that has reached 1,024 samples is published TRUNCATED (R116). -/
theorem Sense.boundary_of_full (uncrossed : (a.wraps || a.halves) = false) (isOpen : x.isOpen = true)
    (full : 1024 ≤ x.n + x.missing) : x.boundary a = (x.close true x.polarity, some (x.measure true)) := by
  unfold Sense.boundary
  rw [uncrossed, isOpen, decide_eq_true full]
  rfl

/-- Between boundaries nothing is published otherwise. -/
theorem Sense.boundary_of_within (uncrossed : (a.wraps || a.halves) = false)
    (within : x.isOpen = false ∨ x.n + x.missing < 1024) : x.boundary a = (x, none) := by
  have unfilled : (x.isOpen && decide (1024 ≤ x.n + x.missing)) = false := by
    obtain closed | few := within
    · rw [closed, Bool.false_and]
    · rw [decide_eq_false (Nat.not_le.2 few), Bool.and_false]
  unfold Sense.boundary
  rw [uncrossed, unfilled]
  rfl

end

/-- The sense work keeps the bounds: an accumulation that has reached 1,024 samples is closed (R114, R116). -/
theorem Sense.bounded.work {x : Sense} (h : x.bounded) {d : Option Delivered} (range : ∀ e ∈ d, e.InRange)
    (a : Advance) : (x.work d a).1.bounded := by
  obtain ⟨accumulates, seq, record⟩ := x.bounded_iff.1 h
  obtain ⟨isOpen, -, nextSeq, stands⟩ := x.attribute_frame d
  have attributed : (x.attribute d).isOpen = true → (x.attribute d).Accumulates 1024 := fun hy =>
    (accumulates (isOpen ▸ hy)).attribute range
  rw [← nextSeq] at seq
  rw [← stands] at record
  unfold Sense.work
  generalize x.attribute d = y at attributed seq record
  cases crossed : a.wraps || a.halves <;> cases hy : y.isOpen
  case false.false =>
    rw [Sense.boundary_of_within crossed (.inl hy)]
    exact y.bounded_iff.2 ⟨fun e => absurd e (by simp [hy]), seq, record⟩
  case false.true =>
    obtain full | few := le_or_gt 1024 (y.n + y.missing)
    · rw [Sense.boundary_of_full crossed hy full]
      exact (attributed hy).close _ _
    · rw [Sense.boundary_of_within crossed (.inr few)]
      obtain ⟨-, limit, sumV, sumI⟩ := attributed hy
      exact y.bounded_iff.2 ⟨fun _ => ⟨Nat.le_of_lt_succ few, limit, sumV, sumI⟩, seq, record⟩
  case true.false =>
    rw [Sense.boundary_of_closed crossed hy]
    exact (Sense.bounded_iff _).2 ⟨fun _ => y.accumulates_openAt _ _, seq, record⟩
  case true.true =>
    rw [Sense.boundary_of_open crossed hy]
    exact (attributed hy).close _ _

/-! ### The links' answers -/

theorem Link.takeStatus_answer (x : Link) (q : Status) :
    (x.takeStatus q).answer = x.answer ∨ (x.takeStatus q).answer = some q := by
  unfold Link.takeStatus
  split
  · exact .inl rfl
  · split
    · exact .inl rfl
    · exact .inr rfl

/-- A frame judged leaves the answer of its window, or gives it with codes in range (R158, R161). -/
theorem Link.judge_answer (x : Link) (chars : List Byte) (stops : Bool) : (x.judge chars stops).answer = x.answer
    ∨ ∃ q : Status, (x.judge chars stops).answer = some q ∧ codeInRange q.v ∧ codeInRange q.i := by
  unfold Link.judge
  split
  · split_ifs
    · exact .inl rfl
    · exact .inl rfl
    · exact (x.takeStatus_answer _).imp id fun taken =>
        ⟨_, taken, codeInRange_clampCode _, codeInRange_clampCode _⟩
  · exact .inl rfl

/-! ### A sample event -/

/-- Within a sample event: every accumulation and record is within its bounds, and so is every verdict delivered. -/
structure Tick.SenseBounded (t : Tick) : Prop where
  sense (c : Channel) : (t.st.sense.get c).bounded
  verdict (c : Channel) : ∀ d ∈ t.verdict.get c, d.InRange

theorem Tick.SenseBounded.of_eq {t u : Tick} (h : t.SenseBounded) (sense : u.st.sense = t.st.sense)
    (verdict : u.verdict = t.verdict) : u.SenseBounded :=
  ⟨fun c => by rw [sense]; exact h.sense c, fun c => by rw [verdict]; exact h.verdict c⟩

theorem Tick.SenseBounded.opening {t : Tick} (h : t.SenseBounded) (c : Channel) : (t.opening c).SenseBounded := by
  rw [Tick.opening_frame]
  refine ⟨fun d => ?_, h.verdict⟩
  rw [PerChannel.get_set]
  split_ifs
  · exact (h.sense c).work (h.verdict c) _
  · exact h.sense d

theorem Tick.SenseBounded.work {t : Tick} (h : t.SenseBounded) (g : ChannelSet) : (t.work g).SenseBounded := by
  have opened : (t.openings g).SenseBounded := Tick.forChannels_keeps (fun _ c _ hu => hu.opening c) h
  have lanes := (t.openings g).laneFrame_lanesIn g
  have worked : ((t.openings g).lanesIn g).SenseBounded := opened.of_eq (by rw [lanes]) (by rw [lanes])
  exact Tick.forChannels_keeps (fun u c _ hu => hu.of_eq (by rw [u.ending_frame]) (by rw [u.ending_frame])) worked

theorem Tick.SenseBounded.channelWork {t : Tick} (h : t.SenseBounded) (o : TickOrder) (g : ChannelSet) :
    (t.channelWork o g).SenseBounded := by
  have taken : ((t.work g).withState ((t.work g).st.takeLinks o.sources)).SenseBounded :=
    (h.work g).of_eq (by rw [State.takeLinks_frame]; rfl) rfl
  exact taken.work (otherChannels g)

theorem Tick.verdicts_senseBounded {s : State} (h : s.senseBounded) : (Tick.verdicts s).SenseBounded := by
  have begun := Tick.verdicts_begun s
  refine ⟨fun c => by rw [begun.sense]; exact h.1 c, fun c => ?_⟩
  rw [begun.verdict]
  exact Link.verdict_inRange (h.2 c)

theorem tick_senseBounded (o : TickOrder) {s : State} (h : s.senseBounded) : (tick o s).st.senseBounded := by
  have worked : (tickChannels o s).SenseBounded := (Tick.verdicts_senseBounded h).channelWork o _
  refine ⟨fun c => ?_, fun k q answer => ?_⟩
  · rw [tick_sense]
    exact worked.sense c
  · rw [tick_answer] at answer
    cases answer

end Sys2Proof.Machine
end

section
/-! PROOF. What a command can do to the sense unit and to the answers that the links keep for it, said once
(`State.SenseEffect`, `exec_senseEffect`): nothing, but for a reset, a sample event and a judged status frame. The commands
of Chapters 2 to 5 let every block of Chapters 6 to 9 stand (`State.MonitorsStand`). -/

namespace Sys2Proof.Machine

/-! ### What stands -/

/-- The sense unit, the capture engine with its descriptors, records and memory, the trip unit and the links stand. -/
structure State.MonitorsStand (s t : State) : Prop where
  sense : t.sense = s.sense
  descs : t.descs = s.descs
  comps : t.comps = s.comps
  engine : t.engine = s.engine
  mem : t.mem = s.mem
  trip : t.trip = s.trip
  links : t.links = s.links

/-- A record update of the other fields. -/
theorem State.MonitorsStand.of_frame {s t : State} (h : t = { s with
    pending := t.pending, chans := t.chans, tables := t.tables, wave := t.wave, overlays := t.overlays, steps := t.steps
    programs := t.programs, lanes := t.lanes, key1 := t.key1, key2 := t.key2, marker1 := t.marker1
    marker2 := t.marker2, ports := t.ports }) : s.MonitorsStand t := by
  rw [h]
  exact ⟨rfl, rfl, rfl, rfl, rfl, rfl, rfl⟩

theorem State.MonitorsStand.refl (s : State) : s.MonitorsStand s := .of_frame rfl

/-- The sense unit stands, and so does the answer in the window of each link. -/
structure State.SenseStands (s t : State) : Prop where
  sense : t.sense = s.sense
  answer (k : Channel) : (t.links.get k).answer = (s.links.get k).answer

theorem State.SenseStands.of_eq {s t : State} (sense : t.sense = s.sense) (links : t.links = s.links) :
    s.SenseStands t := ⟨sense, fun k => by rw [links]⟩

theorem State.SenseStands.refl (s : State) : s.SenseStands s := .of_eq rfl rfl

theorem State.SenseStands.trans {s t u : State} (h : s.SenseStands t) (k : t.SenseStands u) : s.SenseStands u :=
  ⟨k.sense.trans h.sense, fun c => (k.answer c).trans (h.answer c)⟩

theorem State.MonitorsStand.senseStands {s t : State} (h : s.MonitorsStand t) : s.SenseStands t :=
  .of_eq h.sense h.links

/-! ### Chapters 2 to 5 and 10 -/

theorem monitors_setChannel (s : State) (ch : Nat) (r : RawParams) : s.MonitorsStand (s.setChannel ch r).1 := by
  have written : ∀ (c : Channel) (q : ParamSet), s.MonitorsStand (s.writeSet c q) := by
    intro c q
    unfold State.writeSet
    dsimp only
    split <;> exact .of_frame rfl
  unfold State.setChannel
  split
  · exact .refl s
  · split_ifs
    · exact .refl s
    · exact .refl s
    · exact written _ _
    · exact .refl s

theorem monitors_getChannel (s : State) (ch clear : Nat) : s.MonitorsStand (s.getChannel ch clear).1 := by
  unfold State.getChannel
  split
  · dsimp only
    split_ifs <;> exact .of_frame rfl
  · exact .refl s

theorem monitors_relink (s : State) (ch : Nat) (change : Chan → Chan) : s.MonitorsStand (s.relink ch change).1 := by
  obtain h | ⟨c, -, h⟩ := relink_cases s ch change
  · rw [h]
    exact .refl s
  · rw [h]
    exact .of_frame rfl

theorem monitors_beginTable (s : State) (p : Port) (n : Nat) : s.MonitorsStand (s.beginTable p n).1 := by
  unfold State.beginTable
  split_ifs <;> exact .of_frame rfl

theorem monitors_writeTableChunk (s : State) (p : Port) (n c : Nat) (entries : List Int) :
    s.MonitorsStand (s.writeTableChunk p n c entries).1 := by
  unfold State.writeTableChunk
  split
  · exact .refl s
  · split
    · exact .refl s
    · exact .refl s
    · split_ifs <;> exact .of_frame rfl

theorem monitors_commitTable (s : State) (p : Port) (n : Nat) : s.MonitorsStand (s.commitTable p n).1 := by
  unfold State.commitTable
  split
  · exact .refl s
  · split
    · exact .refl s
    · exact .refl s
    · split_ifs <;> exact .of_frame rfl

theorem monitors_discardTable (s : State) (n : Nat) : s.MonitorsStand (s.discardTable n).1 := by
  unfold State.discardTable
  split_ifs <;> exact .of_frame rfl

theorem monitors_writeOverlaySet (s : State) (n count : Nat) (slots : List OverlaySlot) :
    s.MonitorsStand (s.writeOverlaySet n count slots).1 := by
  unfold State.writeOverlaySet
  split_ifs <;> exact .of_frame rfl

theorem monitors_writeStep (s : State) (n : Nat) (r : RawStep) : s.MonitorsStand (s.writeStep n r).1 := by
  unfold State.writeStep
  split
  · exact .refl s
  · split_ifs <;> exact .of_frame rfl

theorem monitors_clearStep (s : State) (n : Nat) : s.MonitorsStand (s.clearStep n).1 := by
  unfold State.clearStep
  split_ifs <;> exact .of_frame rfl

theorem monitors_defineProgram (s : State) (n first count policy : Nat) :
    s.MonitorsStand (s.defineProgram n first count policy).1 := by
  unfold State.defineProgram
  split
  · exact .refl s
  · split_ifs <;> exact .of_frame rfl

theorem monitors_undefineProgram (s : State) (n : Nat) : s.MonitorsStand (s.undefineProgram n).1 := by
  unfold State.undefineProgram
  split_ifs <;> exact .of_frame rfl

theorem monitors_holdLane (s : State) (l : LaneId) (x : Lane) (r : HoldReason) (f : HeldFrom) :
    s.MonitorsStand (s.holdLane l x r f) := by
  unfold State.holdLane
  rw [State.alertOrigin_frame]
  exact .of_frame rfl

theorem monitors_start (s : State) (p : Port) (n m : Nat) : s.MonitorsStand (s.start p n m).1 := by
  obtain h | ⟨q, chans, l, -, -, h⟩ := s.start_cases p n m
  · rw [h]
    exact .refl s
  · rw [h]
    unfold State.launch
    split
    · unfold State.enterBetween
      dsimp only
      split
      · exact monitors_holdLane _ _ _ _ _
      · exact .of_frame rfl
    · exact .refl s

theorem monitors_holdCommand (s : State) (n : Nat) : s.MonitorsStand (s.holdCommand n).1 := by
  unfold State.holdCommand
  split
  · exact .refl s
  · split
    · exact monitors_holdLane _ _ _ _ _
    · exact .refl s

theorem monitors_resumeCommand (s : State) (n : Nat) : s.MonitorsStand (s.resumeCommand n).1 := by
  unfold State.resumeCommand
  split
  · exact .refl s
  · split <;> exact .of_frame rfl

theorem monitors_releaseCommand (s : State) (n : Nat) : s.MonitorsStand (s.releaseCommand n).1 := by
  unfold State.releaseCommand
  split
  · exact .refl s
  · split <;> exact .of_frame rfl

theorem monitors_abortCommand (s : State) (p : Port) (n : Nat) : s.MonitorsStand (s.abortCommand p n).1 := by
  unfold State.abortCommand
  split
  · exact .refl s
  · split <;> exact .of_frame rfl

theorem monitors_changeKey (s : State) (key : Nat) (b : Bool) : s.MonitorsStand (s.changeKey key b).1 := by
  unfold State.changeKey
  split
  · exact .refl s
  · rename_i k _
    cases k <;> exact .of_frame rfl

theorem monitors_setAlertMask (s : State) (p : Port) (mask : Nat) : s.MonitorsStand (s.setAlertMask p mask).1 := by
  unfold State.setAlertMask
  split <;> exact .of_frame rfl

/-! ### Chapter 7 -/

theorem sense_defineDescriptor (s : State) (d : Nat) (r : RawDescriptor) :
    s.SenseStands (s.defineDescriptor d r).1 := by
  unfold State.defineDescriptor
  split
  · exact .refl s
  · split_ifs <;> exact .of_eq rfl rfl

theorem sense_undefineDescriptor (s : State) (d : Nat) : s.SenseStands (s.undefineDescriptor d).1 := by
  unfold State.undefineDescriptor
  split_ifs <;> exact .of_eq rfl rfl

theorem sense_startCapture (s : State) (p : Port) (d : Nat) : s.SenseStands (s.startCapture p d).1 := by
  unfold State.startCapture
  split_ifs <;> exact .of_eq rfl rfl

theorem sense_stopRun (s : State) (d : Nat) : s.SenseStands (s.stopRun d) := by
  rw [State.stopRun_eq]
  exact .of_eq rfl rfl

theorem sense_stopCapture (s : State) : s.SenseStands s.stopCapture.1 := by
  unfold State.stopCapture
  split
  · exact sense_stopRun s _
  · exact .refl s

/-! ### Chapters 8 and 9 -/

/-- An entry to TRIPPED parks the frames that wait, and leaves every answer (R155, R160). -/
theorem sense_enterTripped (s : State) (c : Cause) (p : Option Port) : s.SenseStands (s.enterTripped c p) := by
  have parked : ∀ x : Link, x.parkFrame.answer = x.answer := fun x => by
    unfold Link.parkFrame
    split <;> rfl
  have frames : ∀ u : State, u.SenseStands u.parkFrames := fun u => ⟨rfl, fun k => by cases k <;> exact parked _⟩
  have ended : ∀ u : State, u.SenseStands (u.endLanes .tripped) := fun u => by
    rw [State.endLanes_frame]
    exact .of_eq rfl rfl
  have entered : ∀ x, s.SenseStands (s.setTrip x) := fun _ => .of_eq rfl rfl
  have alerted : ∀ u : State, u.SenseStands (u.alertBoth .trip) := fun u => by
    rw [State.alertBoth_frame]
    exact .of_eq rfl rfl
  exact (((entered _).trans (ended _)).trans (frames _)).trans (alerted _)

theorem sense_takeCause (s : State) (c : Cause) (p : Option Port) : s.SenseStands (s.takeCause c p) := by
  unfold State.takeCause
  split
  · exact sense_enterTripped s c p
  · exact .of_eq rfl rfl

theorem sense_takeSource (s : State) (c : Cause) (on : Bool) : s.SenseStands (s.takeSource c on) := by
  unfold State.takeSource
  split
  · split
    · exact .refl s
    · have joined : s.SenseStands (s.setTrip { s.trip with active := s.trip.active.put c true }) := .of_eq rfl rfl
      exact joined.trans (sense_takeCause _ c none)
  · exact .of_eq rfl rfl

/-- MASTER_CLEAR leaves the sense unit (R183). -/
theorem sense_masterClear (s : State) (p : Port) : s.SenseStands (s.masterClear p).1 := by
  have ended : s.SenseStands (s.endLanes .cleared) := by
    rw [State.endLanes_frame]
    exact .of_eq rfl rfl
  have stopped : ∀ u : State, u.SenseStands u.stopAny := fun u => by
    unfold State.stopAny
    split
    · exact sense_stopRun u _
    · exact .refl u
  have cleared : ∀ u : State, u.SenseStands u.emptyLoading.clearLines := fun u => .of_eq rfl rfl
  exact ((ended.trans (sense_takeCause _ _ _)).trans (stopped _)).trans (cleared _)

theorem sense_restart (s : State) : s.SenseStands s.restart.1 := by
  unfold State.restart
  split_ifs <;> exact .of_eq rfl rfl

/-- GET_LINK clears counts alone (R167). -/
theorem sense_getLink (s : State) (link clear : Nat) : s.SenseStands (s.getLink link clear).1 := by
  unfold State.getLink
  split
  · rename_i k _ _ _
    dsimp only
    split
    · refine ⟨rfl, fun j => ?_⟩
      rw [State.links_setLink, PerChannel.get_set]
      split_ifs with hj
      · rw [hj]
        rfl
      · rfl
    · exact .refl s
  · exact .refl s

/-! ### The effect of a command -/

/-- What a command can do to the sense unit and the links' answers. -/
inductive State.SenseEffect (s : State) : State → Prop
  /-- Nothing. -/
  | stands {t : State} : s.SenseStands t → State.SenseEffect s t
  /-- RESET_N (R184). -/
  | reset (low : Bool) : State.SenseEffect s { State.resetWith low with pending := s.pending }
  /-- A sample event (R114, R162). -/
  | sample (o : TickOrder) : State.SenseEffect s (tick o s).st
  /-- STATUS_FRAME (R161). -/
  | judged (k : Channel) (chars : List Byte) (stops : Bool) :
      State.SenseEffect s (s.setLink k ((s.links.get k).judge chars stops))

theorem State.SenseEffect.refl (s : State) : s.SenseEffect s := .stands (.refl s)

/-- A response leaves what its command has left. -/
theorem State.SenseEffect.answer {s : State} {v : State × Reply} (p : Port) (code : Nat) (h : s.SenseStands v.1) :
    s.SenseEffect (State.answer p code v) := .stands (h.trans (.of_eq rfl rfl))

theorem State.SenseEffect.monitors {s : State} {v : State × Reply} (p : Port) (code : Nat) (h : s.MonitorsStand v.1) :
    s.SenseEffect (State.answer p code v) := .answer p code h.senseStands

/-- A command that only reads leaves its response. -/
theorem State.SenseEffect.reads (s : State) (p : Port) (code : Nat) (r : Reply) :
    s.SenseEffect (State.answer p code (s, r)) := .answer p code (.refl s)

theorem tickWhen_senseEffect (e : TickEvent) (o : TickOrder) (s : State) : s.SenseEffect (tickWhen e o s) := by
  unfold tickWhen
  split
  · exact .sample o
  · exact .refl s

/-- Every command but the deselect itself has an effect of the list. -/
theorem exec_senseEffect_of_ne (i : Instr) (hi : ∀ p : Port, i ≠ .frameError p) (s : State) :
    ∃ t : State, exec i s = .next t ∧ s.SenseEffect t := by
  cases i with
  | frameError p => exact absurd rfl (hi p)
  | resetNAssertion low => exact ⟨_, rfl, .reset low⟩
  | sampleEvent o => exact ⟨_, rfl, .sample o⟩
  | levelRampEnd c o => exact ⟨_, rfl, tickWhen_senseEffect _ o s⟩
  | frequencyRampEnd c o => exact ⟨_, rfl, tickWhen_senseEffect _ o s⟩
  | linkLost k o => exact ⟨_, rfl, tickWhen_senseEffect _ o s⟩
  | linkRecovered k o => exact ⟨_, rfl, tickWhen_senseEffect _ o s⟩
  | truncated c o => exact ⟨_, rfl, tickWhen_senseEffect _ o s⟩
  | markerPulseEnd m o => exact ⟨_, rfl, tickWhen_senseEffect _ o s⟩
  | dwellEnd l o => exact ⟨_, rfl, tickWhen_senseEffect _ o s⟩
  | waitMet l o => exact ⟨_, rfl, tickWhen_senseEffect _ o s⟩
  | waitTimeout l o => exact ⟨_, rfl, tickWhen_senseEffect _ o s⟩
  | decimationPass o => exact ⟨_, rfl, tickWhen_senseEffect _ o s⟩
  | capturePassFull o => exact ⟨_, rfl, tickWhen_senseEffect _ o s⟩
  | statusFrame k chars stops => exact ⟨_, rfl, .judged k chars stops⟩
  | tripNAsserted => exact ⟨_, rfl, .stands (sense_takeSource s .tripN true)⟩
  | tripNReleased => exact ⟨_, rfl, .stands (sense_takeSource s .tripN false)⟩
  | spiSelect p => exact ⟨_, rfl, .stands (.of_eq rfl rfl)⟩
  | spiByteCompleted p b =>
    simp only [exec, execSpiByteCompleted]
    split
    · exact ⟨_, rfl, .stands (.of_eq rfl rfl)⟩
    · exact ⟨_, rfl, .refl s⟩
  | nop p => exact ⟨_, rfl, .reads s p _ _⟩
  | identify p => exact ⟨_, rfl, .reads s p _ _⟩
  | getAlerts p => exact ⟨_, rfl, .answer p _ (.of_eq rfl rfl)⟩
  | setAlertMask p mask => exact ⟨_, rfl, .monitors p _ (monitors_setAlertMask s p mask)⟩
  | masterClear p => exact ⟨_, rfl, .answer p _ (sense_masterClear s p)⟩
  | setChannel p ch r => exact ⟨_, rfl, .monitors p _ (monitors_setChannel s ch r)⟩
  | getChannel p ch clear => exact ⟨_, rfl, .monitors p _ (monitors_getChannel s ch clear)⟩
  | linkChannelFollow p ch offset => exact ⟨_, rfl, .monitors p _ (monitors_relink s ch _)⟩
  | linkChannelUnlink p ch => exact ⟨_, rfl, .monitors p _ (monitors_relink s ch _)⟩
  | beginTable p n => exact ⟨_, rfl, .monitors p _ (monitors_beginTable s p n)⟩
  | writeTableChunk p n c e => exact ⟨_, rfl, .monitors p _ (monitors_writeTableChunk s p n c e)⟩
  | commitTable p n => exact ⟨_, rfl, .monitors p _ (monitors_commitTable s p n)⟩
  | discardTable p n => exact ⟨_, rfl, .monitors p _ (monitors_discardTable s n)⟩
  | readTableChunk p n c => exact ⟨_, rfl, .reads s p _ _⟩
  | getTableState p n => exact ⟨_, rfl, .reads s p _ _⟩
  | writeOverlaySet p n count slots => exact ⟨_, rfl, .monitors p _ (monitors_writeOverlaySet s n count slots)⟩
  | readOverlaySet p n => exact ⟨_, rfl, .reads s p _ _⟩
  | writeStep p n r => exact ⟨_, rfl, .monitors p _ (monitors_writeStep s n r)⟩
  | readStep p n => exact ⟨_, rfl, .reads s p _ _⟩
  | clearStep p n => exact ⟨_, rfl, .monitors p _ (monitors_clearStep s n)⟩
  | writeProgramDefine p n first count policy =>
    exact ⟨_, rfl, .monitors p _ (monitors_defineProgram s n first count policy)⟩
  | writeProgramUndefine p n => exact ⟨_, rfl, .monitors p _ (monitors_undefineProgram s n)⟩
  | readProgram p n => exact ⟨_, rfl, .reads s p _ _⟩
  | start p program channels => exact ⟨_, rfl, .monitors p _ (monitors_start s p program channels)⟩
  | hold p lane => exact ⟨_, rfl, .monitors p _ (monitors_holdCommand s lane)⟩
  | resume p lane => exact ⟨_, rfl, .monitors p _ (monitors_resumeCommand s lane)⟩
  | release p lane => exact ⟨_, rfl, .monitors p _ (monitors_releaseCommand s lane)⟩
  | abort p lane => exact ⟨_, rfl, .monitors p _ (monitors_abortCommand s p lane)⟩
  | getLane p lane => exact ⟨_, rfl, .reads s p _ _⟩
  | setHoldKey p key => exact ⟨_, rfl, .monitors p _ (monitors_changeKey s key true)⟩
  | clearHoldKey p key => exact ⟨_, rfl, .monitors p _ (monitors_changeKey s key false)⟩
  | getMeasurement p ch => exact ⟨_, rfl, .reads s p _ _⟩
  | writeDescriptorDefine p d r => exact ⟨_, rfl, .answer p _ (sense_defineDescriptor s d r)⟩
  | writeDescriptorUndefine p d => exact ⟨_, rfl, .answer p _ (sense_undefineDescriptor s d)⟩
  | readDescriptor p d => exact ⟨_, rfl, .reads s p _ _⟩
  | startCapture p d => exact ⟨_, rfl, .answer p _ (sense_startCapture s p d)⟩
  | stopCapture p => exact ⟨_, rfl, .answer p _ (sense_stopCapture s)⟩
  | readCapture p a c => exact ⟨_, rfl, .reads s p _ _⟩
  | getCapture p => exact ⟨_, rfl, .reads s p _ _⟩
  | trip p => exact ⟨_, rfl, .answer p _ (sense_takeCause s .portTrip (some p))⟩
  | restart p => exact ⟨_, rfl, .answer p _ (sense_restart s)⟩
  | getTrip p => exact ⟨_, rfl, .reads s p _ _⟩
  | getLink p link clear => exact ⟨_, rfl, .answer p _ (sense_getLink s link clear)⟩

/-- A deselect changes nothing, leaves a response, or is the row of its frame's command, which is no deselect (R171,
R174). -/
theorem exec_frameError_cases (p : Port) (s : State) : exec (.frameError p) s = .next s
    ∨ (∃ r : Response, exec (.frameError p) s = .next (s.hold p r))
    ∨ ∃ i : Instr, (∀ q : Port, i ≠ .frameError q) ∧ exec (.frameError p) s = exec i s := by
  simp only [exec, execFrameError]
  split
  · split
    · exact .inr (.inl ⟨_, rfl⟩)
    · split
      · rename_i i _
        by_cases hi : ∀ q : Port, i ≠ .frameError q
        · exact (takeCommand_cases i s).symm.imp id fun h => .inr ⟨i, hi, h⟩
        · obtain ⟨q, rfl⟩ : ∃ q : Port, i = .frameError q := by simpa using hi
          exact .inl rfl
      · exact .inr (.inl ⟨_, rfl⟩)
  · exact .inl rfl

/-- Every command answers a next state and has an effect of the list. -/
theorem exec_senseEffect (i : Instr) (s : State) : ∃ t : State, exec i s = .next t ∧ s.SenseEffect t := by
  by_cases hi : ∀ p : Port, i ≠ .frameError p
  · exact exec_senseEffect_of_ne i hi s
  · obtain ⟨p, rfl⟩ : ∃ p : Port, i = .frameError p := by simpa using hi
    obtain h | ⟨r, h⟩ | ⟨j, hj, h⟩ := exec_frameError_cases p s
    · exact ⟨s, h, .refl s⟩
    · exact ⟨_, h, .stands (.of_eq rfl rfl)⟩
    · rw [h]
      exact exec_senseEffect_of_ne j hj s

/-! ### Every step -/

theorem State.SenseEffect.bounded {s t : State} (e : s.SenseEffect t) (h : s.senseBounded) : t.senseBounded := by
  cases e with
  | stands stands => exact ⟨fun c => by rw [stands.sense]; exact h.1 c, fun k => by rw [stands.answer]; exact h.2 k⟩
  | reset low => exact State.reset_senseBounded low
  | sample o => exact tick_senseBounded o h
  | judged k chars stops =>
    refine ⟨h.1, fun j q answer => ?_⟩
    rw [State.links_setLink, PerChannel.get_set] at answer
    split_ifs at answer
    · obtain stands | ⟨r, taken, range⟩ := (s.links.get k).judge_answer chars stops
      · exact h.2 k q (stands ▸ answer)
      · obtain rfl := Option.some.inj (taken.symm.trans answer)
        exact range
    · exact h.2 j q answer

/-- Settles O56: the bounds read nothing of the queue, and every effect of a command keeps them. -/
theorem stepKeepsMeasurementsBounded : Obligations.StepKeepsMeasurementsBounded := by
  intro s t bounded h
  unfold step at h
  split at h
  · cases h
    exact bounded
  · rename_i i rest _
    obtain ⟨u, taken, effect⟩ := exec_senseEffect i { s with pending := rest }
    rw [taken] at h
    cases h
    exact effect.bounded bounded

end Sys2Proof.Machine
end

section
/-! PROOF. The sense work and the marker lines at a sample event. Without an entry due each channel's accumulation takes its
verdict and the boundary of the advance that the state foretells (`tick_sense_of_noEntryDue`, R114). The marker lines are
those after the channels' work but for the pulses that end (`tick_marker`, R107); no lane acts on them when each is IDLE,
HELD or CLOSING (`State.LanesInert`), and one lane alone, its step due, acts on them as its step says. -/

namespace Sys2Proof.Machine

/-! ### The sense work without an entry -/

/-- Without an entry due, all channels' work comes before the links' sources. -/
theorem tickChannels_eq_of_noEntryDue (o : TickOrder) {s : State} (entry : s.noEntryDue) :
    tickChannels o s = ((Tick.verdicts s).work (PerChannel.all true)).withState
      (((Tick.verdicts s).work (PerChannel.all true)).st.takeLinks o.sources) := by
  rw [tickChannels, State.firstGroup_of_settled entry.settled, Tick.channelWork_all]

theorem Tick.endings_events (t : Tick) (g : ChannelSet) : t.events ⊆ (t.endings g).events :=
  Tick.forChannels_keeps (P := fun u => t.events ⊆ u.events) (fun u c _ h => List.Subset.trans h (u.ending_spec c).events)
    (List.Subset.refl _)

/-- The sense work of a group is done before its lanes' work, and its events stay. -/
theorem Tick.work_sense (t : Tick) (g : ChannelSet) :
    (t.work g).st.sense = (t.openings g).st.sense ∧ (t.openings g).events ⊆ (t.work g).events := by
  have lanes : ((t.openings g).lanesIn g).st.sense = (t.openings g).st.sense := by
    rw [(t.openings g).laneFrame_lanesIn g]
  have endings : ∀ u : Tick, (u.endings g).st.sense = u.st.sense := fun u =>
    Tick.forChannels_keeps (P := fun v => v.st.sense = u.st.sense) (fun v c _ h => by rw [v.ending_frame]; exact h) rfl
  exact ⟨(endings _).trans lanes, List.Subset.trans ((t.openings g).lanesIn_kept g).events (Tick.endings_events _ g)⟩

theorem Tick.takeLinks_sense (t : Tick) (o : LinkOrder) : (t.withState (t.st.takeLinks o)).st.sense = t.st.sense := by
  rw [State.takeLinks_frame]
  rfl

/-- Without an entry the sense work is that of the openings of all channels. -/
theorem tickChannels_sense (o : TickOrder) {s : State} (entry : s.noEntryDue) :
    (tickChannels o s).st.sense = ((Tick.verdicts s).openings (PerChannel.all true)).st.sense
    ∧ ((Tick.verdicts s).openings (PerChannel.all true)).events ⊆ (tickChannels o s).events := by
  have channels := tickChannels_eq_of_noEntryDue o entry
  obtain ⟨sense, events⟩ := (Tick.verdicts s).work_sense (PerChannel.all true)
  generalize (Tick.verdicts s).work (PerChannel.all true) = u at channels sense events
  rw [channels]
  exact ⟨(u.takeLinks_sense o.sources).trans sense, events⟩

/-- A channel's turn in the openings of all channels: it finds its own state as the sample event began, and makes the
advance that the state foretells. -/
theorem Tick.Begun.opening_turn {s : State} {t : Tick} (b : t.Begun s) (c : Channel) : ∃ u : Tick,
    t.Beside c u ∧ u.nextAdvance c = s.advanceOf c ∧ (u.opening c).Beside c (t.openings (PerChannel.all true)) := by
  obtain ⟨before, after⟩ := t.openings_turn (g := PerChannel.all true) (PerChannel.get_all c true)
  refine ⟨_, before, Tick.nextAdvance_eq ((before.apart.chan_eq (.inl trivial)).trans (b.chan c)) fun hf => ?_, after⟩
  rw [t.turn_opening_l1 _ (State.followed_isSome hf).1, if_pos (PerChannel.get_all _ true), Tick.nextAdvance_l1 (b.chan _)]

/-- The openings of all channels: the accumulation after them, and the event of a truncation (R114, R116). -/
theorem Tick.Begun.openings_sense {s : State} {t : Tick} (b : t.Begun s) (c : Channel) :
    let worked := (s.sense.get c).work (s.links.get c).verdict.2 (s.advanceOf c)
    let u := t.openings (PerChannel.all true)
    u.st.sense.get c = worked.1
    ∧ ∀ m : Measurement, worked.2 = some m → m.truncated = true → .truncated c ∈ u.events := by
  intro worked
  obtain ⟨u, before, adv, after⟩ := b.opening_turn c
  have found : (u.st.sense.get c).work (u.verdict.get c) (u.nextAdvance c) = worked := by
    rw [adv, before.sense, before.verdict, b.sense, b.verdict]
  refine ⟨?_, fun m closed truncated => ?_⟩
  · rw [after.sense, u.opening_frame, ← found]
    exact PerChannel.get_set_self _ _ _
  · exact after.apart.events (u.opening_truncated c truncated (by rw [found]; exact closed))

/-- The sense work of a sample event without an entry: the accumulation after it, and the event of a truncation (R114). -/
theorem tick_sense_of_noEntryDue (o : TickOrder) {s : State} (entry : s.noEntryDue) (c : Channel) :
    let worked := (s.sense.get c).work (s.links.get c).verdict.2 (s.advanceOf c)
    (tick o s).st.sense.get c = worked.1
    ∧ ∀ m : Measurement, worked.2 = some m → m.truncated = true → .truncated c ∈ (tick o s).events := by
  intro worked
  obtain ⟨sense, events⟩ := tickChannels_sense o entry
  obtain ⟨opened, truncation⟩ := (Tick.verdicts_begun s).openings_sense c
  refine ⟨?_, fun m closed truncated => (tick_tail o s).events (events (truncation m closed truncated))⟩
  rw [tick_sense, sense]
  exact opened

/-! ### The ends of pulses -/

/-- An action other than NONE was taken on the line in this sample event (R107). -/
def Tick.acted (t : Tick) : MarkerLine → Bool
  | .M1 => t.acted1
  | .M2 => t.acted2

/-- A line after the end of its pulse, if it ends in this sample event (R107). -/
def Marker.pulseEnded (x : Marker) (acted : Bool) : Marker := if x.pulse && !acted then ⟨false, false⟩ else x

theorem Tick.frames_marker (t : Tick) (o : TickOrder) (started : Channel → Bool) (m : MarkerLine) :
    (t.frames o started).st.marker m = t.st.marker m ∧ (t.frames o started).acted m = t.acted m := by
  cases m <;> exact ⟨rfl, rfl⟩

theorem State.marker_setMarker (s : State) (m n : MarkerLine) (x : Marker) :
    (s.setMarker m x).marker n = if n = m then x else s.marker n := by cases m <;> cases n <;> rfl

/-- The end of a pulse, on its own line and on the other. -/
theorem Tick.endPulse_marker (t : Tick) (m n : MarkerLine) (acted : Bool) : (t.endPulse m acted).st.marker n
    = if n = m then (t.st.marker m).pulseEnded acted else t.st.marker n := by
  unfold Tick.endPulse Marker.pulseEnded
  split_ifs with _ same same
  · exact (State.marker_setMarker _ m n _).trans (if_pos same)
  · exact (State.marker_setMarker _ m n _).trans (if_neg same)
  · rw [same]
  · rfl

theorem Tick.endPulse_ends (t : Tick) {m : MarkerLine} {acted : Bool} (pulse : (t.st.marker m).pulse = true)
    (unacted : acted = false) : .markerPulseEnd m ∈ (t.endPulse m acted).events := by
  unfold Tick.endPulse
  rw [if_pos (by rw [pulse, unacted]; rfl)]
  exact List.mem_cons_self

theorem Tick.captureWork_marker (t : Tick) (b : Bool) (n : Nat) (m : MarkerLine) :
    (t.captureWork b n).st.marker m = t.st.marker m := by
  rw [Tick.captureWork_frame]
  cases m <;> rfl

/-- The last part of a sample event: each line's pulse ends, if it is not acted on, and the capture engine works. -/
theorem Tick.pulsesEnded (t : Tick) (b : Bool) (n : Nat) (m : MarkerLine) :
    let u := ((t.endPulse .M1 t.acted1).endPulse .M2 t.acted2).captureWork b n
    u.st.marker m = (t.st.marker m).pulseEnded (t.acted m)
    ∧ ((t.st.marker m).pulse = true → t.acted m = false → .markerPulseEnd m ∈ u.events) := by
  intro u
  have events := (((t.endPulse .M1 t.acted1).endPulse .M2 t.acted2).tail_captureWork b n).events
  have second := ((t.endPulse .M1 t.acted1).tail_endPulse .M2 t.acted2).events
  cases m with
  | M1 =>
    refine ⟨?_, fun pulse unacted => events (second (t.endPulse_ends pulse unacted))⟩
    exact ((Tick.captureWork_marker _ _ _ _).trans (Tick.endPulse_marker _ .M2 .M1 _)).trans (t.endPulse_marker .M1 .M1 _)
  | M2 =>
    have first : (t.endPulse .M1 t.acted1).st.marker .M2 = t.st.marker .M2 := t.endPulse_marker .M1 .M2 _
    refine ⟨?_, fun pulse unacted => events (Tick.endPulse_ends _ (by rw [first]; exact pulse) unacted)⟩
    refine ((Tick.captureWork_marker _ _ _ _).trans (Tick.endPulse_marker _ .M2 .M2 _)).trans ?_
    rw [first]
    rfl

/-- A marker line at the end of a sample event, and the event of its pulse's end (R107). -/
theorem tick_marker (o : TickOrder) (s : State) (m : MarkerLine) :
    (tick o s).st.marker m = ((tickChannels o s).st.marker m).pulseEnded ((tickChannels o s).acted m)
    ∧ (((tickChannels o s).st.marker m).pulse = true → (tickChannels o s).acted m = false →
        .markerPulseEnd m ∈ (tick o s).events) := by
  obtain ⟨marker, acted⟩ : (tickFrames o s).st.marker m = (tickChannels o s).st.marker m
    ∧ (tickFrames o s).acted m = (tickChannels o s).acted m := Tick.frames_marker _ _ _ m
  rw [tick_eq, ← marker, ← acted]
  exact (tickFrames o s).pulsesEnded _ _ m

/-! ### What leaves the marker lines -/

/-- No marker line has been acted on from `t` to `u`. -/
def Tick.MarkersStill (t u : Tick) : Prop := ∀ m : MarkerLine, u.st.marker m = t.st.marker m ∧ u.acted m = t.acted m

theorem Tick.MarkersStill.refl (t : Tick) : t.MarkersStill t := fun _ => ⟨rfl, rfl⟩

theorem Tick.MarkersStill.trans {t u v : Tick} (h : t.MarkersStill u) (k : u.MarkersStill v) : t.MarkersStill v := fun m =>
  ⟨(k m).1.trans (h m).1, (k m).2.trans (h m).2⟩

theorem Tick.markersStill_opening (t : Tick) (c : Channel) : t.MarkersStill (t.opening c) := fun m => by
  rw [t.opening_frame]
  cases m <;> exact ⟨rfl, rfl⟩

theorem Tick.markersStill_ending (t : Tick) (c : Channel) : t.MarkersStill (t.ending c) := fun m => by
  rw [t.ending_frame]
  cases m <;> exact ⟨rfl, rfl⟩

theorem Tick.markersStill_openings (t : Tick) (g : ChannelSet) : t.MarkersStill (t.openings g) :=
  Tick.forChannels_keeps (P := t.MarkersStill) (fun u c _ h => h.trans (u.markersStill_opening c)) (.refl t)

theorem Tick.markersStill_endings (t : Tick) (g : ChannelSet) : t.MarkersStill (t.endings g) :=
  Tick.forChannels_keeps (P := t.MarkersStill) (fun u c _ h => h.trans (u.markersStill_ending c)) (.refl t)

theorem Tick.markersStill_takeLinks (t : Tick) (o : LinkOrder) : t.MarkersStill (t.withState (t.st.takeLinks o)) :=
  fun m => by
    rw [State.takeLinks_frame]
    cases m <;> exact ⟨rfl, rfl⟩

/-- As the channels' work begins the lines are as the sample event found them, and none has been acted on. -/
theorem Tick.verdicts_marker (s : State) (m : MarkerLine) :
    (Tick.verdicts s).st.marker m = s.marker m ∧ (Tick.verdicts s).acted m = false := by
  obtain ⟨e, he⟩ := Tick.verdicts_eq s
  rw [he]
  cases m <;> exact ⟨rfl, rfl⟩

/-! ### Lanes that cannot act on a marker line -/

/-- The lane applies no step at this sample event: it is IDLE, HELD or CLOSING (R85). -/
def Lane.Inert (x : Lane) : Prop := x.state = .idle ∨ x.state = .held ∨ x.state = .closing

def State.LanesInert (s : State) : Prop := ∀ l : LaneId, (s.lanes.get l).Inert

/-- A HELD lane does nothing (R85). -/
theorem Tick.laneWork_of_held (t : Tick) (l : LaneId) (h : (t.st.lanes.get l).state = .held) : t.laneWork l = t := by
  unfold Tick.laneWork
  dsimp only
  rw [h]

theorem Tick.laneWork_of_closing (t : Tick) (l : LaneId) (h : (t.st.lanes.get l).state = .closing) :
    t.laneWork l = t.closingWork l (t.st.lanes.get l) := by
  unfold Tick.laneWork
  dsimp only
  rw [h]

/-- A CLOSING lane stays CLOSING or goes IDLE (R100). -/
theorem Tick.closingWork_lane (t : Tick) (l : LaneId) {x : Lane} (h : x.state = .closing) :
    ((t.closingWork l x).st.lanes.get l).Inert := by
  rw [Tick.closingWork_eq, Tick.withState]
  split
  · left
    rw [State.lanes_goIdle, PerLane.get_set_self]
    rfl
  · right; right
    rw [State.lanes_setLane, PerLane.get_set_self]
    exact h

theorem Tick.laneWork_of_inert {t : Tick} (inert : t.st.LanesInert) (l : LaneId) :
    t.MarkersStill (t.laneWork l) ∧ (t.laneWork l).st.LanesInert := by
  rcases inert l with idle | held | closing
  · rw [t.laneWork_of_idle l idle]
    exact ⟨.refl t, inert⟩
  · rw [t.laneWork_of_held l held]
    exact ⟨.refl t, inert⟩
  · have work := t.laneWork_of_closing l closing
    refine ⟨fun m => ?_, fun k => ?_⟩
    · rw [work, Tick.closingWork_frame]
      cases m <;> exact ⟨rfl, rfl⟩
    · by_cases hk : k = l
      · rw [hk, work]
        exact t.closingWork_lane l closing
      · rw [(t.laneWork_effect l).others hk]
        exact inert k

/-- The links' sources leave the lanes, or end every one of them in an entry to TRIPPED (R146, R155). -/
theorem State.takeLinks_lanes (s : State) (o : LinkOrder) :
    (s.takeLinks o).lanes = s.lanes ∨ (s.takeLinks o).lanesIdle := by
  cases trip : s.trip.state with
  | normal =>
    obtain unentered | entered := State.linksTaken_takeLinks trip o
    · exact .inl (by rw [unentered.moved.frame])
    · exact .inr fun l => by rw [entered.ends.lanes, Lane.ended_state]
  | tripped =>
    have settled : s.Settled := .inl trip
    exact .inl (by rw [(settled.takeLinks o).frame])

/-- From `t` to `u` no line has been acted on, and no lane can act on one. -/
structure Tick.Unmarked (t u : Tick) : Prop where
  still : t.MarkersStill u
  inert : u.st.LanesInert

theorem Tick.Unmarked.of_lanes {t u v : Tick} (h : t.Unmarked u) (still : u.MarkersStill v)
    (lanes : v.st.lanes = u.st.lanes) : t.Unmarked v :=
  ⟨h.still.trans still, fun l => by rw [lanes]; exact h.inert l⟩

theorem Tick.Unmarked.work {t u : Tick} (h : t.Unmarked u) (g : ChannelSet) : t.Unmarked (u.work g) := by
  have opened := h.of_lanes (u.markersStill_openings g) (u.openings_lanes g)
  have worked : t.Unmarked ((u.openings g).lanesIn g) := Tick.lanesIn_keeps (fun v l hv _ =>
    have ⟨still, inert⟩ := Tick.laneWork_of_inert hv.inert l
    ⟨hv.still.trans still, inert⟩) opened
  exact worked.of_lanes (Tick.markersStill_endings _ g) (Tick.endings_lanes _ g)

theorem Tick.Unmarked.takeLinks {t u : Tick} (h : t.Unmarked u) (o : LinkOrder) :
    t.Unmarked (u.withState (u.st.takeLinks o)) := by
  refine ⟨h.still.trans (u.markersStill_takeLinks o), fun l => ?_⟩
  obtain lanes | idle := u.st.takeLinks_lanes o
  · rw [Tick.withState, lanes]
    exact h.inert l
  · exact .inl (idle l)

/-- With no lane able to act on a line, the channels' work leaves the lines, whether or not an entry is due. -/
theorem tickChannels_marker_of_inert (o : TickOrder) {s : State} (inert : s.LanesInert) (m : MarkerLine) :
    (tickChannels o s).st.marker m = s.marker m ∧ (tickChannels o s).acted m = false := by
  have start : (Tick.verdicts s).Unmarked (Tick.verdicts s) :=
    ⟨.refl _, fun l => by rw [(Tick.verdicts_begun s).lanes]; exact inert l⟩
  obtain ⟨marker, acted⟩ := ((((start.work _).takeLinks o.sources).work _).still m :
    (tickChannels o s).st.marker m = _ ∧ (tickChannels o s).acted m = _)
  obtain ⟨found, unacted⟩ := Tick.verdicts_marker s m
  exact ⟨marker.trans found, acted.trans unacted⟩

/-! ### A step's marker actions -/

/-- A step's action on a line (R60). -/
def MarkersPart.action (p : MarkersPart) : MarkerLine → MarkerAction
  | .M1 => p.m1
  | .M2 => p.m2

/-- An applied step acts on the lines as its marker actions say (R88, R107). -/
theorem Tick.applyStep_marker (t : Tick) (l : LaneId) (x : Lane) {step : StepRecord} {p : MarkersPart}
    (hp : step.markers = some p) (m : MarkerLine) :
    (t.applyStep l x step).st.marker m = (t.st.marker m).act (p.action m)
    ∧ (t.applyStep l x step).acted m = (t.acted m || p.action m != .none) := by
  have fields : t.MarkersStill (t.applyFields step x) := fun m => by
    rw [Tick.applyFields_frame]
    cases m <;> exact ⟨rfl, rfl⟩
  have capture : ∀ u : Tick, u.MarkersStill (u.applyCapture step l x) := fun u m => by
    unfold Tick.applyCapture
    split <;> cases m <;> exact ⟨rfl, rfl⟩
  have acts : ((t.applyFields step x).applyMarkers step).st.marker m
        = ((t.applyFields step x).st.marker m).act (p.action m)
      ∧ ((t.applyFields step x).applyMarkers step).acted m
        = ((t.applyFields step x).acted m || p.action m != .none) := by
    unfold Tick.applyMarkers
    rw [hp]
    cases m <;> exact ⟨rfl, rfl⟩
  have lane : ∀ (u : Tick) (y : Lane), u.MarkersStill (u.setLane l y) := fun _ _ m => by cases m <;> exact ⟨rfl, rfl⟩
  obtain ⟨after, noted⟩ := ((capture ((t.applyFields step x).applyMarkers step)).trans
    (lane _ { x with state := .dwell, dwell := some step.duration })) m
  rw [acts.1, (fields m).1] at after
  rw [acts.2, (fields m).2] at noted
  exact ⟨after, noted⟩

/-- An aligned lane whose step is due applies it (R86, R87). -/
theorem Tick.laneWork_eq_applyStep {t : Tick} {l : LaneId} {step : StepRecord}
    (hx : (t.st.lanes.get l).state = .aligning) (hs : t.st.currentStep (t.st.lanes.get l) = some step)
    (due : t.due (t.st.lanes.get l) step = true) : t.laneWork l = t.applyStep l (t.st.lanes.get l) step := by
  unfold Tick.laneWork
  dsimp only
  rw [hx, hs]
  exact if_pos due

/-- With the other lanes idle the lanes' work is one lane's. -/
theorem Tick.lanesIn_of_only {t : Tick} {l : LaneId} (only : t.st.OnlyLane l) :
    t.lanesIn (PerChannel.all true) = t.laneWork l := by
  obtain ⟨u, before, -, after⟩ := Tick.lanesIn_turn (R := Eq) (fun _ => rfl) Eq.trans t l fun u m hm hu =>
    (u.laneWork_of_idle m (by rw [hu]; exact only m hm)).symm
  rw [← after, before]

/-- The lines after the channels' work at which one lane alone applies its step. -/
theorem tickChannels_marker_of_due (o : TickOrder) {s : State} (entry : s.noEntryDue) {l : LaneId} (only : s.OnlyLane l)
    {step : StepRecord} {p : MarkersPart} (hx : (s.lanes.get l).state = .aligning)
    (hs : s.currentStep (s.lanes.get l) = some step) (due : s.dueNext (s.lanes.get l) step)
    (hp : step.markers = some p) (m : MarkerLine) :
    (tickChannels o s).st.marker m = (s.marker m).act (p.action m)
    ∧ (tickChannels o s).acted m = (p.action m != .none) := by
  have opened := (Tick.verdicts_begun s).openings_all
  have channels := tickChannels_eq_of_noEntryDue o entry
  have still := (Tick.verdicts s).markersStill_openings (PerChannel.all true)
  obtain ⟨found, unacted⟩ := Tick.verdicts_marker s m
  rw [Tick.work_eq] at channels
  generalize (Tick.verdicts s).openings (PerChannel.all true) = t at opened channels still
  have foretold := opened.foretold
  have applied : t.lanesIn (PerChannel.all true) = t.applyStep l (s.lanes.get l) step := by
    rw [Tick.lanesIn_of_only (l := l) fun k hk => by rw [opened.lanes]; exact only k hk]
    have lane : t.st.lanes.get l = s.lanes.get l := by rw [opened.lanes]
    rw [← lane]
    refine Tick.laneWork_eq_applyStep ?_ ?_ ?_ <;> rw [lane]
    · exact hx
    · rw [foretold.currentStep, hs]
    · exact (foretold.due_iff _ _).2 due
  obtain ⟨marker, acted⟩ := t.applyStep_marker l (s.lanes.get l) hp m
  rw [(still m).1, found] at marker
  rw [(still m).2, unacted, Bool.false_or] at acted
  rw [applied] at channels
  obtain ⟨after, noted⟩ := ((Tick.markersStill_endings (t.applyStep l (s.lanes.get l) step) (PerChannel.all true)).trans
    (Tick.markersStill_takeLinks _ o.sources)) m
  rw [channels]
  exact ⟨after.trans marker, noted.trans acted⟩

/-! ### The obligation -/

/-- What an attribution does, by what is delivered (R112, R113). -/
theorem Sense.attribute_missing {x : Sense} (isOpen : x.isOpen = true) :
    x.attribute (some .missing) = { x with missing := x.missing + 1 } := if_pos isOpen

theorem Sense.attribute_received {x : Sense} (isOpen : x.isOpen = true) (v i : Int) (limit : Bool) :
    x.attribute (some (.received v i limit)) = { x with
      n := x.n + 1, limit := x.limit + (if limit then 1 else 0)
      sumV := x.sumV + (v * v).toNat, sumI := x.sumI + (i * i).toNat } := by
  have square : ∀ z : Int, z.natAbs * z.natAbs = (z * z).toNat := fun z => by
    rw [← Int.natAbs_mul_self, Int.toNat_natCast]
  unfold Sense.attribute
  rw [if_pos isOpen]
  dsimp only
  rw [square, square]

theorem Sense.attribute_none (x : Sense) : x.attribute none = x := ite_self _

/-- The advance across a boundary opens the half that the boundary begins (R114). -/
theorem Advance.polarity_of_crossing {a : Advance} {p : Polarity}
    (h : a.wraps = true ∧ p = .positive ∨ a.wraps = false ∧ a.halves = true ∧ p = .negative) :
    (a.wraps || a.halves) = true ∧ a.polarity = p := by
  unfold Advance.polarity
  obtain ⟨wraps, rfl⟩ | ⟨unwrapped, halves, rfl⟩ := h
  · rw [wraps]
    exact ⟨rfl, rfl⟩
  · rw [unwrapped, halves]
    exact ⟨rfl, rfl⟩

/-- The row TRUNCATED (R116). -/
theorem tickWhen_truncated (o : TickOrder) {s : State} (entry : s.noEntryDue) {c : Channel}
    (isOpen : (s.sense.get c).isOpen = true) :
    let x := (s.sense.get c).attribute (s.links.get c).verdict.2
    1024 ≤ x.n + x.missing → (s.advanceOf c).wraps = false → (s.advanceOf c).halves = false →
    (tickWhen (.truncated c) o s).sense.get c = x.close true x.polarity := by
  intro x full unwrapped uncrossed
  obtain ⟨sense, events⟩ := tick_sense_of_noEntryDue o entry c
  have still : x.isOpen = true := ((s.sense.get c).attribute_frame _).1.trans isOpen
  have work : (s.sense.get c).work (s.links.get c).verdict.2 (s.advanceOf c)
      = (x.close true x.polarity, some (x.measure true)) :=
    Sense.boundary_of_full (by rw [unwrapped, uncrossed]; rfl) still full
  rw [work] at sense events
  rw [tickWhen_of_mem (events _ rfl rfl), sense]

/-- Settles O47: the sense work by `tick_sense_of_noEntryDue` and the cases of `Sense.boundary`, the marker lines by
`tick_marker`. -/
theorem truncationAndPulseEnd : Obligations.TruncationAndPulseEnd := by
  intro o s
  refine ⟨?truncated, ?attributed, ?boundary, ?pulseEnd, ?actions⟩
  case truncated =>
    intro c entry isOpen x full unwrapped uncrossed
    have sense := tickWhen_truncated o entry isOpen full unwrapped uncrossed
    obtain ⟨-, polarity, nextSeq, -⟩ := (s.sense.get c).attribute_frame (s.links.get c).verdict.2
    refine ⟨_, x.measure true, rfl, tickWhen_kept _ o s, ?_, rfl, nextSeq, rfl, rfl, rfl, fun p hp => ?_, rfl, rfl⟩
    · rw [sense, ← polarity, ← nextSeq]
      rfl
    · exact congrArg (·.getD .positive) hp
  case attributed =>
    intro x d
    refine ⟨?_, ?_, ?_⟩
    · rintro (closed | rfl)
      · exact x.attribute_closed d closed
      · exact x.attribute_none
    · rintro isOpen rfl
      exact Sense.attribute_missing isOpen
    · rintro v i limit isOpen rfl
      exact Sense.attribute_received isOpen v i limit
  case boundary =>
    intro c entry x opened
    have sense : (tick o s).st.sense.get c = (x.boundary (s.advanceOf c)).1 := (tick_sense_of_noEntryDue o entry c).1
    refine ⟨_, rfl, tick_kept o s, fun p hp => ?_, fun unwrapped uncrossed within => ?_⟩
    · obtain ⟨crossed, rfl⟩ := Advance.polarity_of_crossing hp
      refine ⟨fun closed => ?_, fun old isOpen polarity => ?_⟩
      · rw [sense, Sense.boundary_of_closed crossed closed]
        rfl
      · have measured : x.measure false = { seq := x.nextSeq, polarity := old, n := x.n, missing := x.missing
                                            limit := x.limit, rmsV := rmsOf x.sumV x.n, rmsI := rmsOf x.sumI x.n
                                            incomplete := decide (0 < x.missing), truncated := false } := by
          rw [Sense.measure, polarity]
          rfl
        rw [sense, Sense.boundary_of_open crossed isOpen, ← measured]
        rfl
    · rw [sense, Sense.boundary_of_within (by rw [unwrapped, uncrossed]; rfl) within]
  case pulseEnd =>
    intro m pulse inert
    obtain ⟨marker, acted⟩ := tickChannels_marker_of_inert o inert m
    obtain ⟨after, ended⟩ := tick_marker o s m
    rw [marker, acted] at after ended
    refine ⟨_, rfl, tickWhen_kept _ o s, ?_⟩
    rw [tickWhen_of_mem (ended pulse rfl), after, Marker.pulseEnded, pulse]
    rfl
  case actions =>
    intro m l step parts action entry only hx hs due hp
    obtain ⟨marker, acted⟩ := tickChannels_marker_of_due o entry only hx hs due hp m
    have after := (tick_marker o s m).1
    rw [marker, acted] at after
    have same : parts.action m = action := by cases m <;> rfl
    rw [same] at after
    refine ⟨_, rfl, tick_kept o s, fun h => ?_, fun h => ?_, fun h => ?_, fun h => ?_⟩ <;> rw [after, h]
    · rfl
    · rfl
    · rfl
    · exact congrArg (fun b => if b = true then _ else _) (Bool.and_true _)

end Sys2Proof.Machine
end

section
/-! PROOF. The operations of the capture engine, each said once: the end of a pass and where the chain goes
(`State.followNext_cases`), what an offer can do (`State.passEffect`), a lane's capture start; and that they read nothing
of the block but the engine, the descriptors, the records and the memory (`State.CaptureStands`). -/

namespace Sys2Proof.Machine

/-! ### The capture side of the block -/

/-- The capture engine with its descriptors, its completion records and its memory stands. -/
structure State.CaptureStands (s t : State) : Prop where
  descs : t.descs = s.descs
  comps : t.comps = s.comps
  engine : t.engine = s.engine
  mem : t.mem = s.mem

theorem State.CaptureStands.refl (s : State) : s.CaptureStands s := ⟨rfl, rfl, rfl, rfl⟩

theorem State.CaptureStands.trans {s t u : State} (h : s.CaptureStands t) (k : t.CaptureStands u) : s.CaptureStands u :=
  ⟨k.descs.trans h.descs, k.comps.trans h.comps, k.engine.trans h.engine, k.mem.trans h.mem⟩

theorem State.MonitorsStand.captureStands {s t : State} (h : s.MonitorsStand t) : s.CaptureStands t :=
  ⟨h.descs, h.comps, h.engine, h.mem⟩

theorem State.captureStands_alertOrigin (s : State) (o : Option Port) (a : Alert) :
    s.CaptureStands (s.alertOrigin o a) := by
  rw [State.alertOrigin_frame]
  exact ⟨rfl, rfl, rfl, rfl⟩

/-! ### The end of a run and of a pass (R137, R138) -/

/-- A run's end leaves the engine IDLE without a current descriptor, and its records and memory as they were (log 14). -/
theorem State.captureStands_endRun (s : State) :
    (s.setEngine { s.engine with isActive := false, current := none }).CaptureStands s.endRun :=
  State.captureStands_alertOrigin _ _ _

/-- A run's end raises CAPTURE_ENDED to its originator's port. -/
theorem State.endRun_alerts (s : State) {q : Originator} (h : s.engine.originator = some q) :
    s.endRun = (s.setEngine { s.engine with isActive := false, current := none }).alert q.toPort .captureEnded := by
  unfold State.endRun
  dsimp only
  rw [State.engine_setEngine, h]
  rfl

theorem State.followNext_of_defined (s : State) {e : Nat} (h : (Store.get s.descs e).isSome = true) :
    s.followNext (some e) = s.setEngine (s.engine.beginPass e) := if_pos h

/-- The chain has no further descriptor: END, or an undefined one (R137). -/
def State.chainEnds (s : State) (next : Option Nat) : Prop :=
  next = none ∨ ∃ e : Nat, next = some e ∧ Store.get s.descs e = none

theorem State.followNext_of_chainEnds {s : State} {next : Option Nat} (h : s.chainEnds next) :
    s.followNext next = s.endRun := by
  obtain rfl | ⟨e, rfl, undefined⟩ := h
  · rfl
  · exact if_neg (by rw [undefined]; decide)

/-- Where a pass that has ended goes on (R137): to its next descriptor, which is defined, or to the end of the run. -/
theorem State.followNext_cases (s : State) (next : Option Nat) :
    (∃ (e : Nat) (y : Descriptor), next = some e ∧ Store.get s.descs e = some y
      ∧ s.followNext next = s.setEngine (s.engine.beginPass e))
    ∨ (s.chainEnds next ∧ s.followNext next = s.endRun) := by
  cases next with
  | none => exact .inr ⟨.inl rfl, rfl⟩
  | some e =>
    cases h : Store.get s.descs e with
    | none => exact .inr ⟨.inr ⟨e, rfl, h⟩, State.followNext_of_chainEnds (.inr ⟨e, rfl, h⟩)⟩
    | some y => exact .inl ⟨e, y, rfl, h, s.followNext_of_defined (by rw [h]; rfl)⟩

/-- Going on leaves the descriptors, the records and the memory, and the count of ends. -/
theorem State.followNext_stands (s : State) (next : Option Nat) :
    (s.followNext next).descs = s.descs ∧ (s.followNext next).comps = s.comps ∧ (s.followNext next).mem = s.mem
    ∧ (s.followNext next).engine.ends = s.engine.ends := by
  obtain ⟨e, -, -, -, h⟩ | ⟨-, h⟩ := s.followNext_cases next
  · rw [h]
    exact ⟨rfl, rfl, rfl, rfl⟩
  · have stands := s.captureStands_endRun
    rw [h]
    exact ⟨stands.descs, stands.comps, stands.mem, by rw [stands.engine]; rfl⟩

/-- The end of a pass writes its descriptor's completion record and counts (R137). -/
theorem State.endPass_records (s : State) (d : Nat) (x : Descriptor) (r : PassReason) :
    (s.endPass d x r).descs = s.descs
    ∧ (s.endPass d x r).comps = Store.put s.comps d ⟨s.engine.writeIndex, r, s.engine.run⟩
    ∧ (s.endPass d x r).mem = s.mem ∧ (s.endPass d x r).engine.ends = min (s.engine.ends + 1) 65535 := by
  obtain ⟨descs, comps, mem, ends⟩ := (s.closePass d r).followNext_stands x.next
  exact ⟨descs, comps, mem, ends.trans (bump_eq_min _)⟩

/-! ### One offer (R133 to R136) -/

/-- The state in which an offer that has reached the decimation count is filtered (R133). -/
def State.phaseCleared (s : State) : State := s.setEngine { s.engine with phase := 0 }

theorem State.takeOffer_of_counting {s : State} {x : Descriptor} (h : s.engine.phase + 1 < x.decimation) (d : Nat)
    (o : Offer) :
    s.takeOffer d x o = ⟨s.setEngine { s.engine with phase := s.engine.phase + 1 }, false, false⟩ := if_pos h

theorem State.takeOffer_of_passing {s : State} {x : Descriptor} (h : x.decimation ≤ s.engine.phase + 1) (d : Nat)
    (o : Offer) : s.takeOffer d x o = s.phaseCleared.passOffer d x o := if_neg (Nat.not_lt.2 h)

theorem State.fillCheck_of_room {s : State} {x : Descriptor} (h : s.engine.writeIndex < x.count) (d : Nat) :
    s.fillCheck d x = ⟨s, true, false⟩ := if_neg (Nat.not_le.2 h)

theorem State.fillCheck_of_full {s : State} {x : Descriptor} (h : x.count ≤ s.engine.writeIndex) (d : Nat) :
    s.fillCheck d x = ⟨s.endPass d x .full, true, true⟩ := if_pos h

theorem State.passOffer_gap (s : State) (d : Nat) (x : Descriptor) :
    s.passOffer d x .gap = (s.storeWord x (-32768) s.engine.last).fillCheck d x := rfl

theorem State.passOffer_of_met (s : State) (d : Nat) {x : Descriptor} {v : Int}
    (met : x.monitor.any (fun m => m.met v) = true) :
    s.passOffer d x (.value v) = ⟨(s.storeWord x v (some v)).endPass d x .monitor, true, false⟩ := if_pos met

theorem State.passOffer_of_passes {s : State} (d : Nat) {x : Descriptor} {v : Int}
    (unmet : x.monitor.any (fun m => m.met v) = false) (passes : deadbandPasses x.deadband s.engine.last v = true) :
    s.passOffer d x (.value v) = (s.storeWord x v (some v)).fillCheck d x := by
  unfold State.passOffer
  dsimp only
  rw [unmet, passes]
  rfl

theorem State.passOffer_of_suppressed {s : State} (d : Nat) {x : Descriptor} {v : Int}
    (unmet : x.monitor.any (fun m => m.met v) = false) (held : deadbandPasses x.deadband s.engine.last v = false) :
    s.passOffer d x (.value v) = ⟨s, true, false⟩ := by
  unfold State.passOffer
  dsimp only
  rw [unmet, held]
  rfl

/-- What an offer that has passed the decimation can do: nothing, or store one word, after which the pass goes on in the
room left or ends. -/
inductive State.PassEffect (s : State) (d : Nat) (x : Descriptor) : Taken → Prop
  /-- Suppressed by the deadband (R135). -/
  | suppressed : State.PassEffect s d x ⟨s, true, false⟩
  /-- Stored, with room left (R136). -/
  | stored (w : Int) (last : Option Int) : s.engine.writeIndex + 1 < x.count →
      State.PassEffect s d x ⟨s.storeWord x w last, true, false⟩
  /-- Stored, and the pass ended FULL or MONITOR (R134, R136). -/
  | ended (w : Int) (last : Option Int) (r : PassReason) (full : Bool) :
      State.PassEffect s d x ⟨(s.storeWord x w last).endPass d x r, true, full⟩

theorem State.passEffect_fillCheck (s : State) (d : Nat) (x : Descriptor) (w : Int) (last : Option Int) :
    s.PassEffect d x ((s.storeWord x w last).fillCheck d x) := by
  by_cases room : s.engine.writeIndex + 1 < x.count
  · rw [State.fillCheck_of_room (s := s.storeWord x w last) room]
    exact .stored w last room
  · rw [State.fillCheck_of_full (s := s.storeWord x w last) (Nat.not_lt.1 room)]
    exact .ended w last .full true

theorem State.passEffect (s : State) (d : Nat) (x : Descriptor) (o : Offer) : s.PassEffect d x (s.passOffer d x o) := by
  cases o with
  | gap => exact s.passEffect_fillCheck d x _ _
  | value v =>
    cases met : x.monitor.any (fun m => m.met v) with
    | true =>
      rw [s.passOffer_of_met d met]
      exact .ended v (some v) .monitor false
    | false =>
      cases passes : deadbandPasses x.deadband s.engine.last v with
      | true =>
        rw [State.passOffer_of_passes d met passes]
        exact s.passEffect_fillCheck d x _ _
      | false =>
        rw [State.passOffer_of_suppressed d met passes]
        exact .suppressed

theorem State.PassEffect.passed {s : State} {d : Nat} {x : Descriptor} {r : Taken} (h : s.PassEffect d x r) :
    r.passed = true := by cases h <;> rfl

/-- An offer stores at its write index and nowhere else. -/
theorem State.PassEffect.mem_ne {s : State} {d : Nat} {x : Descriptor} {r : Taken} (h : s.PassEffect d x r) {b : Nat}
    (hb : b ≠ x.base + s.engine.writeIndex) : Memory.read r.st.mem b = Memory.read s.mem b := by
  cases h with
  | suppressed => rfl
  | stored w last => exact Memory.read_write_ne _ _ hb
  | ended w last r full =>
    obtain ⟨-, -, mem, -⟩ := (s.storeWord x w last).endPass_records d x r
    rw [mem]
    exact Memory.read_write_ne _ _ hb

theorem State.takeOffer_mem_ne (s : State) (d : Nat) (x : Descriptor) (o : Offer) {b : Nat}
    (hb : b ≠ x.base + s.engine.writeIndex) : Memory.read (s.takeOffer d x o).st.mem b = Memory.read s.mem b := by
  by_cases counting : s.engine.phase + 1 < x.decimation
  · rw [State.takeOffer_of_counting counting]
    rfl
  · rw [State.takeOffer_of_passing (Nat.not_lt.1 counting)]
    exact (s.phaseCleared.passEffect d x o).mem_ne hb

/-! ### What an offer reads -/

section
variable {s t : State}

theorem State.CaptureStands.setEngine (h : s.CaptureStands t) (e : Engine) :
    (s.setEngine e).CaptureStands (t.setEngine e) := ⟨h.descs, h.comps, rfl, h.mem⟩

theorem State.CaptureStands.storeWord (h : s.CaptureStands t) (x : Descriptor) (w : Int) (last : Option Int) :
    (s.storeWord x w last).CaptureStands (t.storeWord x w last) := by
  refine ⟨h.descs, h.comps, ?_, ?_⟩ <;> simp only [State.storeWord, h.engine, h.mem]

theorem State.CaptureStands.closePass (h : s.CaptureStands t) (d : Nat) (r : PassReason) :
    (s.closePass d r).CaptureStands (t.closePass d r) := by
  refine ⟨h.descs, ?_, ?_, h.mem⟩ <;> simp only [State.closePass, h.engine, h.comps]

theorem State.CaptureStands.endRun (h : s.CaptureStands t) : s.endRun.CaptureStands t.endRun := by
  have hs := s.captureStands_endRun
  have ht := t.captureStands_endRun
  rw [h.engine] at ht
  have k := h.setEngine { s.engine with isActive := false, current := none }
  exact ⟨(ht.descs.trans k.descs).trans hs.descs.symm, (ht.comps.trans k.comps).trans hs.comps.symm,
    ht.engine.trans hs.engine.symm, (ht.mem.trans k.mem).trans hs.mem.symm⟩

theorem State.CaptureStands.followNext (h : s.CaptureStands t) (next : Option Nat) :
    (s.followNext next).CaptureStands (t.followNext next) := by
  cases next with
  | none => exact h.endRun
  | some e =>
    unfold State.followNext
    dsimp only
    rw [h.descs, h.engine]
    split
    · exact h.setEngine _
    · exact h.endRun

theorem State.CaptureStands.endPass (h : s.CaptureStands t) (d : Nat) (x : Descriptor) (r : PassReason) :
    (s.endPass d x r).CaptureStands (t.endPass d x r) := (h.closePass d r).followNext x.next

/-- Two offers that come to the same: alike capture sides, and the same marks of passing and filling. -/
structure Taken.Alike (a b : Taken) : Prop where
  st : a.st.CaptureStands b.st
  passed : b.passed = a.passed
  full : b.full = a.full

theorem State.CaptureStands.fillCheck (h : s.CaptureStands t) (d : Nat) (x : Descriptor) :
    (s.fillCheck d x).Alike (t.fillCheck d x) := by
  unfold State.fillCheck
  rw [h.engine]
  split
  · exact ⟨h.endPass d x .full, rfl, rfl⟩
  · exact ⟨h, rfl, rfl⟩

theorem State.CaptureStands.passOffer (h : s.CaptureStands t) (d : Nat) (x : Descriptor) (o : Offer) :
    (s.passOffer d x o).Alike (t.passOffer d x o) := by
  cases o with
  | gap =>
    rw [State.passOffer_gap, State.passOffer_gap, h.engine]
    exact (h.storeWord x _ _).fillCheck d x
  | value v =>
    unfold State.passOffer
    dsimp only
    rw [h.engine]
    split
    · exact ⟨(h.storeWord x v (some v)).endPass d x .monitor, rfl, rfl⟩
    · split
      · exact (h.storeWord x v (some v)).fillCheck d x
      · exact ⟨h, rfl, rfl⟩

/-- An offer reads the capture side of the block and nothing else. -/
theorem State.CaptureStands.takeOffer (h : s.CaptureStands t) (d : Nat) (x : Descriptor) (o : Offer) :
    (s.takeOffer d x o).Alike (t.takeOffer d x o) := by
  unfold State.takeOffer
  rw [h.engine]
  split
  · exact ⟨h.setEngine _, rfl, rfl⟩
  · exact (h.setEngine _).passOffer d x o

end

/-! ### A lane's capture start (R89, R131) -/

/-- An IDLE engine starts the run of a defined descriptor. -/
theorem State.laneStart_of_free {s : State} {d : Nat} (idle : s.engine.isActive = false)
    (defined : (Store.get s.descs d).isSome = true) (l : LaneId) (p : Port) :
    s.laneStart l p d = s.setEngine (s.engine.startRun (.lane l p) d) := if_pos (by rw [idle, defined]; rfl)

/-- A start that finds the engine ACTIVE or its descriptor undefined is missed. -/
theorem State.laneStart_of_missed {s : State} {d : Nat} (h : s.engine.isActive = true ∨ Store.get s.descs d = none)
    (l : LaneId) (p : Port) : s.laneStart l p d = ((s.setEngine { s.engine with missed := true }).setLane l
      { s.lanes.get l with ending := { (s.lanes.get l).ending with missed := true } }).alert p .captureMissed :=
  if_neg (by obtain h | h := h <;> simp [h])

/-- What a lane's capture start leaves of the engine. -/
theorem State.laneStart_cases (s : State) (l : LaneId) (p : Port) (d : Nat) :
    (s.engine.isActive = false ∧ (∃ x : Descriptor, Store.get s.descs d = some x)
      ∧ s.laneStart l p d = s.setEngine (s.engine.startRun (.lane l p) d))
    ∨ ((s.engine.isActive = true ∨ Store.get s.descs d = none)
      ∧ (s.laneStart l p d).engine = { s.engine with missed := true }) := by
  cases active : s.engine.isActive with
  | true => exact .inr ⟨.inl rfl, by rw [State.laneStart_of_missed (.inl active)]; rfl⟩
  | false =>
    cases h : Store.get s.descs d with
    | none => exact .inr ⟨.inr rfl, by rw [State.laneStart_of_missed (.inr h)]; rfl⟩
    | some x => exact .inl ⟨rfl, ⟨x, rfl⟩, State.laneStart_of_free active (by rw [h]; rfl) l p⟩

end Sys2Proof.Machine
end

section
/-! PROOF. The capture engine's work at a sample event (R131 to R133): everything before it leaves the capture side
(`captureStands_tickUpToCapture`), the lanes' capture starts leave the records and the memory, and the offer is taken by
the descriptor that was current. From it what a sample event keeps of the capture engine's soundness and writes of its
memory (`tick_captureSound`, `tick_captureMem`). -/

namespace Sys2Proof.Machine

/-! ### Before the capture engine's work -/

/-- The scratch record of a sample event as the capture engine's work begins. -/
def tickUpToCapture (o : TickOrder) (s : State) : Tick :=
  ((tickFrames o s).endPulse .M1 (tickFrames o s).acted1).endPulse .M2 (tickFrames o s).acted2

theorem tick_eq_captureWork (o : TickOrder) (s : State) :
    tick o s = (tickUpToCapture o s).captureWork s.engine.isActive o.startsFirst := tick_eq o s

theorem captureStands_work (t : Tick) (g : ChannelSet) : t.st.CaptureStands (t.work g).st := by
  have opened : t.st.CaptureStands (t.openings g).st :=
    Tick.forChannels_keeps (P := fun u => t.st.CaptureStands u.st)
      (fun u c _ h => h.trans (by rw [u.opening_frame c]; exact ⟨rfl, rfl, rfl, rfl⟩)) (.refl _)
  have worked : t.st.CaptureStands ((t.openings g).lanesIn g).st :=
    opened.trans (by rw [(t.openings g).laneFrame_lanesIn g]; exact ⟨rfl, rfl, rfl, rfl⟩)
  exact Tick.forChannels_keeps (P := fun u => t.st.CaptureStands u.st)
    (fun u c _ h => h.trans (by rw [u.ending_frame c]; exact ⟨rfl, rfl, rfl, rfl⟩)) worked

theorem captureStands_takeLinks (s : State) (o : LinkOrder) : s.CaptureStands (s.takeLinks o) := by
  rw [State.takeLinks_frame]
  exact ⟨rfl, rfl, rfl, rfl⟩

theorem captureStands_tickChannels (o : TickOrder) (s : State) : s.CaptureStands (tickChannels o s).st := by
  have verdicts : s.CaptureStands (Tick.verdicts s).st := by
    obtain ⟨e, he⟩ := Tick.verdicts_eq s
    rw [he]
    exact ⟨rfl, rfl, rfl, rfl⟩
  have first := (captureStands_work (Tick.verdicts s) ((Tick.verdicts s).st.firstGroup o.before)).trans
    (captureStands_takeLinks _ o.sources)
  exact (verdicts.trans first).trans (captureStands_work (Tick.withState _ _) _)

theorem captureStands_frames (t : Tick) (o : TickOrder) (started : Channel → Bool) :
    t.st.CaptureStands (t.frames o started).st := ⟨rfl, rfl, rfl, rfl⟩

theorem captureStands_endPulse (t : Tick) (m : MarkerLine) (acted : Bool) :
    t.st.CaptureStands (t.endPulse m acted).st := by
  rw [Tick.endPulse_frame]
  exact ⟨rfl, rfl, rfl, rfl⟩

theorem captureStands_tickUpToCapture (o : TickOrder) (s : State) : s.CaptureStands (tickUpToCapture o s).st := by
  have frames : (tickChannels o s).st.CaptureStands (tickFrames o s).st := by
    unfold tickFrames
    exact captureStands_frames _ o _
  have pulses := (captureStands_endPulse (tickFrames o s) .M1 (tickFrames o s).acted1).trans
    (captureStands_endPulse _ .M2 (tickFrames o s).acted2)
  exact ((captureStands_tickChannels o s).trans frames).trans pulses

/-! ### The lanes' capture starts -/

theorem Tick.takeStarts_cons (t : Tick) (e : LaneId × Port × Nat) (starts : List (LaneId × Port × Nat)) :
    t.takeStarts (e :: starts) = (t.withState (t.st.laneStart e.1 e.2.1 e.2.2)).takeStarts starts := rfl

/-- The starts leave the descriptors, the records and the memory. -/
theorem Tick.takeStarts_stands (t : Tick) (starts : List (LaneId × Port × Nat)) :
    (t.takeStarts starts).st.descs = t.st.descs ∧ (t.takeStarts starts).st.comps = t.st.comps
    ∧ (t.takeStarts starts).st.mem = t.st.mem := by
  rw [Tick.takeStarts_frame]
  exact ⟨rfl, rfl, rfl⟩

/-- Starts that find the engine ACTIVE leave its run in progress; the missed flag alone may be set. -/
theorem Tick.takeStarts_of_active {t : Tick} (active : t.st.engine.isActive = true)
    (starts : List (LaneId × Port × Nat)) :
    ∃ missed : Bool, (t.takeStarts starts).st.engine = { t.st.engine with missed := missed } := by
  induction starts generalizing t with
  | nil => exact ⟨t.st.engine.missed, rfl⟩
  | cons e starts ih =>
    obtain ⟨idle, -⟩ | ⟨-, engine⟩ := t.st.laneStart_cases e.1 e.2.1 e.2.2
    · rw [active] at idle
      cases idle
    · rw [Tick.takeStarts_cons]
      obtain ⟨missed, h⟩ := ih (t := t.withState (t.st.laneStart e.1 e.2.1 e.2.2))
        ((congrArg Engine.isActive engine).trans active)
      exact ⟨missed, h.trans (by rw [Tick.withState, engine])⟩

/-! ### The offer -/

/-- The offer of this sample event is taken by the current descriptor, and passing and filling are its events. -/
theorem Tick.offerWork_of_offer {t : Tick} {d : Nat} {x : Descriptor} {w : Offer} (current : t.st.engine.current = some d)
    (defined : Store.get t.st.descs d = some x) (offer : t.offerOf x = some w) :
    (t.offerWork true).st = (t.st.takeOffer d x w).st
    ∧ ((t.st.takeOffer d x w).passed = true → .decimationPass ∈ (t.offerWork true).events)
    ∧ ((t.st.takeOffer d x w).full = true → .capturePassFull ∈ (t.offerWork true).events) := by
  unfold Tick.offerWork
  rw [current]
  dsimp only
  rw [defined]
  dsimp only
  rw [offer]
  dsimp only
  refine ⟨by split_ifs <;> rfl, fun passed => ?_, fun full => ?_⟩
  · rw [passed, if_pos rfl]
    split_ifs
    · exact List.mem_cons_of_mem _ List.mem_cons_self
    · exact List.mem_cons_self
  · rw [full]
    exact List.mem_cons_self

theorem Tick.offerWork_of_none {t : Tick} {d : Nat} {x : Descriptor} (current : t.st.engine.current = some d)
    (defined : Store.get t.st.descs d = some x) (offer : t.offerOf x = none) : t.offerWork true = t := by
  unfold Tick.offerWork
  rw [current]
  dsimp only
  rw [defined]
  dsimp only
  rw [offer]

/-- The offer is nothing, or one taken by the current descriptor. -/
theorem Tick.offerWork_cases (t : Tick) (inProgress : Bool) :
    (t.offerWork inProgress).st = t.st
    ∨ (inProgress = true ∧ ∃ (d : Nat) (x : Descriptor) (w : Offer), t.st.engine.current = some d
      ∧ Store.get t.st.descs d = some x ∧ (t.offerWork inProgress).st = (t.st.takeOffer d x w).st) := by
  cases inProgress with
  | false => exact .inl rfl
  | true =>
    cases current : t.st.engine.current with
    | none =>
      left
      unfold Tick.offerWork
      rw [current]
    | some d =>
      cases defined : Store.get t.st.descs d with
      | none =>
        left
        unfold Tick.offerWork
        rw [current]
        dsimp only
        rw [defined]
      | some x =>
        cases offer : t.offerOf x with
        | none => exact .inl (by rw [Tick.offerWork_of_none current defined offer])
        | some w => exact .inr ⟨rfl, d, x, w, rfl, defined, (Tick.offerWork_of_offer current defined offer).1⟩

/-! ### The soundness of the capture engine -/

/-- The part of the soundness that reads the stores: every buffer lies in the memory, every completion record counts words
of its descriptor's buffer, and no word lies past the memory (R125). -/
structure State.BuffersSound (s : State) : Prop where
  descs (d : Nat) (x : Descriptor) : Store.get s.descs d = some x → x.inMemory
  comps (d : Nat) (r : Completion) : Store.get s.comps d = some r →
    ∃ x : Descriptor, Store.get s.descs d = some x ∧ r.words ≤ x.count
  mem (a : Nat) : 16384 ≤ a → Memory.read s.mem a = 0

/-- The part that reads the engine: a pass in progress has room in the buffer of its descriptor (R129, R133). -/
def State.PassSound (s : State) : Prop :=
  s.engine.isActive = true → ∃ (d : Nat) (x : Descriptor), s.engine.current = some d ∧ Store.get s.descs d = some x
    ∧ s.engine.writeIndex < x.count ∧ s.engine.phase < x.decimation

theorem State.captureSound_iff (s : State) : s.captureSound ↔ s.BuffersSound ∧ s.PassSound :=
  ⟨fun ⟨descs, pass, comps, mem⟩ => ⟨⟨descs, comps, mem⟩, pass⟩,
    fun ⟨⟨descs, comps, mem⟩, pass⟩ => ⟨descs, pass, comps, mem⟩⟩

section
variable {s t : State}

theorem State.BuffersSound.of_eq (h : s.BuffersSound) (descs : t.descs = s.descs) (comps : t.comps = s.comps)
    (mem : t.mem = s.mem) : t.BuffersSound := by
  refine ⟨?_, ?_, ?_⟩
  · rw [descs]
    exact h.descs
  · rw [comps, descs]
    exact h.comps
  · rw [mem]
    exact h.mem

theorem State.captureSound_of_stands (h : s.captureSound) (k : s.CaptureStands t) : t.captureSound := by
  unfold State.captureSound
  rw [k.descs, k.comps, k.engine, k.mem]
  exact h

/-- A completion record joins those of a sound block, for a defined descriptor with that many words. -/
theorem State.BuffersSound.closePass (h : s.BuffersSound) {d : Nat} {x : Descriptor} (hx : Store.get s.descs d = some x)
    (words : s.engine.writeIndex ≤ x.count) (r : PassReason) : (s.closePass d r).BuffersSound := by
  refine ⟨h.descs, fun e y hy => ?_, h.mem⟩
  by_cases he : e = d
  · subst he
    obtain rfl := Option.some.inj ((Store.get_put_self s.comps e _).symm.trans hy)
    exact ⟨x, hx, words⟩
  · exact h.comps e y ((Store.get_put_ne s.comps _ he).symm.trans hy)

/-- A word stored in the room of the current buffer lies in the memory (R125, R136). -/
theorem State.BuffersSound.storeWord (h : s.BuffersSound) {d : Nat} {x : Descriptor} (hx : Store.get s.descs d = some x)
    (room : s.engine.writeIndex < x.count) (w : Int) (last : Option Int) : (s.storeWord x w last).BuffersSound := by
  obtain ⟨-, within, -, -⟩ := h.descs d x hx
  refine ⟨h.descs, h.comps, fun a ha => ?_⟩
  exact (Memory.read_write_ne s.mem w (by omega)).trans (h.mem a ha)

/-- A pass begun in a defined descriptor is sound: its buffer holds a word at least, and its decimation is 1 at least. -/
theorem State.BuffersSound.begun (h : s.BuffersSound) {d : Nat} {x : Descriptor} (hx : Store.get s.descs d = some x)
    (e : Engine) : (s.setEngine (e.beginPass d)).captureSound := by
  obtain ⟨count, -, decimation, -⟩ := h.descs d x hx
  exact (State.captureSound_iff _).2 ⟨h.of_eq rfl rfl rfl, fun _ => ⟨d, x, rfl, hx, count, decimation⟩⟩

/-- An IDLE engine is sound over sound buffers. -/
theorem State.BuffersSound.idle (h : s.BuffersSound) (idle : s.engine.isActive = false) : s.captureSound :=
  (State.captureSound_iff _).2 ⟨h, fun active => by rw [idle] at active; cases active⟩

theorem State.BuffersSound.endRun (h : s.BuffersSound) : s.endRun.captureSound := by
  have stopped : (s.setEngine { s.engine with isActive := false, current := none }).captureSound :=
    State.BuffersSound.idle (h.of_eq rfl rfl rfl) rfl
  exact State.captureSound_of_stands stopped s.captureStands_endRun

theorem State.BuffersSound.endPass (h : s.BuffersSound) {d : Nat} {x : Descriptor} (hx : Store.get s.descs d = some x)
    (words : s.engine.writeIndex ≤ x.count) (r : PassReason) : (s.endPass d x r).captureSound := by
  have closed := h.closePass hx words r
  obtain ⟨e, y, -, defined, followed⟩ | ⟨-, ended⟩ := (s.closePass d r).followNext_cases x.next
  · rw [State.endPass, followed]
    exact closed.begun defined _
  · rw [State.endPass, ended]
    exact closed.endRun

/-- An offer to a sound pass leaves the engine sound. -/
theorem State.captureSound_takeOffer (h : s.captureSound) (active : s.engine.isActive = true) {d : Nat} {x : Descriptor}
    (current : s.engine.current = some d) (hx : Store.get s.descs d = some x) (o : Offer) :
    (s.takeOffer d x o).st.captureSound := by
  obtain ⟨buffers, pass⟩ := s.captureSound_iff.1 h
  obtain ⟨d', x', current', hx', room, -⟩ := pass active
  obtain rfl := Option.some.inj (current'.symm.trans current)
  obtain rfl := Option.some.inj (hx'.symm.trans hx)
  obtain ⟨-, -, decimation, -⟩ := buffers.descs d' x' hx
  by_cases counting : s.engine.phase + 1 < x'.decimation
  · rw [State.takeOffer_of_counting counting]
    exact (State.captureSound_iff _).2 ⟨buffers.of_eq rfl rfl rfl, fun _ => ⟨d', x', current, hx, room, counting⟩⟩
  · rw [State.takeOffer_of_passing (Nat.not_lt.1 counting)]
    have cleared : s.phaseCleared.BuffersSound := buffers.of_eq rfl rfl rfl
    have effect := s.phaseCleared.passEffect d' x' o
    generalize s.phaseCleared.passOffer d' x' o = r at effect
    cases effect with
    | suppressed =>
      exact (State.captureSound_iff _).2 ⟨cleared, fun _ => ⟨d', x', current, hx, room, decimation⟩⟩
    | stored w last left =>
      exact (State.captureSound_iff _).2 ⟨cleared.storeWord hx room w last,
        fun _ => ⟨d', x', current, hx, left, decimation⟩⟩
    | ended w last r full => exact (cleared.storeWord hx room w last).endPass hx room r

theorem State.captureSound_laneStart (h : s.captureSound) (l : LaneId) (p : Port) (d : Nat) :
    (s.laneStart l p d).captureSound := by
  obtain ⟨buffers, pass⟩ := s.captureSound_iff.1 h
  obtain ⟨-, ⟨x, hx⟩, started⟩ | ⟨-, engine⟩ := s.laneStart_cases l p d
  · rw [started]
    exact buffers.begun hx _
  · have frame := s.laneStart_frame l p d
    have stands : (s.setEngine { s.engine with missed := true }).CaptureStands (s.laneStart l p d) :=
      ⟨by rw [frame]; rfl, by rw [frame]; rfl, engine, by rw [frame]; rfl⟩
    have missed : (s.setEngine { s.engine with missed := true }).captureSound :=
      (State.captureSound_iff _).2 ⟨buffers.of_eq rfl rfl rfl, pass⟩
    exact State.captureSound_of_stands missed stands

end

theorem Tick.captureSound_takeStarts {t : Tick} (h : t.st.captureSound) (starts : List (LaneId × Port × Nat)) :
    (t.takeStarts starts).st.captureSound := by
  induction starts generalizing t with
  | nil => exact h
  | cons e starts ih =>
    exact ih (t := t.withState (t.st.laneStart e.1 e.2.1 e.2.2)) (State.captureSound_laneStart h e.1 e.2.1 e.2.2)

theorem Tick.captureSound_offerWork {t : Tick} (h : t.st.captureSound) {inProgress : Bool}
    (active : inProgress = true → t.st.engine.isActive = true) : (t.offerWork inProgress).st.captureSound := by
  obtain same | ⟨on, d, x, w, current, hx, taken⟩ := t.offerWork_cases inProgress
  · rw [same]
    exact h
  · rw [taken]
    exact State.captureSound_takeOffer h (active on) current hx w

/-! ### The whole of it -/

theorem Tick.captureSound_captureWork {t : Tick} (h : t.st.captureSound) (n : Nat) :
    (t.captureWork t.st.engine.isActive n).st.captureSound := by
  refine Tick.captureSound_takeStarts (Tick.captureSound_offerWork (Tick.captureSound_takeStarts h _) fun active => ?_) _
  obtain ⟨missed, engine⟩ := Tick.takeStarts_of_active active (t.starts.take n)
  rw [engine]
  exact active

/-- The capture engine's work changes no word but the one at the write index of the pass in progress. -/
theorem Tick.captureWork_mem {t : Tick} {n a : Nat}
    (h : Memory.read (t.captureWork t.st.engine.isActive n).st.mem a ≠ Memory.read t.st.mem a) :
    t.st.engine.isActive = true ∧ ∃ (d : Nat) (x : Descriptor), t.st.engine.current = some d
      ∧ Store.get t.st.descs d = some x ∧ a = x.base + t.st.engine.writeIndex := by
  obtain ⟨descs, -, first⟩ := t.takeStarts_stands (t.starts.take n)
  obtain ⟨-, -, last⟩ := Tick.takeStarts_stands ((t.takeStarts (t.starts.take n)).offerWork t.st.engine.isActive)
    (t.starts.drop n)
  rw [Tick.captureWork, last] at h
  obtain same | ⟨active, d, x, w, current, hx, taken⟩ :=
    (t.takeStarts (t.starts.take n)).offerWork_cases t.st.engine.isActive
  · rw [same, first] at h
    exact absurd rfl h
  · obtain ⟨missed, engine⟩ := Tick.takeStarts_of_active active (t.starts.take n)
    rw [engine] at current
    rw [descs] at hx
    refine ⟨active, d, x, current, hx, ?_⟩
    by_contra ha
    refine h ?_
    rw [taken, State.takeOffer_mem_ne _ d x w (by rw [engine]; exact ha), first]

/-- A sample event keeps the capture engine sound. -/
theorem tick_captureSound (o : TickOrder) {s : State} (h : s.captureSound) : (tick o s).st.captureSound := by
  have stands := captureStands_tickUpToCapture o s
  rw [tick_eq_captureWork, ← stands.engine]
  exact Tick.captureSound_captureWork (State.captureSound_of_stands h stands) _

/-- A sample event stores at the write index of the pass in progress and nowhere else (R136). -/
theorem tick_captureMem (o : TickOrder) {s : State} {a : Nat}
    (h : Memory.read (tick o s).st.mem a ≠ Memory.read s.mem a) :
    s.engine.isActive = true ∧ ∃ (d : Nat) (x : Descriptor), s.engine.current = some d
      ∧ Store.get s.descs d = some x ∧ a = x.base + s.engine.writeIndex := by
  have stands := captureStands_tickUpToCapture o s
  rw [tick_eq_captureWork, ← stands.engine, ← stands.mem] at h
  have stored := Tick.captureWork_mem h
  rwa [stands.engine, stands.descs] at stored

end Sys2Proof.Machine
end

section
/-! PROOF. The reading of the descriptor that WRITE_DESCRIPTOR carries (R125, R126), item by item: it is read when every
named item exists, and it is then the one held, whose buffer lies in the memory. -/

namespace Sys2Proof.Machine

/-! ### Choices (R173) -/

theorem sourceOf_eq : ∀ n : Nat, sourceOf n
    = if n ≤ 4 then some ([Source.setpoint, .senseV, .senseI, .rmsV, .rmsI].getD n .setpoint) else none
  | 0 | 1 | 2 | 3 | 4 => rfl
  | n + 5 => (if_neg (by omega)).symm

theorem monitorRelationOf_eq : ∀ n : Nat,
    monitorRelationOf n = if n ≤ 1 then some (if n = 0 then .above else .below) else none :=
  eq_ite_of_two_choices rfl rfl fun _ => rfl

theorem nextOf_eq (n : Nat) :
    nextOf n = if n ≤ 15 ∨ n = 255 then some (if n = 255 then none else some n) else none := by
  by_cases low : n ≤ 15
  · rw [nextOf, if_pos (Nat.lt_succ_of_le low), if_pos (.inl low), if_neg (by omega)]
  · rw [nextOf, if_neg (by omega)]
    by_cases last : n = 255 <;> simp [low, last]

theorem monitorOf_eq (relation threshold : Nat) :
    (monitorRelationOf relation).map (fun q => Monitor.mk q threshold)
      = if relation ≤ 1 then some ⟨if relation = 0 then .above else .below, threshold⟩ else none := by
  rw [monitorRelationOf_eq]
  split_ifs <;> rfl

/-! ### The adjusted numbers (R126) -/

theorem descriptorCount_eq {base : Nat} (h : base ≤ 16383) (count : Nat) :
    descriptorCount base count = min (max count 1) (16384 - base) := by
  unfold descriptorCount
  dsimp only [Config.captureWords]
  split_ifs <;> omega

/-- The record is read when every item exists, and it is then the one held. -/
theorem descriptorOf_eq_some_iff (r : RawDescriptor) (x : Descriptor) :
    descriptorOf r = some x ↔ descriptorNamesExist r ∧ descriptorHeld r = x := by
  simp only [descriptorOf, sourceOf_eq, channelOf_eq, nextOf_eq, partOf_some, monitorOf_eq, partOf_ite, clampNat_zero,
    descriptorCount_eq (Nat.min_le_right r.base 16383), clampNat_eq (show 1 ≤ 256 by decide),
    Nat.min_comm 256, Option.bind_eq_bind, ite_none_bind, Option.ite_none_right_eq_some]
  constructor
  · rintro ⟨source, ⟨low, high⟩, next, deadband, ⟨monitor, relation⟩, record⟩
    exact ⟨⟨source, low, high, next, deadband, monitor, relation⟩, Option.some.inj record⟩
  · rintro ⟨⟨source, low, high, next, deadband, monitor, relation⟩, record⟩
    exact ⟨source, ⟨low, high⟩, next, deadband, ⟨monitor, relation⟩, congrArg some record⟩

theorem descriptorOf_of_named {r : RawDescriptor} (h : descriptorNamesExist r) :
    descriptorOf r = some (descriptorHeld r) := (descriptorOf_eq_some_iff r _).2 ⟨h, rfl⟩

theorem descriptorOf_of_not_named {r : RawDescriptor} (h : ¬ descriptorNamesExist r) : descriptorOf r = none :=
  Option.eq_none_iff_forall_ne_some.2 fun x read => h ((descriptorOf_eq_some_iff r x).1 read).1

/-- A held descriptor has its buffer in the memory, whatever was sent. -/
theorem descriptorHeld_inMemory (r : RawDescriptor) : (descriptorHeld r).inMemory := by
  unfold Descriptor.inMemory descriptorHeld
  dsimp only
  omega

/-- The answer is CLAMPED exactly when a field of the held descriptor differs from the one sent, each width and threshold
where it is carried. -/
theorem descriptorAdjusted_eq_false_iff {r : RawDescriptor} (h : descriptorNamesExist r) :
    let x := descriptorHeld r
    descriptorAdjusted r x = false ↔ x.base = r.base ∧ x.count = r.count ∧ x.decimation = r.decimation
      ∧ (r.hasDeadband = 1 → r.deadband ≤ 32767) ∧ (r.hasMonitor = 1 → r.threshold ≤ 32767) := by
  intro x
  obtain ⟨-, -, -, -, hasDeadband, hasMonitor, -⟩ := h
  have deadband : x.deadband.any (fun w => w != r.deadband) = true ↔ r.hasDeadband = 1 ∧ 32767 < r.deadband :=
    any_part_iff hasDeadband (by simp only [bne_iff_ne]; omega)
  have monitor : x.monitor.any (fun m => m.threshold != r.threshold) = true ↔ r.hasMonitor = 1 ∧ 32767 < r.threshold :=
    any_part_iff hasMonitor (by simp only [bne_iff_ne]; omega)
  rw [← Bool.not_eq_true]
  simp only [descriptorAdjusted, Bool.or_eq_true, bne_iff_ne, deadband, monitor, not_or, not_not, not_and, not_lt,
    and_assoc]

end Sys2Proof.Machine
end

section
/-! PROOF. What a command can do to the capture engine, said once (`State.CaptureEffect`, `exec_captureEffect`): keep its
soundness and its memory, reset it, or be a sample event. From it the engine stays sound and stores only in the buffer of
its current descriptor (R125, R136). -/

namespace Sys2Proof.Machine

/-! ### What keeps the capture engine -/

/-- The memory stands, and a sound capture engine stays sound. -/
structure State.CaptureKept (s t : State) : Prop where
  sound : s.captureSound → t.captureSound
  mem : t.mem = s.mem

theorem State.CaptureStands.kept {s t : State} (h : s.CaptureStands t) : s.CaptureKept t :=
  ⟨fun sound => State.captureSound_of_stands sound h, h.mem⟩

theorem State.CaptureKept.refl (s : State) : s.CaptureKept s := ⟨id, rfl⟩

theorem State.CaptureKept.trans {s t u : State} (h : s.CaptureKept t) (k : t.CaptureKept u) : s.CaptureKept u :=
  ⟨fun sound => k.sound (h.sound sound), k.mem.trans h.mem⟩

/-! ### Chapter 7 -/

/-- With the engine IDLE a change of one descriptor that takes its completion record away keeps the engine sound (R126). -/
theorem State.BuffersSound.rewritten {s t : State} (h : s.BuffersSound) {d : Nat}
    (written : ∀ x : Descriptor, Store.get t.descs d = some x → x.inMemory)
    (others : ∀ e : Nat, e ≠ d → Store.get t.descs e = Store.get s.descs e)
    (comps : t.comps = Store.del s.comps d) (mem : t.mem = s.mem) : t.BuffersSound := by
  refine ⟨fun e x hx => ?_, fun e r hr => ?_, by rw [mem]; exact h.mem⟩
  · by_cases he : e = d
    · subst he
      exact written x hx
    · exact h.descs e x (by rw [← others e he]; exact hx)
  · by_cases he : e = d
    · subst he
      rw [comps, Store.get_del_self] at hr
      cases hr
    · rw [comps, Store.get_del_ne _ he] at hr
      rw [others e he]
      exact h.comps e r hr

theorem captureKept_defineDescriptor (s : State) (d : Nat) (r : RawDescriptor) :
    s.CaptureKept (s.defineDescriptor d r).1 := by
  unfold State.defineDescriptor
  split
  · exact .refl s
  · rename_i x hx
    split_ifs with _ active
    · exact .refl s
    · refine ⟨fun sound => State.BuffersSound.idle ?_ (by simpa using active), rfl⟩
      refine ((s.captureSound_iff.1 sound).1).rewritten (d := d) (fun y hy => ?_)
        (fun e he => Store.get_put_ne _ _ he) rfl rfl
      obtain rfl := Option.some.inj ((Store.get_put_self _ _ _).symm.trans hy)
      obtain ⟨-, rfl⟩ := (descriptorOf_eq_some_iff r _).1 hx
      exact descriptorHeld_inMemory r
    · exact .refl s

theorem captureKept_undefineDescriptor (s : State) (d : Nat) : s.CaptureKept (s.undefineDescriptor d).1 := by
  unfold State.undefineDescriptor
  split_ifs with _ active
  · exact .refl s
  · refine ⟨fun sound => State.BuffersSound.idle ?_ (by simpa using active), rfl⟩
    refine ((s.captureSound_iff.1 sound).1).rewritten (d := d) (fun y hy => ?_)
      (fun e he => Store.get_del_ne _ he) rfl rfl
    cases (Store.get_del_self s.descs d).symm.trans hy
  · exact .refl s

theorem captureKept_startCapture (s : State) (p : Port) (d : Nat) : s.CaptureKept (s.startCapture p d).1 := by
  unfold State.startCapture
  split_ifs with named
  · exact .refl s
  · refine ⟨fun sound => ?_, rfl⟩
    obtain ⟨x, hx⟩ := Option.isSome_iff_exists.1 named.2
    exact (s.captureSound_iff.1 sound).1.begun hx _
  · exact .refl s

/-- The run of a sound engine ended STOPPED: the words of its pass so far fit its buffer (R138). -/
theorem captureKept_stopRun {s : State} {d : Nat} (active : s.engine.isActive = true)
    (current : s.engine.current = some d) : s.CaptureKept (s.stopRun d) := by
  refine ⟨fun sound => ?_, by rw [State.stopRun_eq]⟩
  obtain ⟨buffers, pass⟩ := s.captureSound_iff.1 sound
  obtain ⟨d', x, current', hx, room, -⟩ := pass active
  obtain rfl := Option.some.inj (current'.symm.trans current)
  exact (buffers.closePass hx room.le .stopped).endRun

theorem captureKept_stopCapture (s : State) : s.CaptureKept s.stopCapture.1 := by
  unfold State.stopCapture
  split
  · rename_i active current
    exact captureKept_stopRun active current
  · exact .refl s

/-! ### Chapters 8 to 10 -/

theorem captureStands_takeCause (s : State) (c : Cause) (p : Option Port) : s.CaptureStands (s.takeCause c p) := by
  rw [State.takeCause_frame]
  exact ⟨rfl, rfl, rfl, rfl⟩

theorem captureStands_takeSource (s : State) (c : Cause) (on : Bool) : s.CaptureStands (s.takeSource c on) := by
  rw [State.takeSource_frame]
  exact ⟨rfl, rfl, rfl, rfl⟩

theorem captureKept_stopAny (s : State) : s.CaptureKept s.stopAny := by
  unfold State.stopAny
  split
  · rename_i active current
    exact captureKept_stopRun active current
  · exact .refl s

/-- MASTER_CLEAR stops the run in progress (R183). -/
theorem captureKept_masterClear (s : State) (p : Port) : s.CaptureKept (s.masterClear p).1 := by
  have ended : s.CaptureStands (s.endLanes .cleared) := by
    rw [State.endLanes_frame]
    exact ⟨rfl, rfl, rfl, rfl⟩
  have cleared : ∀ u : State, u.CaptureStands u.emptyLoading.clearLines := fun u => ⟨rfl, rfl, rfl, rfl⟩
  exact ((ended.trans (captureStands_takeCause _ _ _)).kept.trans (captureKept_stopAny _)).trans (cleared _).kept

theorem captureStands_restart (s : State) : s.CaptureStands s.restart.1 := by
  unfold State.restart
  split_ifs <;> exact ⟨rfl, rfl, rfl, rfl⟩

theorem captureStands_getLink (s : State) (link clear : Nat) : s.CaptureStands (s.getLink link clear).1 := by
  unfold State.getLink
  split
  · dsimp only
    split <;> exact ⟨rfl, rfl, rfl, rfl⟩
  · exact .refl s

/-! ### The effect of a command -/

/-- What a command other than a reset can do to the capture engine. -/
inductive State.CaptureEffect (s : State) : State → Prop
  /-- Its memory stands, and it is kept sound. -/
  | kept {t : State} : s.CaptureKept t → State.CaptureEffect s t
  /-- A sample event (R131 to R137). -/
  | sample (o : TickOrder) : State.CaptureEffect s (tick o s).st

theorem State.CaptureEffect.refl (s : State) : s.CaptureEffect s := .kept (.refl s)

theorem State.CaptureEffect.stands {s t : State} (h : s.CaptureStands t) : s.CaptureEffect t := .kept h.kept

/-- A response leaves what its command has left. -/
theorem State.CaptureEffect.answer {s : State} {v : State × Reply} (p : Port) (code : Nat) (h : s.CaptureKept v.1) :
    s.CaptureEffect (State.answer p code v) :=
  have answered : v.1.CaptureStands (State.answer p code v) := ⟨rfl, rfl, rfl, rfl⟩
  .kept (h.trans answered.kept)

theorem State.CaptureEffect.monitors {s : State} {v : State × Reply} (p : Port) (code : Nat) (h : s.MonitorsStand v.1) :
    s.CaptureEffect (State.answer p code v) := .answer p code h.captureStands.kept

/-- A command that only reads leaves its response. -/
theorem State.CaptureEffect.reads (s : State) (p : Port) (code : Nat) (r : Reply) :
    s.CaptureEffect (State.answer p code (s, r)) := .answer p code (.refl s)

theorem tickWhen_captureEffect (e : TickEvent) (o : TickOrder) (s : State) : s.CaptureEffect (tickWhen e o s) := by
  unfold tickWhen
  split
  · exact .sample o
  · exact .refl s

/-- Every command but a reset and the deselect itself has an effect of the list. -/
theorem exec_captureEffect_of_ne {i : Instr} (reset : ∀ low : Bool, i ≠ .resetNAssertion low)
    (deselect : ∀ p : Port, i ≠ .frameError p) (s : State) : ∃ t : State, exec i s = .next t ∧ s.CaptureEffect t := by
  cases i with
  | resetNAssertion low => exact absurd rfl (reset low)
  | frameError p => exact absurd rfl (deselect p)
  | sampleEvent o => exact ⟨_, rfl, .sample o⟩
  | levelRampEnd _ o | frequencyRampEnd _ o | linkLost _ o | linkRecovered _ o | truncated _ o | markerPulseEnd _ o
  | dwellEnd _ o | waitMet _ o | waitTimeout _ o | decimationPass o | capturePassFull o =>
    exact ⟨_, rfl, tickWhen_captureEffect _ o s⟩
  | statusFrame k chars stops => exact ⟨_, rfl, .stands ⟨rfl, rfl, rfl, rfl⟩⟩
  | tripNAsserted => exact ⟨_, rfl, .stands (captureStands_takeSource s .tripN true)⟩
  | tripNReleased => exact ⟨_, rfl, .stands (captureStands_takeSource s .tripN false)⟩
  | spiSelect p => exact ⟨_, rfl, .stands ⟨rfl, rfl, rfl, rfl⟩⟩
  | spiByteCompleted p b =>
    simp only [exec, execSpiByteCompleted]
    split
    · exact ⟨_, rfl, .stands ⟨rfl, rfl, rfl, rfl⟩⟩
    · exact ⟨_, rfl, .refl s⟩
  | nop p | identify p | readTableChunk p _ _ | getTableState p _ | readOverlaySet p _ | readStep p _ | readProgram p _
  | getLane p _ | getMeasurement p _ | readDescriptor p _ | readCapture p _ _ | getCapture p | getTrip p =>
    exact ⟨_, rfl, .reads s p _ _⟩
  | getAlerts p => exact ⟨_, rfl, .monitors p _ (.of_frame rfl)⟩
  | setAlertMask p mask => exact ⟨_, rfl, .monitors p _ (monitors_setAlertMask s p mask)⟩
  | setChannel p ch r => exact ⟨_, rfl, .monitors p _ (monitors_setChannel s ch r)⟩
  | getChannel p ch clear => exact ⟨_, rfl, .monitors p _ (monitors_getChannel s ch clear)⟩
  | linkChannelFollow p ch _ | linkChannelUnlink p ch => exact ⟨_, rfl, .monitors p _ (monitors_relink s ch _)⟩
  | beginTable p n => exact ⟨_, rfl, .monitors p _ (monitors_beginTable s p n)⟩
  | writeTableChunk p n c e => exact ⟨_, rfl, .monitors p _ (monitors_writeTableChunk s p n c e)⟩
  | commitTable p n => exact ⟨_, rfl, .monitors p _ (monitors_commitTable s p n)⟩
  | discardTable p n => exact ⟨_, rfl, .monitors p _ (monitors_discardTable s n)⟩
  | writeOverlaySet p n count slots => exact ⟨_, rfl, .monitors p _ (monitors_writeOverlaySet s n count slots)⟩
  | writeStep p n r => exact ⟨_, rfl, .monitors p _ (monitors_writeStep s n r)⟩
  | clearStep p n => exact ⟨_, rfl, .monitors p _ (monitors_clearStep s n)⟩
  | writeProgramDefine p n first count policy =>
    exact ⟨_, rfl, .monitors p _ (monitors_defineProgram s n first count policy)⟩
  | writeProgramUndefine p n => exact ⟨_, rfl, .monitors p _ (monitors_undefineProgram s n)⟩
  | start p program channels => exact ⟨_, rfl, .monitors p _ (monitors_start s p program channels)⟩
  | hold p lane => exact ⟨_, rfl, .monitors p _ (monitors_holdCommand s lane)⟩
  | resume p lane => exact ⟨_, rfl, .monitors p _ (monitors_resumeCommand s lane)⟩
  | release p lane => exact ⟨_, rfl, .monitors p _ (monitors_releaseCommand s lane)⟩
  | abort p lane => exact ⟨_, rfl, .monitors p _ (monitors_abortCommand s p lane)⟩
  | setHoldKey p key | clearHoldKey p key => exact ⟨_, rfl, .monitors p _ (monitors_changeKey s key _)⟩
  | writeDescriptorDefine p d r => exact ⟨_, rfl, .answer p _ (captureKept_defineDescriptor s d r)⟩
  | writeDescriptorUndefine p d => exact ⟨_, rfl, .answer p _ (captureKept_undefineDescriptor s d)⟩
  | startCapture p d => exact ⟨_, rfl, .answer p _ (captureKept_startCapture s p d)⟩
  | stopCapture p => exact ⟨_, rfl, .answer p _ (captureKept_stopCapture s)⟩
  | masterClear p => exact ⟨_, rfl, .answer p _ (captureKept_masterClear s p)⟩
  | trip p => exact ⟨_, rfl, .answer p _ (captureStands_takeCause s .portTrip (some p)).kept⟩
  | restart p => exact ⟨_, rfl, .answer p _ (captureStands_restart s).kept⟩
  | getLink p link clear => exact ⟨_, rfl, .answer p _ (captureStands_getLink s link clear).kept⟩

/-- A command that a frame spells is no reset when it has an effect (R174). -/
theorem takeCommand_captureEffect (i : Instr) (s : State) :
    ∃ t : State, takeCommand i s = .next t ∧ s.CaptureEffect t := by
  by_cases reset : ∃ low : Bool, i = .resetNAssertion low
  · obtain ⟨low, rfl⟩ := reset
    exact ⟨s, rfl, .refl s⟩
  · by_cases deselect : ∃ p : Port, i = .frameError p
    · obtain ⟨p, rfl⟩ := deselect
      exact ⟨s, rfl, .refl s⟩
    · obtain h | h := takeCommand_cases i s
      · rw [h]
        exact exec_captureEffect_of_ne (not_exists.1 reset) (not_exists.1 deselect) s
      · exact ⟨s, h, .refl s⟩

/-- Every command but a reset has an effect of the list on the capture engine. -/
theorem exec_captureEffect {i : Instr} (reset : ∀ low : Bool, i ≠ .resetNAssertion low) (s : State) :
    ∃ t : State, exec i s = .next t ∧ s.CaptureEffect t := by
  by_cases deselect : ∃ p : Port, i = .frameError p
  · obtain ⟨p, rfl⟩ := deselect
    simp only [exec, execFrameError]
    split
    · split
      · exact ⟨_, rfl, .stands ⟨rfl, rfl, rfl, rfl⟩⟩
      · split
        · exact takeCommand_captureEffect _ s
        · exact ⟨_, rfl, .stands ⟨rfl, rfl, rfl, rfl⟩⟩
    · exact ⟨s, rfl, .refl s⟩
  · exact exec_captureEffect_of_ne reset (not_exists.1 deselect) s

/-! ### Every step -/

theorem State.CaptureEffect.sound {s t : State} (e : s.CaptureEffect t) (h : s.captureSound) : t.captureSound := by
  cases e with
  | kept kept => exact kept.sound h
  | sample o => exact tick_captureSound o h

/-- A word changes at the write index of the pass in progress and nowhere else. -/
theorem State.CaptureEffect.stored {s t : State} (e : s.CaptureEffect t) {a : Nat}
    (h : Memory.read t.mem a ≠ Memory.read s.mem a) : s.engine.isActive = true ∧ ∃ (d : Nat) (x : Descriptor),
      s.engine.current = some d ∧ Store.get s.descs d = some x ∧ a = x.base + s.engine.writeIndex := by
  cases e with
  | kept kept => exact absurd (by rw [kept.mem]) h
  | sample o => exact tick_captureMem o h

/-- The word at the write index of a sound pass lies in its buffer. -/
theorem State.CaptureEffect.storedInBuffer {s t : State} (e : s.CaptureEffect t) (sound : s.captureSound) {a : Nat}
    (h : Memory.read t.mem a ≠ Memory.read s.mem a) : s.engine.isActive = true ∧ ∃ (d : Nat) (x : Descriptor),
      s.engine.current = some d ∧ Store.get s.descs d = some x ∧ x.base ≤ a ∧ a < x.base + x.count := by
  obtain ⟨active, d, x, current, hx, rfl⟩ := e.stored h
  obtain ⟨d', x', current', hx', room, -⟩ := (s.captureSound_iff.1 sound).2 active
  obtain rfl := Option.some.inj (current'.symm.trans current)
  obtain rfl := Option.some.inj (hx'.symm.trans hx)
  exact ⟨active, d', x', current, hx, by omega, by omega⟩

/-- Settles O57: RESET_N leaves a sound engine, and every other effect on the capture engine keeps it sound and stores in
the buffer of its current descriptor. -/
theorem stepKeepsCaptureInBuffer : Obligations.StepKeepsCaptureInBuffer := by
  intro s t sound h
  unfold step at h
  split at h
  · cases h
    exact ⟨sound, fun _ a changed => absurd rfl changed⟩
  · rename_i i rest queue
    by_cases reset : ∃ low : Bool, i = .resetNAssertion low
    · obtain ⟨low, rfl⟩ := reset
      cases h
      exact ⟨State.reset_captureSound low, fun noReset => absurd (by rw [queue]; rfl) (noReset low)⟩
    · obtain ⟨u, taken, effect⟩ := exec_captureEffect (not_exists.1 reset) { s with pending := rest }
      rw [taken] at h
      cases h
      exact ⟨effect.sound sound, fun _ a changed => effect.storedInBuffer sound changed⟩

end Sys2Proof.Machine
end

section
/-! PROOF. The commands of Chapter 7: the answer of WRITE_DESCRIPTOR, START_CAPTURE, STOP_CAPTURE and READ_CAPTURE per
outcome of their checks (R126, R130, R138, R140). -/

namespace Sys2Proof.Machine

/-! ### READ_CAPTURE (R140) -/

theorem exec_readCapture (p : Port) (a c : Nat) (s : State) :
    exec (.readCapture p a c) s = .next (State.answer p 0x64 (s, s.readCapture a c)) := rfl

theorem Memory.getElem?_readList (m : Memory) {a n k : Nat} (hk : k < n) :
    (Memory.readList m a n)[k]? = some (Memory.read m (a + k)) := by
  induction n generalizing a k with
  | zero => exact absurd hk (Nat.not_lt_zero k)
  | succ n ih =>
    cases k with
    | zero => rfl
    | succ k => exact (ih (Nat.lt_of_succ_lt_succ hk)).trans (by rw [Nat.add_succ, Nat.succ_add_eq_add_succ])

/-- The words from `a` up, two bytes each. -/
def State.wordBytes (s : State) (a c : Nat) : List Byte := ((Memory.readList s.mem a c).map (intBytes 2)).flatten

theorem State.length_wordBytes (s : State) (a c : Nat) : (s.wordBytes a c).length = 2 * c := by
  rw [State.wordBytes, length_flatten_of_forall length_of_mem_map_intBytes, List.length_map,
    Memory.length_readList, Nat.mul_comm]

theorem State.take_drop_wordBytes (s : State) (a : Nat) {c k : Nat} (hk : k < c) :
    ((s.wordBytes a c).drop (2 * k)).take 2 = intBytes 2 (Memory.read s.mem (a + k)) := by
  refine take_drop_flatten length_of_mem_map_intBytes ?_
  rw [List.getElem?_map, Memory.getElem?_readList _ hk]
  rfl

theorem State.readCapture_of_range (s : State) {a c : Nat} (ha : a ≤ 16383) (one : 1 ≤ c) (most : c ≤ 32)
    (last : a + c ≤ 16384) : s.readCapture a c = Reply.ok (s.wordBytes a c) :=
  if_pos ⟨Nat.lt_succ_of_le ha, one, most, last⟩

theorem State.readCapture_of_bad_range (s : State) {a c : Nat} (h : 16383 < a ∨ c = 0 ∨ 32 < c ∨ 16384 < a + c) :
    s.readCapture a c = Reply.refuse .badArgument := by
  refine if_neg fun ⟨ha, one, most, last⟩ => ?_
  dsimp only [Config.captureWords] at ha last
  omega

/-- Settles O32: the words of the range are read as they stand, two bytes each. -/
theorem readCaptureReturnsWords : Obligations.ReadCaptureReturnsWords := by
  refine fun p a c s => ⟨fun ha one most last => ⟨s.wordBytes a c, s.length_wordBytes a c,
    fun k hk => s.take_drop_wordBytes a hk, ?_⟩, fun h => ?_⟩
  · rw [exec_readCapture, s.readCapture_of_range ha one most last, State.answer_ok]
  · rw [exec_readCapture, s.readCapture_of_bad_range h, State.answer_refuse]

/-! ### WRITE_DESCRIPTOR (R126) -/

theorem exec_writeDescriptorDefine (p : Port) (d : Nat) (r : RawDescriptor) (s : State) :
    exec (.writeDescriptorDefine p d r) s = .next (State.answer p 0x60 (s.defineDescriptor d r)) := rfl

theorem exec_writeDescriptorUndefine (p : Port) (d : Nat) (s : State) :
    exec (.writeDescriptorUndefine p d) s = .next (State.answer p 0x60 (s.undefineDescriptor d)) := rfl

section
variable {s : State} {d : Nat} {r : RawDescriptor}

theorem State.defineDescriptor_of_bad_operand (h : 15 < d ∨ ¬ descriptorNamesExist r) :
    s.defineDescriptor d r = (s, Reply.refuse .badArgument) := by
  by_cases named : descriptorNamesExist r
  · simp only [State.defineDescriptor, descriptorOf_of_named named]
    exact if_pos (by have := h.resolve_right (not_not.2 named); omega)
  · simp only [State.defineDescriptor, descriptorOf_of_not_named named]

theorem State.defineDescriptor_of_active (low : d ≤ 15) (named : descriptorNamesExist r)
    (active : s.engine.isActive = true) : s.defineDescriptor d r = (s, Reply.refuse .busy) := by
  simp only [State.defineDescriptor, descriptorOf_of_named named]
  rw [if_neg (not_not.2 (Nat.lt_succ_of_le low)), if_pos active]

theorem State.defineDescriptor_of_accepted (low : d ≤ 15) (named : descriptorNamesExist r)
    (idle : s.engine.isActive = false) : s.defineDescriptor d r
      = ({ s with descs := Store.put s.descs d (descriptorHeld r), comps := Store.del s.comps d },
         Reply.taken (descriptorAdjusted r (descriptorHeld r)) (descriptorItem (some (descriptorHeld r)))) := by
  simp only [State.defineDescriptor, descriptorOf_of_named named]
  rw [if_neg (not_not.2 (Nat.lt_succ_of_le low)), if_neg (by rw [idle]; decide)]

theorem State.undefineDescriptor_of_gt (h : 15 < d) : s.undefineDescriptor d = (s, Reply.refuse .badArgument) :=
  if_pos (Nat.not_lt.2 h)

theorem State.undefineDescriptor_of_active (low : d ≤ 15) (active : s.engine.isActive = true) :
    s.undefineDescriptor d = (s, Reply.refuse .busy) := by
  rw [State.undefineDescriptor, if_neg (not_not.2 (Nat.lt_succ_of_le low)), if_pos active]

theorem State.undefineDescriptor_of_accepted (low : d ≤ 15) (idle : s.engine.isActive = false) : s.undefineDescriptor d
    = ({ s with descs := Store.del s.descs d, comps := Store.del s.comps d }, Reply.ok []) := by
  rw [State.undefineDescriptor, if_neg (not_not.2 (Nat.lt_succ_of_le low)), if_neg (by rw [idle]; decide)]

end

/-- Settles O33: one equation of each form for each outcome; the descriptor read is the one held
(`descriptorOf_eq_some_iff`). -/
theorem writeDescriptorReplaces : Obligations.WriteDescriptorReplaces := by
  refine fun p d s => ⟨fun r => ⟨fun h => ?_, fun low named => ⟨fun active => ?_, fun idle => ?_⟩⟩, fun h => ?_,
    fun low active => ?_, fun low idle => ?_⟩
  · rw [exec_writeDescriptorDefine, State.defineDescriptor_of_bad_operand h, State.answer_refuse]
  · rw [exec_writeDescriptorDefine, State.defineDescriptor_of_active low named active, State.answer_refuse]
  · refine ⟨descriptorHeld_inMemory r, _, _, if descriptorAdjusted r (descriptorHeld r) then .clamped else .ok, ?_,
      Store.get_put_self s.descs d _, Store.get_del_self s.comps d,
      fun e he => ⟨Store.get_put_ne _ _ he, Store.get_del_ne _ he⟩, ?_⟩
    · rw [exec_writeDescriptorDefine, State.defineDescriptor_of_accepted low named idle, State.answer_taken,
        descriptorItem_eq]
    · rw [← ite_not]
      exact if_congr ((Bool.not_eq_true _).to_iff.trans (descriptorAdjusted_eq_false_iff named)) rfl rfl
  · rw [exec_writeDescriptorUndefine, State.undefineDescriptor_of_gt h, State.answer_refuse]
  · rw [exec_writeDescriptorUndefine, State.undefineDescriptor_of_active low active, State.answer_refuse]
  · refine ⟨_, _, ?_, Store.get_del_self s.descs d, Store.get_del_self s.comps d,
      fun e he => ⟨Store.get_del_ne _ he, Store.get_del_ne _ he⟩⟩
    rw [exec_writeDescriptorUndefine, State.undefineDescriptor_of_accepted low idle, State.answer_ok]

/-! ### START_CAPTURE (R130) -/

theorem exec_startCapture (p : Port) (d : Nat) (s : State) :
    exec (.startCapture p d) s = .next (State.answer p 0x62 (s.startCapture p d)) := rfl

theorem exec_stopCapture (p : Port) (s : State) :
    exec (.stopCapture p) s = .next (State.answer p 0x63 s.stopCapture) := rfl

section
variable {s : State} {d : Nat} {x : Descriptor}

theorem State.startCapture_of_undefined (h : 15 < d ∨ Store.get s.descs d = none) (p : Port) :
    s.startCapture p d = (s, Reply.refuse .badArgument) := by
  refine if_pos fun ⟨low, defined⟩ => ?_
  obtain high | undefined := h
  · omega
  · rw [undefined] at defined
    cases defined

theorem State.startCapture_of_active (low : d ≤ 15) (defined : Store.get s.descs d = some x)
    (active : s.engine.isActive = true) {o : Originator} (origin : s.engine.originator = some o) (p : Port) :
    s.startCapture p d = (s, ⟨.busy, numBytes 2 s.engine.run ++ originatorItem o⟩) := by
  rw [State.startCapture, if_neg (not_not.2 ⟨Nat.lt_succ_of_le low, by rw [defined]; rfl⟩), if_pos active, origin]
  rfl

theorem State.startCapture_of_accepted (low : d ≤ 15) (defined : Store.get s.descs d = some x)
    (idle : s.engine.isActive = false) (p : Port) : s.startCapture p d
      = (s.setEngine (s.engine.startRun (.port p) d), Reply.ok (numBytes 2 (next16 s.engine.run))) := by
  rw [State.startCapture, if_neg (not_not.2 ⟨Nat.lt_succ_of_le low, by rw [defined]; rfl⟩),
    if_neg (by rw [idle]; decide)]
  rfl

/-! ### STOP_CAPTURE (R138) -/

theorem State.stopCapture_of_idle (idle : s.engine.isActive = false) :
    s.stopCapture = (s, Reply.refuse .wrongState) := by
  unfold State.stopCapture
  rw [idle]

theorem State.stopCapture_of_active (active : s.engine.isActive = true) (current : s.engine.current = some d) :
    s.stopCapture = (s.stopRun d, Reply.ok (numBytes 2 s.engine.run ++ byteItem d ++ numBytes 2 s.engine.writeIndex)) := by
  unfold State.stopCapture
  rw [active, current]

/-- A run ended STOPPED: its completion record, its count, the engine IDLE, and CAPTURE_ENDED to its originator's port. -/
theorem State.stopRun_alerts {o : Originator} (origin : s.engine.originator = some o) : s.stopRun d
    = State.alert { s with
        comps := Store.put s.comps d ⟨s.engine.writeIndex, .stopped, s.engine.run⟩
        engine := { s.engine with isActive := false, current := none, ends := min (s.engine.ends + 1) 65535 } }
        o.toPort .captureEnded := by
  rw [← bump_eq_min]
  exact (s.closePass d .stopped).endRun_alerts (q := o) origin

end

/-- Settles O34: one equation of each command for each outcome, and the run's end by `State.stopRun_alerts`. -/
theorem startAndStopCapture : Obligations.StartAndStopCapture := by
  refine fun p s => ⟨fun d h => ?_, fun d x o low defined active origin => ?_, fun d x low defined idle => ?_,
    fun idle => ?_, fun d o active current origin => ⟨_, ?_, Store.get_put_self s.comps d _,
      fun e he => Store.get_put_ne _ _ he⟩⟩
  · rw [exec_startCapture, State.startCapture_of_undefined h, State.answer_refuse]
  · rw [exec_startCapture, State.startCapture_of_active low defined active origin]
    rfl
  · rw [exec_startCapture, State.startCapture_of_accepted low defined idle, State.answer_ok]
    rfl
  · rw [exec_stopCapture, State.stopCapture_of_idle idle, State.answer_refuse]
  · rw [exec_stopCapture, State.stopCapture_of_active active current, State.answer_ok, State.stopRun_alerts origin,
      List.append_assoc]
    rfl

end Sys2Proof.Machine
end

section
/-! PROOF. One offer to the current descriptor (R133 to R136): the decimation, the monitor and the deadband by what they
compare, and the word stored with the state it leaves. -/

namespace Sys2Proof.Machine

/-! ### The filters (R134, R135) -/

theorem Monitor.met_iff (m : Monitor) (v : Int) :
    m.met v = true ↔ (m.relation = .above ∧ m.threshold < v.natAbs) ∨ (m.relation = .below ∧ v.natAbs < m.threshold) := by
  unfold Monitor.met
  cases h : m.relation <;> simp

theorem Monitor.not_met_iff (m : Monitor) (v : Int) :
    m.met v = false ↔ (m.relation = .above ∧ v.natAbs ≤ m.threshold) ∨ (m.relation = .below ∧ m.threshold ≤ v.natAbs) := by
  unfold Monitor.met
  cases h : m.relation <;> simp

theorem monitorMet_iff (monitor : Option Monitor) (v : Int) :
    monitor.any (fun m => m.met v) = true ↔ ∃ m ∈ monitor,
      (m.relation = .above ∧ m.threshold < v.natAbs) ∨ (m.relation = .below ∧ v.natAbs < m.threshold) := by
  cases monitor <;> simp [Monitor.met_iff]

theorem monitorUnmet_iff (monitor : Option Monitor) (v : Int) :
    monitor.any (fun m => m.met v) = false ↔ ∀ m ∈ monitor,
      (m.relation = .above ∧ v.natAbs ≤ m.threshold) ∨ (m.relation = .below ∧ m.threshold ≤ v.natAbs) := by
  cases monitor <;> simp [Monitor.not_met_iff]

theorem deadbandPasses_iff (width : Option Nat) (last : Option Int) (v : Int) :
    deadbandPasses width last v = true ↔ ∀ w ∈ width, ∀ u ∈ last, w < (v - u).natAbs := by
  cases width <;> cases last <;> simp [deadbandPasses]

theorem deadbandHolds_iff (width : Option Nat) (last : Option Int) (v : Int) :
    deadbandPasses width last v = false ↔ ∃ w ∈ width, ∃ u ∈ last, (v - u).natAbs ≤ w := by
  cases width <;> cases last <;> simp [deadbandPasses]

/-! ### A word stored (R136) -/

theorem State.endPass_comp (s : State) (d : Nat) (x : Descriptor) (r : PassReason) :
    Store.get (s.endPass d x r).comps d = some ⟨s.engine.writeIndex, r, s.engine.run⟩ := by
  obtain ⟨-, comps, -, -⟩ := s.endPass_records d x r
  rw [comps, Store.get_put_self]

theorem State.fillCheck_mem (s : State) (d : Nat) (x : Descriptor) : (s.fillCheck d x).st.mem = s.mem := by
  unfold State.fillCheck
  split
  · obtain ⟨-, -, mem, -⟩ := s.endPass_records d x .full
    exact mem
  · rfl

section
variable (s : State) (d : Nat) (x : Descriptor) (w : Int) (last : Option Int)

theorem State.storeWord_read : Memory.read (s.storeWord x w last).mem (x.base + s.engine.writeIndex) = w :=
  Memory.read_write_self _ _ _

/-- A word stored by an offer that passed the decimation and met no monitor: it stands at the write index, and the pass
goes on in the room left or ends FULL. -/
theorem State.stored_fillCheck :
    let r := (s.phaseCleared.storeWord x w last).fillCheck d x
    Memory.read r.st.mem (x.base + s.engine.writeIndex) = w
    ∧ (s.engine.writeIndex + 1 < x.count →
        r.st.engine = { s.engine with phase := 0, writeIndex := s.engine.writeIndex + 1, last := last } ∧ r.full = false)
    ∧ (x.count ≤ s.engine.writeIndex + 1 → r.full = true
        ∧ Store.get r.st.comps d = some ⟨s.engine.writeIndex + 1, .full, s.engine.run⟩) := by
  refine ⟨?_, fun room => ?_, fun full => ?_⟩
  · rw [State.fillCheck_mem]
    exact s.phaseCleared.storeWord_read x w last
  · rw [State.fillCheck_of_room (s := s.phaseCleared.storeWord x w last) room]
    exact ⟨rfl, rfl⟩
  · rw [State.fillCheck_of_full (s := s.phaseCleared.storeWord x w last) full]
    exact ⟨rfl, State.endPass_comp _ _ _ _⟩

/-- A word stored by an offer that met the monitor: the pass ends MONITOR with it (R134). -/
theorem State.stored_monitor :
    Memory.read ((s.phaseCleared.storeWord x w last).endPass d x .monitor).mem (x.base + s.engine.writeIndex) = w
    ∧ Store.get ((s.phaseCleared.storeWord x w last).endPass d x .monitor).comps d
        = some ⟨s.engine.writeIndex + 1, .monitor, s.engine.run⟩ := by
  obtain ⟨-, -, mem, -⟩ := (s.phaseCleared.storeWord x w last).endPass_records d x .monitor
  refine ⟨?_, State.endPass_comp _ _ _ _⟩
  rw [mem]
  exact s.phaseCleared.storeWord_read x w last

end

/-- Settles O35: the offer by the outcome of its decimation, then of the monitor and of the deadband. -/
theorem offerIsFilteredAndStored : Obligations.OfferIsFilteredAndStored := by
  refine fun s d x o => ⟨fun counting => ?_, fun passing => ⟨?_, fun b hb => s.takeOffer_mem_ne d x o hb, ?_,
    fun v hv => ⟨fun met => ?_, fun unmet => ⟨fun held => ?_, fun passes => ?_⟩⟩⟩⟩
  · rw [State.takeOffer_of_counting counting]
    exact ⟨rfl, rfl⟩
  · rw [State.takeOffer_of_passing passing]
    exact (s.phaseCleared.passEffect d x o).passed
  · rintro rfl
    rw [State.takeOffer_of_passing passing]
    exact s.stored_fillCheck d x (-32768) s.engine.last
  · subst hv
    rw [State.takeOffer_of_passing passing, State.passOffer_of_met _ _ ((monitorMet_iff _ v).2 met)]
    exact s.stored_monitor d x v (some v)
  · subst hv
    rw [State.takeOffer_of_passing passing,
      State.passOffer_of_suppressed (s := s.phaseCleared) _ ((monitorUnmet_iff _ v).2 unmet)
        ((deadbandHolds_iff _ _ v).2 held)]
    exact ⟨rfl, rfl⟩
  · subst hv
    rw [State.takeOffer_of_passing passing,
      State.passOffer_of_passes (s := s.phaseCleared) _ ((monitorUnmet_iff _ v).2 unmet)
        ((deadbandPasses_iff _ _ v).2 passes)]
    exact s.stored_fillCheck d x v (some v)

end Sys2Proof.Machine
end

section
/-! PROOF. What a sample event has noted for the capture engine as its work begins (R128, R131): the verdicts and the
measurements, what each channel hands off (`Tick.HandsOff`), and the capture starts of the lanes, none when no step applied
carries one (`Tick.laneWork_starts`). -/

namespace Sys2Proof.Machine

/-! ### What a channel hands off (R24) -/

/-- The code of channel `c` has been handed off as its output state and its record say. -/
def Tick.HandsOff (t : Tick) (c : Channel) : Prop :=
  t.handed.get c = handOff (t.st.trip.outputs.get c) (clampCode (t.st.compute (t.st.chans.get c)))

/-- The computed value reads the library and the channel's synthesis state, not its clip counter. -/
theorem State.compute_of_stand {s t : State} (wave : t.wave = s.wave) (overlays : t.overlays = s.overlays) (x : Chan)
    (n : Nat) : t.compute { x with clip := n } = s.compute x := by
  have entry : ∀ n : Nat, t.entry n = s.entry n := fun n => funext fun i => by rw [State.entry, State.entry, wave]
  have terms : ∀ n : Nat, t.terms n = s.terms n := fun n => by rw [State.terms, State.terms, overlays]
  unfold State.compute
  rw [entry, terms]
  rfl

theorem Tick.HandsOff.of_stand {t u : Tick} {c : Channel} (h : t.HandsOff c) (handed : u.handed.get c = t.handed.get c)
    (outputs : u.st.trip.outputs = t.st.trip.outputs) (chan : u.st.chans.get c = t.st.chans.get c)
    (wave : u.st.wave = t.st.wave) (overlays : u.st.overlays = t.st.overlays) : u.HandsOff c := by
  have value : u.st.compute (u.st.chans.get c) = t.st.compute (t.st.chans.get c) := by
    rw [chan]
    exact State.compute_of_stand wave overlays (t.st.chans.get c) _
  rw [Tick.HandsOff, handed, outputs, value]
  exact h

theorem Tick.emit_handed (t : Tick) (c : Channel) : (t.emit c).handed
    = t.handed.set c (handOff (t.st.trip.outputs.get c) (clampCode (t.st.compute (t.st.chans.get c)))) := by
  have counted : (t.st.countClip c).trip = t.st.trip := by
    unfold State.countClip
    dsimp only
    split <;> rfl
  unfold Tick.emit
  dsimp only
  split
  · rfl
  · rw [Tick.withState, counted]

theorem Tick.handsOff_emit (t : Tick) (c : Channel) : (t.emit c).HandsOff c := by
  have handed := congrArg (·.get c) (t.emit_handed c)
  have stands : (t.emit c).st.trip = t.st.trip ∧ (t.emit c).st.compute ((t.emit c).st.chans.get c)
      = t.st.compute (t.st.chans.get c) := by
    obtain ⟨n, p, h, emitted⟩ := t.emit_eq c
    rw [emitted]
    refine ⟨rfl, ?_⟩
    dsimp only
    rw [PerChannel.get_set_self]
    exact State.compute_of_stand rfl rfl _ n
  rw [Tick.HandsOff, stands.1, stands.2, handed]
  exact PerChannel.get_set_self _ _ _

/-- A channel's ending leaves what another channel has handed off. -/
theorem Tick.HandsOff.ending {t : Tick} {c d : Channel} (h : t.HandsOff c) (hd : d ≠ c) : (t.ending d).HandsOff c := by
  have apart := t.ending_apart hd
  have handed : (t.ending d).handed.get c = t.handed.get c := by
    unfold Tick.ending
    rw [Tick.emit_handed, PerChannel.get_set_ne _ _ hd.symm, Tick.ramps_eq]
  have frame := t.ending_frame d
  exact h.of_stand handed (by rw [(t.ending_spec d).trip]) (apart.chan_eq (.inl trivial)) (by rw [frame]) (by rw [frame])

theorem Tick.handsOff_endings (t : Tick) (c : Channel) : (t.endings (PerChannel.all true)).HandsOff c := by
  have own : ∀ (u : Tick) (d : Channel), (u.ending d).HandsOff d := fun u d => (u.ramps d).handsOff_emit d
  cases c with
  | L1 => exact ((own t .L1).ending (by decide)).ending (by decide)
  | L2 => exact (own (t.ending .L1) .L2).ending (by decide)
  | L3 => exact own ((t.ending .L1).ending .L2) .L3

/-! ### The capture starts of a lane's work (R89) -/

/-- No step of the range of lane record `x` carries a capture start. -/
def State.Captureless (s : State) (x : Lane) : Prop :=
  ∀ (k : Nat) (step : StepRecord), s.stepAt x k = some step → step.capture = none

/-- The positions of a lane's range hang on its program alone. -/
theorem State.Captureless.of_program {s : State} {x y : Lane} (h : s.Captureless x) (same : y.program = x.program) :
    s.Captureless y := by
  intro k step hk
  refine h k step ?_
  rwa [State.stepAt, State.programOf, same] at hk

theorem Tick.applyStep_starts (t : Tick) (l : LaneId) (x : Lane) (step : StepRecord) :
    (t.applyStep l x step).starts = (t.applyCapture step l x).starts := by
  have fields : (t.applyFields step x).starts = t.starts := by rw [Tick.applyFields_frame]
  obtain ⟨-, -, marked⟩ := (t.applyFields step x).applyMarkers_stands step
  have before : ((t.applyFields step x).applyMarkers step).starts = t.starts := marked.trans fields
  show (((t.applyFields step x).applyMarkers step).applyCapture step l x).starts = _
  unfold Tick.applyCapture
  split
  · rw [before]
  · exact before

theorem Tick.applyStep_starts_of_none (t : Tick) (l : LaneId) (x : Lane) {step : StepRecord}
    (none : step.capture = none) : (t.applyStep l x step).starts = t.starts := by
  rw [Tick.applyStep_starts, Tick.applyCapture, none]

section
variable (t : Tick) (l : LaneId) {x : Lane}

theorem Tick.align_starts {step : StepRecord} (none : step.capture = none) : (t.align l x step).starts = t.starts := by
  unfold Tick.align
  split
  · exact t.applyStep_starts_of_none l x none
  · rfl

theorem Tick.enter_starts (h : t.st.Captureless x) (pos : Nat) (push : Bool) :
    (t.enter l x pos push).starts = t.starts := by
  unfold Tick.enter
  split
  · rfl
  · rename_i step hs
    dsimp only
    split
    · rfl
    · exact t.align_starts l (h pos step hs)

theorem Tick.complete_starts (policy : ExitPolicy) : (t.complete l x policy).starts = t.starts := by cases policy <;> rfl

theorem Tick.finish_starts (h : t.st.Captureless x) (step : StepRecord) : (t.finish l x step).starts = t.starts := by
  have rest : ∀ (stack : List GroupEntry) (release : Bool),
      t.st.Captureless { x with stack := stack, releasePending := release } := fun _ _ => h.of_program rfl
  unfold Tick.finish
  split
  · dsimp only
    split
    · exact t.enter_starts l (rest _ _) _ _
    · split
      · exact t.enter_starts l (rest _ _) _ _
      · exact t.complete_starts l _
  · rfl

theorem Tick.dwellWork_starts (h : t.st.Captureless x) (step : StepRecord) :
    (t.dwellWork l x step).starts = t.starts := by
  unfold Tick.dwellWork
  split
  · rfl
  · dsimp only
    split_ifs
    · rfl
    · unfold Tick.dwellDone
      dsimp only
      split
      · rfl
      · refine (t.happens (.dwellEnd l)).finish_starts l ?_ step
        exact h.of_program rfl
    · rfl

theorem Tick.timeoutWork_starts (h : t.st.Captureless x) (step : StepRecord) (w : WaitPart) :
    (t.timeoutWork l x step w).starts = t.starts := by
  unfold Tick.timeoutWork
  dsimp only
  split_ifs
  · unfold Tick.timedOut
    dsimp only
    split
    · refine (t.happens (.waitTimeout l)).finish_starts l ?_ step
      exact h.of_program rfl
    · rfl
  · rfl
  · rfl

theorem Tick.waitWork_starts (h : t.st.Captureless x) (step : StepRecord) : (t.waitWork l x step).starts = t.starts := by
  unfold Tick.waitWork
  split
  · rfl
  · dsimp only
    split_ifs
    · refine (t.happens (.waitMet l)).finish_starts l ?_ step
      exact h.of_program rfl
    · refine t.timeoutWork_starts l ?_ step _
      exact h.of_program rfl

/-- A lane that applies no step, or whose range carries no capture start, asks for none. -/
theorem Tick.laneWork_starts (h : (t.st.lanes.get l).state = .idle ∨ (t.st.lanes.get l).state = .held
    ∨ (t.st.lanes.get l).state = .closing ∨ t.st.Captureless (t.st.lanes.get l)) :
    (t.laneWork l).starts = t.starts := by
  obtain idle | held | closing | captureless := h
  · rw [t.laneWork_of_idle l idle]
  · unfold Tick.laneWork
    dsimp only
    rw [held]
  · unfold Tick.laneWork
    dsimp only
    rw [closing]
    rfl
  · unfold Tick.laneWork
    dsimp only
    split
    · rename_i step _ current
      obtain ⟨k, -, hk⟩ := Option.bind_eq_some_iff.1 current
      exact t.align_starts l (captureless k step hk)
    · exact t.dwellWork_starts l captureless _
    · exact t.waitWork_starts l captureless _
    · rfl
    · rfl

end

/-- The lanes' work without a capture start. -/
theorem Tick.AllOpened.lanesIn_starts {t : Tick} {s : State} (h : t.AllOpened s) (none : s.noCaptureStart)
    (g : ChannelSet) : (t.lanesIn g).starts = t.starts := by
  refine (Tick.lanesIn_keeps_fresh (P := fun u => u.Foretold s ∧ u.starts = t.starts) (fun u l hu hl => ?_)
    ⟨h.foretold, rfl⟩).2
  obtain ⟨foretold, starts⟩ := hu
  have record : u.st.lanes.get l = s.lanes.get l := by rw [hl, h.lanes]
  refine ⟨foretold.laneWork l, (u.laneWork_starts l ?_).trans starts⟩
  rw [record]
  refine (none l).imp_right (Or.imp_right (Or.imp_right fun captureless k step hk => ?_))
  exact captureless k step (by rwa [foretold.stepAt] at hk)

/-! ### Up to the capture engine's work -/

theorem Tick.work_verdict (t : Tick) (g : ChannelSet) : (t.work g).verdict = t.verdict := by
  have opened : (t.openings g).verdict = t.verdict :=
    Tick.forChannels_keeps (P := fun u => u.verdict = t.verdict) (fun u c _ h => (u.opening_spec c).verdict.trans h) rfl
  have lanes : ((t.openings g).lanesIn g).verdict = t.verdict := by rw [(t.openings g).laneFrame_lanesIn g, opened]
  exact Tick.forChannels_keeps (P := fun u => u.verdict = t.verdict) (fun u c _ h => by rw [u.ending_frame]; exact h) lanes

/-- The verdicts are noted as the links delivered them (R165). -/
theorem tickChannels_verdict (o : TickOrder) (s : State) (c : Channel) :
    (tickChannels o s).verdict.get c = (s.links.get c).verdict.2 := by
  have noted : (tickChannels o s).verdict = (Tick.verdicts s).verdict :=
    (Tick.work_verdict _ _).trans (Tick.work_verdict _ _)
  rw [noted]
  exact (Tick.verdicts_begun s).verdict c

/-- What a sample event without an entry has noted after the channels' work: the lanes' work follows the openings of all
channels and asks for the capture starts; the measurements are those that the state foretells; every channel hands off. -/
theorem tickChannels_noted (o : TickOrder) {s : State} (entry : s.noEntryDue) :
    (∃ t : Tick, t.AllOpened s ∧ t.starts = [] ∧ (tickChannels o s).starts = (t.lanesIn (PerChannel.all true)).starts
      ∧ (tickChannels o s).st.lanes = (t.lanesIn (PerChannel.all true)).st.lanes)
    ∧ (∀ c : Channel, (tickChannels o s).closed.get c = s.closes c)
    ∧ ∀ c : Channel, (tickChannels o s).HandsOff c := by
  have channels := tickChannels_eq_of_noEntryDue o entry
  have moved := (Tick.work_settled entry.settled (PerChannel.all true)).takeLinks o.sources
  have opened := (Tick.verdicts_begun s).openings_all
  have unasked := ((Tick.verdicts s).openings_starts (PerChannel.all true)).trans (Tick.verdicts_starts s)
  rw [Tick.work_eq] at channels moved
  generalize (Tick.verdicts s).openings (PerChannel.all true) = t at channels moved opened unasked
  have handsOff := (t.lanesIn (PerChannel.all true)).handsOff_endings
  have kept : ∀ u : Tick, (u.endings (PerChannel.all true)).closed = u.closed := fun u =>
    Tick.forChannels_keeps (P := fun v => v.closed = u.closed) (fun v c _ h => by rw [v.ending_frame]; exact h) rfl
  have starts := (t.lanesIn (PerChannel.all true)).endings_starts (PerChannel.all true)
  have lanes := (t.lanesIn (PerChannel.all true)).endings_lanes (PerChannel.all true)
  have closed := (kept (t.lanesIn (PerChannel.all true))).trans (t.lanesIn_kept (PerChannel.all true)).closed
  generalize (t.lanesIn (PerChannel.all true)).endings (PerChannel.all true) = u
    at channels moved handsOff starts lanes closed
  have frame := moved.frame
  rw [channels]
  refine ⟨⟨t, opened, unasked, starts, ?_⟩, fun c => ?_, fun c => ?_⟩
  · rw [← lanes, frame]
    rfl
  · rw [← opened.closed, ← closed]
    rfl
  · refine (handsOff c).of_stand rfl moved.outputs ?_ ?_ ?_ <;> rw [frame] <;> rfl

theorem Tick.frames_noted (t : Tick) (o : TickOrder) (f : Channel → Bool) : t.frames o f = { t with
    st := { t.st with links := (t.frames o f).st.links } } := rfl

/-- The setpoint frames and the ends of pulses leave all but the links, the marker lines and the events. -/
theorem tickUpToCapture_frame (o : TickOrder) (s : State) : tickUpToCapture o s = { tickChannels o s with
    st := { (tickChannels o s).st with
      links := (tickUpToCapture o s).st.links, marker1 := (tickUpToCapture o s).st.marker1
      marker2 := (tickUpToCapture o s).st.marker2 }
    events := (tickUpToCapture o s).events } := by
  have frames : tickFrames o s = { tickChannels o s with
      st := { (tickChannels o s).st with links := (tickFrames o s).st.links } } := by
    unfold tickFrames
    exact Tick.frames_noted _ o _
  unfold tickUpToCapture
  rw [Tick.endPulse_frame, Tick.endPulse_frame (tickFrames o s), frames]

end Sys2Proof.Machine
end

section
/-! PROOF. The capture engine's work at a sample event by what has been noted for it: the offer of each source (R128) taken
by the run in progress when no lane starts another, the parked 0 without a running lane, and the one capture start of the
only running lane (R131). -/

namespace Sys2Proof.Machine

/-! ### What is noted as the capture engine's work begins -/

theorem tickUpToCapture_noted (o : TickOrder) (s : State) :
    (tickUpToCapture o s).starts = (tickChannels o s).starts ∧ (tickUpToCapture o s).handed = (tickChannels o s).handed
    ∧ (tickUpToCapture o s).verdict = (tickChannels o s).verdict
    ∧ (tickUpToCapture o s).closed = (tickChannels o s).closed
    ∧ (tickUpToCapture o s).st.lanes = (tickChannels o s).st.lanes := by
  rw [tickUpToCapture_frame]
  exact ⟨rfl, rfl, rfl, rfl, rfl⟩

/-- After a sample event without an entry the code that a channel handed off is as its record and its output say (R24). -/
theorem tick_handsOff (o : TickOrder) {s : State} (entry : s.noEntryDue) (c : Channel) : (tick o s).HandsOff c := by
  obtain ⟨-, -, handsOff⟩ := tickChannels_noted o entry
  have upTo : (tickUpToCapture o s).HandsOff c := by
    refine (handsOff c).of_stand ?_ ?_ ?_ ?_ ?_ <;> rw [tickUpToCapture_frame]
  rw [tick_eq_captureWork, Tick.captureWork_frame]
  exact upTo.of_stand rfl rfl rfl rfl rfl

theorem tick_handed (o : TickOrder) (s : State) : (tick o s).handed = (tickUpToCapture o s).handed := by
  rw [tick_eq_captureWork, Tick.captureWork_frame]

/-! ### Without a running lane -/

/-- Every lane IDLE, no capture start asked for, and channel `c` PARKED with nothing but 0 handed off. -/
structure Tick.AtRest (t : Tick) (c : Channel) : Prop where
  idle : t.st.lanesIdle
  starts : t.starts = []
  parked : t.st.trip.outputs.get c = .parked
  code : (t.handed.get c).1 = 0

section
variable {t : Tick} {c : Channel} (h : t.AtRest c)
include h

theorem Tick.AtRest.opening (d : Channel) : (t.opening d).AtRest c := by
  have spec := t.opening_spec d
  refine ⟨fun l => by rw [spec.lanes]; exact h.idle l, (t.opening_stands d).2.trans h.starts, ?_, ?_⟩
  · rw [spec.trip]
    dsimp only
    split_ifs with unparks
    · have other : c ≠ d := fun e => by
        rw [← e, h.parked] at unparks
        cases unparks.2
      rw [PerChannel.get_set_ne _ _ other, h.parked]
    · exact h.parked
  · rw [t.opening_frame]
    exact h.code

theorem Tick.AtRest.ending (d : Channel) : (t.ending d).AtRest c := by
  have spec := t.ending_spec d
  refine ⟨fun l => by rw [spec.lanes]; exact h.idle l, (t.ending_starts d).trans h.starts,
    by rw [spec.trip]; exact h.parked, ?_⟩
  unfold Tick.ending
  rw [Tick.emit_handed, PerChannel.get_set, Tick.ramps_eq]
  split_ifs with hd
  · subst hd
    dsimp only [State.trip_setChan]
    rw [h.parked]
    rfl
  · exact h.code

theorem Tick.AtRest.work (g : ChannelSet) : (t.work g).AtRest c := by
  have opened : (t.openings g).AtRest c :=
    Tick.forChannels_keeps (P := fun u => u.AtRest c) (fun _ d _ hu => hu.opening d) h
  rw [Tick.work_eq, Tick.lanesIn_of_idle opened.idle]
  exact Tick.forChannels_keeps (P := fun u => u.AtRest c) (fun _ d _ hu => hu.ending d) opened

/-- An entry to TRIPPED parks every output and ends every lane (R149). -/
theorem Tick.AtRest.takeLinks (o : LinkOrder) : (t.withState (t.st.takeLinks o)).AtRest c := by
  refine ⟨fun l => ?_, h.starts, ?_, h.code⟩
  · obtain lanes | idle := t.st.takeLinks_lanes o
    · rw [Tick.withState, lanes]
      exact h.idle l
    · exact idle l
  · cases trip : t.st.trip.state with
    | normal =>
      obtain unentered | entered := State.linksTaken_takeLinks trip o
      · rw [Tick.withState, unentered.moved.outputs, h.parked]
      · rw [Tick.withState, entered.outputs, PerChannel.get_all]
    | tripped =>
      have settled : t.st.Settled := .inl trip
      rw [Tick.withState, (settled.takeLinks o).outputs, h.parked]

end

/-- Without a running lane a channel that is PARKED stays so through the channels' work (R149). -/
theorem tickChannels_atRest (o : TickOrder) {s : State} (idle : s.lanesIdle) {c : Channel}
    (parked : s.trip.outputs.get c = .parked) : (tickChannels o s).AtRest c := by
  have start : (Tick.verdicts s).AtRest c := by
    have begun := Tick.verdicts_begun s
    refine ⟨fun l => by rw [begun.lanes]; exact idle l, Tick.verdicts_starts s, by rw [begun.trip]; exact parked, ?_⟩
    obtain ⟨e, he⟩ := Tick.verdicts_eq s
    rw [he]
    exact congrArg Prod.fst (PerChannel.get_all c (0, true))
  exact ((start.work _).takeLinks o.sources).work _

/-! ### The offer taken by a run in progress -/

theorem Tick.captureWork_of_unasked {t : Tick} (unasked : t.starts = []) (b : Bool) (n : Nat) :
    t.captureWork b n = t.offerWork b := by
  rw [Tick.captureWork, unasked, List.take_nil, List.drop_nil]
  rfl

section
variable {o : TickOrder} {s : State} {d : Nat} {x : Descriptor} (unasked : (tickChannels o s).starts = [])
  (active : s.engine.isActive = true) (current : s.engine.current = some d) (defined : Store.get s.descs d = some x)
include unasked active current defined

/-- With no lane's start the offer is the capture engine's whole work, and its rows come about with it. -/
theorem tick_of_offer {w : Offer} (offer : (tickUpToCapture o s).offerOf x = some w) :
    (tick o s).st = ((tickUpToCapture o s).st.takeOffer d x w).st
    ∧ ((s.takeOffer d x w).passed = true → .decimationPass ∈ (tick o s).events)
    ∧ ((s.takeOffer d x w).full = true → .capturePassFull ∈ (tick o s).events) := by
  have stands := captureStands_tickUpToCapture o s
  have alike := stands.takeOffer d x w
  obtain ⟨starts, -⟩ := tickUpToCapture_noted o s
  rw [tick_eq_captureWork, Tick.captureWork_of_unasked (starts.trans unasked), active, ← alike.passed, ← alike.full]
  exact Tick.offerWork_of_offer (by rw [stands.engine, current]) (by rw [stands.descs, defined]) offer

/-- The engine takes the offer, and each row that it brings about is this sample event (R133 to R137). -/
theorem tick_takes {w : Offer} (offer : (tickUpToCapture o s).offerOf x = some w) :
    (tick o s).st.engine = (s.takeOffer d x w).st.engine ∧ (tick o s).st.mem = (s.takeOffer d x w).st.mem
    ∧ (tick o s).st.comps = (s.takeOffer d x w).st.comps
    ∧ ((s.takeOffer d x w).passed = true → exec (.decimationPass o) s = .next (tick o s).st)
    ∧ ((s.takeOffer d x w).full = true → exec (.capturePassFull o) s = .next (tick o s).st) := by
  obtain ⟨taken, passed, full⟩ := tick_of_offer unasked active current defined offer
  have alike := ((captureStands_tickUpToCapture o s).takeOffer d x w).st
  rw [← taken] at alike
  exact ⟨alike.engine, alike.mem, alike.comps, fun h => congrArg Host.Outcome.next (tickWhen_of_mem (passed h)),
    fun h => congrArg Host.Outcome.next (tickWhen_of_mem (full h))⟩

/-- Without an offer the capture side stands. -/
theorem tick_stands (offer : (tickUpToCapture o s).offerOf x = none) : s.CaptureStands (tick o s).st := by
  have stands := captureStands_tickUpToCapture o s
  obtain ⟨starts, -⟩ := tickUpToCapture_noted o s
  rw [tick_eq_captureWork, Tick.captureWork_of_unasked (starts.trans unasked), active,
    Tick.offerWork_of_none (by rw [stands.engine, current]) (by rw [stands.descs, defined]) offer]
  exact stands

end

/-! ### The parked 0 (R24, R128) -/

/-- A value that passes the decimation and finds neither a monitor nor a deadband is stored (R133 to R136). -/
theorem State.takeOffer_of_unfiltered {s : State} {x : Descriptor} (passing : x.decimation ≤ s.engine.phase + 1)
    (monitor : x.monitor = none) (deadband : x.deadband = none) (d : Nat) (v : Int) :
    s.takeOffer d x (.value v) = (s.phaseCleared.storeWord x v (some v)).fillCheck d x := by
  rw [State.takeOffer_of_passing passing]
  exact State.passOffer_of_passes d (by rw [monitor]; rfl) (by rw [deadband]; rfl)

theorem State.endPass_of_defined (s : State) (d : Nat) {x : Descriptor} (r : PassReason) {e : Nat}
    (next : x.next = some e) (defined : (Store.get s.descs e).isSome = true) :
    s.endPass d x r = (s.closePass d r).setEngine ((s.closePass d r).engine.beginPass e) := by
  rw [State.endPass, next]
  exact (s.closePass d r).followNext_of_defined defined

theorem State.chainEnds.of_descs {s t : State} {next : Option Nat} (h : s.chainEnds next) (descs : t.descs = s.descs) :
    t.chainEnds next := by
  rw [State.chainEnds, descs]
  exact h

/-- A pass at the end of its chain ends the run, and its originator's port is told (R137). -/
theorem State.endPass_of_chainEnds {s : State} {x : Descriptor} (ends : s.chainEnds x.next) (d : Nat) (r : PassReason) :
    (s.endPass d x r).engine.isActive = false
    ∧ ∀ q ∈ s.engine.originator, (s.endPass d x r).alerted q.toPort .captureEnded := by
  have ended : s.endPass d x r = (s.closePass d r).endRun :=
    State.followNext_of_chainEnds (s := s.closePass d r) ends
  rw [ended]
  refine ⟨by rw [(s.closePass d r).captureStands_endRun.engine]; rfl, fun q origin => ?_⟩
  rw [(s.closePass d r).endRun_alerts (q := q) origin]
  exact State.alerted_alert_self _ _ _

theorem State.takeOffer_of_filling {s : State} {x : Descriptor} (passing : x.decimation ≤ s.engine.phase + 1)
    (monitor : x.monitor = none) (deadband : x.deadband = none) (full : x.count ≤ s.engine.writeIndex + 1) (d : Nat)
    (v : Int) : s.takeOffer d x (.value v)
      = ⟨(s.phaseCleared.storeWord x v (some v)).endPass d x .full, true, true⟩ := by
  rw [State.takeOffer_of_unfiltered passing monitor deadband]
  exact State.fillCheck_of_full (s := s.phaseCleared.storeWord x v (some v)) full d

/-- Without a running lane a PARKED channel offers 0 (R24, R128), and no lane starts a run. -/
theorem offerOf_parked (o : TickOrder) {s : State} (idle : s.lanesIdle) {x : Descriptor} (source : x.source = .setpoint)
    (parked : s.trip.outputs.get x.channel = .parked) :
    (tickChannels o s).starts = [] ∧ (tickUpToCapture o s).offerOf x = some (.value 0) := by
  have rest := tickChannels_atRest o idle parked
  obtain ⟨-, handed, -⟩ := tickUpToCapture_noted o s
  refine ⟨rest.starts, ?_⟩
  unfold Tick.offerOf
  rw [source]
  dsimp only
  rw [handed, rest.code]

/-- The offer that fills the last buffer of a chain ends the run (R137). -/
theorem tick_ends_run {o : TickOrder} {s : State} {d : Nat} {x : Descriptor} {v : Int}
    (unasked : (tickChannels o s).starts = []) (active : s.engine.isActive = true) (current : s.engine.current = some d)
    (defined : Store.get s.descs d = some x) (offer : (tickUpToCapture o s).offerOf x = some (.value v))
    (passing : x.decimation ≤ s.engine.phase + 1) (monitor : x.monitor = none) (deadband : x.deadband = none)
    (full : x.count ≤ s.engine.writeIndex + 1) (ends : s.chainEnds x.next) :
    (tick o s).st.engine.isActive = false
    ∧ ∀ q ∈ s.engine.originator, (tick o s).st.alerted q.toPort .captureEnded := by
  have stands := captureStands_tickUpToCapture o s
  obtain ⟨taken, -⟩ := tick_of_offer unasked active current defined offer
  generalize (tickUpToCapture o s).st = u at stands taken
  rw [State.takeOffer_of_filling (by rwa [stands.engine]) monitor deadband (by rwa [stands.engine])] at taken
  have chain : (u.phaseCleared.storeWord x v (some v)).chainEnds x.next := ends.of_descs stands.descs
  rw [taken, ← stands.engine]
  exact State.endPass_of_chainEnds chain d .full

/-! ### A lane's capture start (R89, R131) -/

/-- The only running lane applies its due step (R86, R88). -/
theorem Tick.AllOpened.lanesIn_of_due {t : Tick} {s : State} (h : t.AllOpened s) {l : LaneId} (only : s.OnlyLane l)
    {step : StepRecord} (hx : (s.lanes.get l).state = .aligning) (hs : s.currentStep (s.lanes.get l) = some step)
    (due : s.dueNext (s.lanes.get l) step) :
    t.lanesIn (PerChannel.all true) = t.applyStep l (s.lanes.get l) step := by
  have foretold := h.foretold
  have lane : t.st.lanes.get l = s.lanes.get l := by rw [h.lanes]
  rw [Tick.lanesIn_of_only (l := l) fun k hk => by rw [h.lanes]; exact only k hk, ← lane]
  refine Tick.laneWork_eq_applyStep ?_ ?_ ?_ <;> rw [lane]
  · exact hx
  · rw [foretold.currentStep, hs]
  · exact (foretold.due_iff _ _).2 due

/-- It asks for the capture start of the step, and no other lane does. -/
theorem tickUpToCapture_of_due (o : TickOrder) {s : State} (entry : s.noEntryDue) {l : LaneId} (only : s.OnlyLane l)
    {step : StepRecord} (hx : (s.lanes.get l).state = .aligning) (hs : s.currentStep (s.lanes.get l) = some step)
    (due : s.dueNext (s.lanes.get l) step) {d : Nat} (capture : step.capture = some d) {p : Port}
    (origin : (s.lanes.get l).origin = some p) :
    (tickUpToCapture o s).starts = [(l, p, d)]
    ∧ (tickUpToCapture o s).st.lanes.get l = { s.lanes.get l with state := .dwell, dwell := some step.duration } := by
  obtain ⟨⟨t, opened, unasked, starts, lanes⟩, -, -⟩ := tickChannels_noted o entry
  obtain ⟨noted, -, -, -, stands⟩ := tickUpToCapture_noted o s
  have applied := opened.lanesIn_of_due only hx hs due
  rw [applied] at starts lanes
  refine ⟨?_, ?_⟩
  · rw [noted, starts, Tick.applyStep_starts, Tick.applyCapture, capture, origin]
    dsimp only
    rw [unasked]
    rfl
  · rw [stands, lanes]
    exact PerLane.get_set_self _ _ _

/-- A capture start of lane `l` was missed: the flag is set in the engine and in the end record, and CAPTURE_MISSED is
pending at port `p` (R131). -/
structure State.CaptureMissed (s : State) (l : LaneId) (p : Port) (t : State) : Prop where
  engine : t.engine.missed = true
  ending : (t.lanes.get l).ending = { (s.lanes.get l).ending with missed := true }
  alert : t.alerted p .captureMissed

theorem State.captureMissed_laneStart {s : State} {d : Nat}
    (h : s.engine.isActive = true ∨ Store.get s.descs d = none) (l : LaneId) (p : Port) :
    s.CaptureMissed l p (s.laneStart l p d) := by
  rw [State.laneStart_of_missed h]
  refine ⟨rfl, ?_, State.alerted_alert_self _ _ _⟩
  rw [State.lanes_alert, State.lanes_setLane, PerLane.get_set_self]

theorem State.takeOffer_missed (s : State) (d : Nat) (x : Descriptor) (o : Offer) :
    (s.takeOffer d x o).st.engine.missed = s.engine.missed := by
  have ended : ∀ (u : State) (r : PassReason), (u.endPass d x r).engine.missed = u.engine.missed := fun u r => by
    rw [State.endPass]
    obtain ⟨e, -, -, -, followed⟩ | ⟨-, followed⟩ := (u.closePass d r).followNext_cases x.next
    · rw [followed]
      rfl
    · rw [followed, (u.closePass d r).captureStands_endRun.engine]
      rfl
  by_cases counting : s.engine.phase + 1 < x.decimation
  · rw [State.takeOffer_of_counting counting]
    rfl
  · rw [State.takeOffer_of_passing (Nat.not_lt.1 counting)]
    have effect := s.phaseCleared.passEffect d x o
    generalize s.phaseCleared.passOffer d x o = r at effect
    cases effect with
    | suppressed => rfl
    | stored w last => rfl
    | ended w last r full => exact ended _ r

/-- An offer taken after it leaves a missed start as it is. -/
theorem State.CaptureMissed.offerWork {s : State} {l : LaneId} {p : Port} {t : Tick} (h : s.CaptureMissed l p t.st)
    (b : Bool) : s.CaptureMissed l p (t.offerWork b).st := by
  refine ⟨?_, by rw [Tick.offerWork_lanes]; exact h.ending, (t.announces_offerWork b).alerts h.alert⟩
  obtain same | ⟨-, d, x, w, -, -, taken⟩ := t.offerWork_cases b
  · rw [same]
    exact h.engine
  · rw [taken, State.takeOffer_missed]
    exact h.engine

section
variable {t : Tick} {l : LaneId} {p : Port} {d : Nat} (starts : t.starts = [(l, p, d)])
include starts

theorem Tick.captureWork_of_start_last (b : Bool) :
    t.captureWork b 0 = (t.offerWork b).withState ((t.offerWork b).st.laneStart l p d) := by
  rw [Tick.captureWork, starts]
  rfl

theorem Tick.captureWork_of_start_first (b : Bool) {n : Nat} (first : 0 < n) :
    t.captureWork b n = (t.withState (t.st.laneStart l p d)).offerWork b := by
  obtain ⟨n, rfl⟩ := Nat.exists_eq_succ_of_ne_zero first.ne'
  rw [Tick.captureWork, starts, List.take_succ_cons, List.drop_succ_cons, List.take_nil, List.drop_nil]
  rfl

/-- Without a run in progress the start is the capture engine's whole work. -/
theorem Tick.captureWork_of_start_idle (n : Nat) :
    t.captureWork false n = t.withState (t.st.laneStart l p d) := by
  obtain rfl | first := n.eq_zero_or_pos
  · exact Tick.captureWork_of_start_last starts false
  · exact Tick.captureWork_of_start_first starts false first

/-- A start that names an undefined descriptor, or that is taken before the offer of a run in progress, is missed. -/
theorem Tick.captureMissed_captureWork (b : Bool) {n : Nat}
    (h : Store.get t.st.descs d = none ∨ (t.st.engine.isActive = true ∧ 0 < n)) :
    t.st.CaptureMissed l p (t.captureWork b n).st := by
  obtain rfl | first := n.eq_zero_or_pos
  · have undefined : Store.get (t.offerWork b).st.descs d = none := by
      rw [Tick.offerWork_frame]
      exact h.resolve_right fun e => absurd e.2 (Nat.lt_irrefl 0)
    have missed := State.captureMissed_laneStart (.inr undefined) l p
    rw [Tick.captureWork_of_start_last starts]
    exact ⟨missed.engine, by rw [← Tick.offerWork_lanes t b]; exact missed.ending, missed.alert⟩
  · rw [Tick.captureWork_of_start_first starts b first]
    exact State.CaptureMissed.offerWork (State.captureMissed_laneStart (h.symm.imp_left And.left) l p) b

/-- An IDLE engine starts the run of a defined descriptor (R130, R131). -/
theorem Tick.captureWork_of_start_free (idle : t.st.engine.isActive = false)
    (defined : (Store.get t.st.descs d).isSome = true) (n : Nat) :
    (t.captureWork false n).st = t.st.setEngine (t.st.engine.startRun (.lane l p) d) := by
  rw [Tick.captureWork_of_start_idle starts, Tick.withState]
  exact State.laneStart_of_free idle defined l p

/-- With the engine IDLE a missed start changes its flag alone. -/
theorem Tick.captureWork_of_start_undefined (undefined : Store.get t.st.descs d = none) (n : Nat) :
    (t.captureWork false n).st.engine = { t.st.engine with missed := true } := by
  rw [Tick.captureWork_of_start_idle starts, Tick.withState, State.laneStart_of_missed (.inr undefined)]
  rfl

end

end Sys2Proof.Machine
end

section
/-! PROOF. The rows of the capture engine (R89, R128, R131, R137): the parked 0 that is stored or fills its buffer, the
capture start of the only running lane, and the offer of each source. -/

namespace Sys2Proof.Machine

/-! ### The parked 0 -/

section
variable {o : TickOrder} {s : State} {d : Nat} {x : Descriptor} (idle : s.lanesIdle)
  (active : s.engine.isActive = true) (current : s.engine.current = some d) (defined : Store.get s.descs d = some x)
  (source : x.source = .setpoint) (parked : s.trip.outputs.get x.channel = .parked) (monitor : x.monitor = none)
  (deadband : x.deadband = none) (passing : s.engine.phase + 1 = x.decimation)
include idle active current defined source parked monitor deadband passing

/-- The parked 0 is stored at the write index, and nothing else is. -/
theorem tick_stores_parked : Memory.read (tick o s).st.mem (x.base + s.engine.writeIndex) = 0
    ∧ ∀ a : Nat, a ≠ x.base + s.engine.writeIndex → Memory.read (tick o s).st.mem a = Memory.read s.mem a := by
  obtain ⟨unasked, offer⟩ := offerOf_parked o idle source parked
  obtain ⟨-, mem, -⟩ := tick_takes unasked active current defined offer
  obtain ⟨stored, -⟩ := s.stored_fillCheck d x 0 (some 0)
  rw [mem]
  refine ⟨?_, fun a ha => s.takeOffer_mem_ne d x _ ha⟩
  rw [State.takeOffer_of_unfiltered passing.ge monitor deadband]
  exact stored

/-- With room left the store is DECIMATION_PASS's, and the pass goes on. -/
theorem tick_parked_of_room (room : s.engine.writeIndex + 1 < x.count) :
    exec (.decimationPass o) s = .next (tick o s).st
    ∧ (tick o s).st.engine = { s.engine with phase := 0, writeIndex := s.engine.writeIndex + 1, last := some 0 } := by
  obtain ⟨unasked, offer⟩ := offerOf_parked o idle source parked
  obtain ⟨engine, -, -, row, -⟩ := tick_takes unasked active current defined offer
  rw [State.takeOffer_of_unfiltered passing.ge monitor deadband] at engine row
  have goesOn := State.fillCheck_of_room (s := s.phaseCleared.storeWord x 0 (some 0)) room d
  rw [goesOn] at engine row
  exact ⟨row rfl, engine⟩

/-- The store that fills the buffer is CAPTURE_PASS_FULL's, and ends the pass. -/
theorem tick_parked_of_full (full : s.engine.writeIndex + 1 = x.count) :
    exec (.capturePassFull o) s = .next (tick o s).st
    ∧ (tick o s).st.engine = ((s.phaseCleared.storeWord x 0 (some 0)).endPass d x .full).engine
    ∧ (tick o s).st.comps = ((s.phaseCleared.storeWord x 0 (some 0)).endPass d x .full).comps := by
  obtain ⟨unasked, offer⟩ := offerOf_parked o idle source parked
  obtain ⟨engine, -, comps, -, row⟩ := tick_takes unasked active current defined offer
  rw [State.takeOffer_of_filling passing.ge monitor deadband full.ge] at engine comps row
  exact ⟨row rfl, engine, comps⟩

end

/-! ### A lane's capture start -/

/-- The only running lane applies a step with a capture start: the lane goes DWELL, and the start is taken or missed
(R89, R131). -/
theorem tick_of_start (o : TickOrder) {s : State} (entry : s.noEntryDue) {l : LaneId} (only : s.OnlyLane l)
    {step : StepRecord} (hx : (s.lanes.get l).state = .aligning) (hs : s.currentStep (s.lanes.get l) = some step)
    (due : s.dueNext (s.lanes.get l) step) {d : Nat} (capture : step.capture = some d) {p : Port}
    (origin : (s.lanes.get l).origin = some p) :
    ((tick o s).st.lanes.get l).butMissed
      = Lane.butMissed { s.lanes.get l with state := .dwell, dwell := some step.duration }
    ∧ (s.engine.isActive = false → (Store.get s.descs d).isSome = true →
        (tick o s).st.engine = s.engine.startRun (.lane l p) d
        ∧ ((tick o s).st.lanes.get l).ending = (s.lanes.get l).ending ∧ (tick o s).st.mem = s.mem
        ∧ (tick o s).st.comps = s.comps)
    ∧ (Store.get s.descs d = none ∨ (s.engine.isActive = true ∧ 0 < o.startsFirst) →
        (tick o s).st.engine.missed = true
        ∧ ((tick o s).st.lanes.get l).ending = { (s.lanes.get l).ending with missed := true }
        ∧ (tick o s).st.alerted p .captureMissed)
    ∧ (s.engine.isActive = false → Store.get s.descs d = none →
        (tick o s).st.engine = { s.engine with missed := true }) := by
  obtain ⟨starts, lane⟩ := tickUpToCapture_of_due o entry only hx hs due capture origin
  have stands := captureStands_tickUpToCapture o s
  rw [tick_eq_captureWork]
  generalize tickUpToCapture o s = t at starts lane stands
  refine ⟨?_, fun idle defined => ?_, fun h => ?_, fun idle undefined => ?_⟩
  · rw [(t.tail_captureWork _ _).lanes, lane]
  · rw [idle, Tick.captureWork_of_start_free starts (by rw [stands.engine, idle]) (by rw [stands.descs, defined])]
    exact ⟨congrArg (Engine.startRun · (.lane l p) d) stands.engine,
      (congrArg Lane.ending lane : (t.st.lanes.get l).ending = _), stands.mem, stands.comps⟩
  · have missed := Tick.captureMissed_captureWork starts s.engine.isActive (n := o.startsFirst)
      (by rw [stands.descs, stands.engine]; exact h)
    exact ⟨missed.engine, by rw [missed.ending, lane], missed.alert⟩
  · rw [idle, Tick.captureWork_of_start_undefined starts (by rw [stands.descs, undefined]), stands.engine]

/-! ### What each source offers (R128) -/

/-- What a sense source offers of what its link delivers: the received value of its quantity, a gap when it is missing. -/
def Delivered.offer (source : Source) : Delivered → Offer
  | .received v i _ => .value (if source = .senseV then v else i)
  | .missing => .gap

section
variable (o : TickOrder) (s : State) {x : Descriptor}

theorem offerOf_setpoint (source : x.source = .setpoint) :
    (tickUpToCapture o s).offerOf x = some (.value ((tick o s).handed.get x.channel).1) := by
  rw [tick_handed]
  unfold Tick.offerOf
  rw [source]

theorem offerOf_sense (source : x.source = .senseV ∨ x.source = .senseI) :
    (tickUpToCapture o s).offerOf x = (s.links.get x.channel).verdict.2.map (Delivered.offer x.source) := by
  obtain ⟨-, -, verdict, -, -⟩ := tickUpToCapture_noted o s
  unfold Tick.offerOf
  rw [verdict, tickChannels_verdict]
  obtain source | source := source
  all_goals
    rw [source]
    refine congrArg (fun f => Option.map f _) (funext fun v => ?_)
    cases v <;> rfl

variable {s} (entry : s.noEntryDue)
include entry

theorem offerOf_rms (source : x.source = .rmsV ∨ x.source = .rmsI) : (tickUpToCapture o s).offerOf x
    = (s.closes x.channel).map (fun m => .value (if x.source = .rmsV then m.rmsV else m.rmsI)) := by
  obtain ⟨-, -, -, noted, -⟩ := tickUpToCapture_noted o s
  obtain ⟨-, closed, -⟩ := tickChannels_noted o entry
  unfold Tick.offerOf
  rw [noted, closed]
  obtain source | source := source <;> rw [source] <;> rfl

/-- A DRIVING channel hands off the clamped code of its record (R22, R24). -/
theorem tick_handed_of_driving {c : Channel} (driving : (tick o s).st.trip.outputs.get c = .driving) :
    ((tick o s).handed.get c).1 = max (-32767) (min 32767 (s.compute ((tick o s).st.chans.get c))) := by
  obtain ⟨-, wave, overlays, -⟩ := tick_kept o s
  rw [tick_handsOff o entry, driving]
  have value : (tick o s).st.compute ((tick o s).st.chans.get c) = s.compute ((tick o s).st.chans.get c) :=
    State.compute_of_stand wave overlays _ _
  rw [value]
  exact clampInt_eq (by decide) _

/-- Any other channel hands off 0. -/
theorem tick_handed_of_not_driving {c : Channel} (other : (tick o s).st.trip.outputs.get c ≠ .driving) :
    ((tick o s).handed.get c).1 = 0 := by
  rw [tick_handsOff o entry]
  cases h : (tick o s).st.trip.outputs.get c with
  | driving => exact absurd h other
  | parked => rfl
  | unparking => rfl

theorem tickChannels_unasked (none : s.noCaptureStart) : (tickChannels o s).starts = [] := by
  obtain ⟨⟨t, opened, unasked, starts, -⟩, -, -⟩ := tickChannels_noted o entry
  rw [starts, opened.lanesIn_starts none, unasked]

end

/-- Settles O49: the parked 0 by `tick_parked_of_room` and `tick_parked_of_full`; the capture start of the only running
lane by what the capture engine's work does with one start; the offers by what the sample event has noted for each
source. -/
theorem captureRowsStoreAndEndPass : Obligations.CaptureRowsStoreAndEndPass := by
  refine ⟨fun o d x s idle active current defined source parked monitor deadband passing =>
    ⟨fun room => ?_, fun full => ?_⟩, fun o l step d p s entry only hx hs due capture origin => ?_,
    fun o d x s entry none active current defined => ?_⟩
  · obtain ⟨stored, others⟩ :=
      tick_stores_parked (o := o) idle active current defined source parked monitor deadband passing
    obtain ⟨row, engine⟩ :=
      tick_parked_of_room (o := o) idle active current defined source parked monitor deadband passing room
    exact ⟨_, row, tick_kept o s, stored, others, engine⟩
  · obtain ⟨stored, others⟩ :=
      tick_stores_parked (o := o) idle active current defined source parked monitor deadband passing
    obtain ⟨row, engine, comps⟩ :=
      tick_parked_of_full (o := o) idle active current defined source parked monitor deadband passing full
    obtain ⟨unasked, offer⟩ := offerOf_parked o idle source parked
    obtain ⟨-, -, -, counted⟩ := (s.phaseCleared.storeWord x 0 (some 0)).endPass_records d x .full
    refine ⟨_, row, tick_kept o s, stored, others, ?_, by rw [engine, counted]; rfl, fun e next defined' => ?_,
      fun ends => ?_⟩
    · rw [comps, State.endPass_comp, ← full]
      rfl
    · rw [engine, (s.phaseCleared.storeWord x 0 (some 0)).endPass_of_defined d .full next defined']
      exact ⟨rfl, rfl, rfl, rfl, rfl⟩
    · exact tick_ends_run unasked active current defined offer passing.ge monitor deadband full.ge ends
  · obtain ⟨lane, free, missed, undefined⟩ := tick_of_start o entry only hx hs due capture origin
    exact ⟨_, rfl, tick_kept o s, lane, free, missed, undefined⟩
  · have unasked := tickChannels_unasked o entry none
    have takes := fun {w : Offer} => tick_takes (w := w) unasked active current defined
    have stands := fun offer =>
      have k := tick_stands unasked active current defined offer
      (⟨k.engine, k.mem, k.comps⟩ : (tick o s).st.engine = s.engine ∧ (tick o s).st.mem = s.mem
        ∧ (tick o s).st.comps = s.comps)
    refine ⟨_, rfl, tick_kept o s, fun source => ⟨fun driving => takes ?_, fun other => takes ?_⟩,
      fun v i limit delivered => ⟨fun source => takes ?_, fun source => takes ?_⟩,
      fun source => ⟨fun delivered => takes ?_, fun delivered => stands ?_⟩,
      fun m closes => ⟨fun source => takes ?_, fun source => takes ?_⟩, fun source closes => stands ?_⟩
    · rw [offerOf_setpoint o s source, tick_handed_of_driving o entry driving]
    · rw [offerOf_setpoint o s source, tick_handed_of_not_driving o entry other]
    · rw [offerOf_sense o s (.inl source), delivered, source]
      rfl
    · rw [offerOf_sense o s (.inr source), delivered, source]
      rfl
    · rw [offerOf_sense o s source, delivered]
      rfl
    · rw [offerOf_sense o s source, delivered]
      rfl
    · rw [offerOf_rms o entry (.inl source), closes, source]
      rfl
    · rw [offerOf_rms o entry (.inr source), closes, source]
      rfl
    · rw [offerOf_rms o entry source, closes]
      rfl

end Sys2Proof.Machine
end

section
/-! PROOF. RESTART (R150) and the entry to TRIPPED (R144 to R147, R151): what each leaves of every block. An entry ends
the running lanes one after another, so that the LANE_ENDED alerts of a port are those of the lanes that it had started
(`State.endLanes_port`, R178); a setpoint frame that waits goes out parked (`State.framesParked`, R160). -/

namespace Sys2Proof.Machine

/-! ### RESTART (R150) -/

theorem SourceSet.isEmpty_iff (x : SourceSet) : x.isEmpty = true ↔ x = SourceSet.empty := by
  obtain ⟨tripN, ⟨f1, f2, f3⟩, ⟨l1, l2, l3⟩⟩ := x
  simp [SourceSet.isEmpty, SourceSet.empty, PerChannel.all, and_assoc]

theorem exec_restart (p : Port) (s : State) : exec (.restart p) s = .next (State.answer p 0x71 s.restart) := rfl

/-- The block after an accepted RESTART: NORMAL, no cause, every output UNPARKING, the first cause kept (R150). -/
def State.restarted (s : State) : State :=
  s.setTrip { s.trip with state := .normal, causes := CauseSet.empty, outputs := ⟨.unparking, .unparking, .unparking⟩ }

theorem State.restart_of_normal {s : State} (normal : s.trip.state = .normal) :
    s.restart = (s, Reply.refuse .notTripped) := if_pos normal

theorem State.restart_of_active {s : State} (tripped : s.trip.state = .tripped)
    (active : s.trip.active ≠ SourceSet.empty) :
    s.restart = (s, ⟨.sourceActive, byteItem (sourceBits s.trip.active)⟩) := by
  have held : s.trip.active.isEmpty = false := by
    rw [← Bool.not_eq_true, SourceSet.isEmpty_iff]
    exact active
  rw [State.restart, if_neg (by rw [tripped]; decide), held]
  rfl

theorem State.restart_of_quiet {s : State} (tripped : s.trip.state = .tripped)
    (quiet : s.trip.active = SourceSet.empty) : s.restart = (s.restarted,
      Reply.ok (firstCauseItem s.trip.first ++ numBytes 2 (causeBits s.trip.causes))) := by
  rw [State.restart, if_neg (by rw [tripped]; decide), (SourceSet.isEmpty_iff _).2 quiet]
  rfl

/-- Settles O38: the three outcomes of RESTART's checks. -/
theorem restartLeavesTripped : Obligations.RestartLeavesTripped := by
  refine fun p s => ⟨fun normal => ?_, fun tripped active => ?_, fun tripped quiet => ?_⟩
  · rw [exec_restart, State.restart_of_normal normal, State.answer_refuse]
  · rw [exec_restart, State.restart_of_active tripped active]
    rfl
  · rw [exec_restart, State.restart_of_quiet tripped quiet, State.answer_ok]
    rfl

/-! ### The LANE_ENDED alerts of an ending (R103, R178) -/

/-- The pending alerts with LANE_ENDED of lane `l` added when its port is told. -/
def Alerts.laneOver (x : Alerts) (l : LaneId) (told : Bool) : Alerts :=
  { x with kinds := { x.kinds with laneEnded := x.kinds.laneEnded || told }
           ended := x.ended.set l (x.ended.get l || told) }

theorem Alerts.laneOver_true (x : Alerts) (l : LaneId) : x.laneOver l true = addAlert x (.laneEnded l) := by
  simp [Alerts.laneOver, addAlert]

theorem Alerts.laneOver_false (x : Alerts) (l : LaneId) : x.laneOver l false = x := by
  have same : x.ended.set l (x.ended.get l || false) = x.ended := by cases l <;> simp [PerLane.set, PerLane.get]
  rw [Alerts.laneOver, same]
  simp

/-- The end of a lane tells port `q`: it runs, and the port had started it (R110). -/
def Lane.tells (x : Lane) (q : Port) : Bool := x.running && decide (x.origin = some q)

theorem Lane.tells_iff (x : Lane) (q : Port) : x.tells q = true ↔ x.state ≠ .idle ∧ x.origin = some q := by
  rw [Lane.tells, Bool.and_eq_true, Lane.running_iff, decide_eq_true_iff]

theorem State.alertOrigin_port (s : State) (o : Option Port) (a : Alert) (q : Port) : (s.alertOrigin o a).ports.get q
    = if o = some q then { s.ports.get q with alerts := addAlert (s.ports.get q).alerts a } else s.ports.get q := by
  cases o with
  | none => rfl
  | some p =>
    by_cases hp : q = p
    · rw [hp, if_pos rfl]
      exact s.alert_get_self p a
    · rw [if_neg fun e => hp (Option.some.inj e).symm]
      exact s.alert_get_ne a hp

theorem State.goIdle_port (s : State) (l : LaneId) (q : Port) : (s.goIdle l).ports.get q
    = if (s.lanes.get l).origin = some q
      then { s.ports.get q with alerts := addAlert (s.ports.get q).alerts (.laneEnded l) } else s.ports.get q :=
  State.alertOrigin_port _ _ _ q

theorem State.endLane_port (r : EndReason) (s : State) (l : LaneId) (q : Port) : (s.endLane r l).ports.get q
    = { s.ports.get q with alerts := (s.ports.get q).alerts.laneOver l ((s.lanes.get l).tells q) } := by
  by_cases running : (s.lanes.get l).running = true
  · have ports : ∀ (u : State) (x : Lane) (c : Channel), (u.revertUnreverted x c).ports = u.ports := fun u x c => by
      rw [State.revertUnreverted_frame]
    unfold State.endLane
    dsimp only
    rw [if_pos running, State.goIdle_port]
    simp only [State.lanes_revertUnreverted, ports, State.lanes_setLane, State.ports_setLane, PerLane.get_set_self]
    rw [Lane.tells, running, Bool.true_and]
    split_ifs with origin
    · rw [decide_eq_true origin, Alerts.laneOver_true]
    · rw [decide_eq_false origin, Alerts.laneOver_false]
  · rw [Bool.not_eq_true] at running
    rw [State.endLane_of_idle r s l running, Lane.tells, running, Bool.false_and, Alerts.laneOver_false]

/-- The pending alerts of port `q` after every running lane has been ended: LANE_ENDED of each one that it had started. -/
def State.endedAlerts (s : State) (q : Port) : Alerts :=
  (((s.ports.get q).alerts.laneOver .lane0 ((s.lanes.get .lane0).tells q)).laneOver
    .lane1 ((s.lanes.get .lane1).tells q)).laneOver .lane2 ((s.lanes.get .lane2).tells q)

theorem State.endLanes_port (r : EndReason) (s : State) (q : Port) :
    (s.endLanes r).ports.get q = { s.ports.get q with alerts := s.endedAlerts q } := by
  unfold State.endLanes State.endedAlerts
  rw [State.endLane_port, State.endLane_port, State.endLane_port, State.endLane_get_ne r _ (by decide),
    State.endLane_get_ne r _ (by decide), State.endLane_get_ne r _ (by decide)]

theorem LaneId.exists_iff {P : LaneId → Prop} : (∃ l : LaneId, P l) ↔ P .lane0 ∨ P .lane1 ∨ P .lane2 := by
  refine ⟨?_, ?_⟩
  · rintro ⟨l, h⟩
    cases l with
    | lane0 => exact .inl h
    | lane1 => exact .inr (.inl h)
    | lane2 => exact .inr (.inr h)
  · rintro (h | h | h) <;> exact ⟨_, h⟩

/-! ### What an entry leaves of the ports, the links and the rest (R146, R156, R160) -/

/-- Every link stands but for a setpoint frame that has not started, which goes out parked at code 0 (R160; log 4). -/
def State.framesParked (s t : State) : Prop := ∀ k : Channel,
  ((s.links.get k).waiting = false → t.links.get k = s.links.get k)
  ∧ (∀ n : Nat, (s.links.get k).waiting = true → (s.links.get k).outstanding = some n →
      t.links.get k = { s.links.get k with tx := setpointFrame n 0 true, waiting := false })

theorem Link.parkFrame_of_started {x : Link} (started : x.waiting = false) : x.parkFrame = x :=
  if_neg (by rw [started]; decide)

theorem Link.parkFrame_of_waiting {x : Link} {n : Nat} (waiting : x.waiting = true) (sent : x.outstanding = some n) :
    x.parkFrame = { x with tx := setpointFrame n 0 true, waiting := false } := by
  rw [Link.parkFrame, if_pos waiting, sent]
  rfl

theorem State.framesParked_parkFrames (s : State) : s.framesParked s.parkFrames := by
  have get : ∀ k : Channel, s.parkFrames.links.get k = (s.links.get k).parkFrame := fun k => by cases k <;> rfl
  refine fun k => ⟨fun started => ?_, fun n waiting sent => ?_⟩
  · rw [get, Link.parkFrame_of_started started]
  · rw [get, Link.parkFrame_of_waiting waiting sent]

/-- An entry parks the frames that have not started, and leaves the links otherwise. -/
theorem State.enterTripped_links (s : State) (c : Cause) (p : Option Port) :
    (s.enterTripped c p).links = s.parkFrames.links := by
  unfold State.enterTripped
  dsimp only
  rw [State.alertBoth_frame]
  unfold State.parkFrames
  rw [State.endLanes_frame]
  rfl

theorem State.enterTripped_port (s : State) (c : Cause) (p : Option Port) (q : Port) :
    (s.enterTripped c p).ports.get q = { s.ports.get q with alerts := addAlert (s.endedAlerts q) .trip } := by
  have ended : ∀ x : TripUnit, ((s.setTrip x).endLanes .tripped).parkFrames.ports.get q
      = { s.ports.get q with alerts := s.endedAlerts q } := fun x => (s.setTrip x).endLanes_port .tripped q
  unfold State.enterTripped
  dsimp only
  rw [State.alertBoth_get, ended]

theorem State.entryAlerted_enterTripped (s : State) (c : Cause) (p : Option Port) :
    s.entryAlerted (s.enterTripped c p) := by
  intro q
  rw [State.enterTripped_port]
  refine ⟨_, _, rfl, ?_, fun l => ?_⟩
  · rw [LaneId.exists_iff, ← Lane.tells_iff, ← Lane.tells_iff, ← Lane.tells_iff]
    simp [State.endedAlerts, Alerts.laneOver, or_assoc]
  · rw [← Lane.tells_iff]
    cases l <;> simp [State.endedAlerts, Alerts.laneOver, PerLane.get, PerLane.set]

/-- What an entry leaves but for the trip unit, the lanes and the channels: the alerts of the ports, the frames of the
links, and every other block as it stood. -/
structure State.EntryLeaves (s t : State) : Prop where
  ports : s.entryAlerted t
  rest : s.restKept t
  links : s.framesParked t

theorem State.entryLeaves_enterTripped (s : State) (c : Cause) (p : Option Port) :
    s.EntryLeaves (s.enterTripped c p) := by
  refine ⟨s.entryAlerted_enterTripped c p, ?_, fun k => ?_⟩
  · rw [State.enterTripped_frame]
    exact ⟨rfl, rfl, rfl, rfl, rfl, rfl, rfl, rfl, rfl, rfl, rfl, rfl, rfl, rfl, rfl⟩
  · rw [State.enterTripped_links]
    exact s.framesParked_parkFrames k

/-! ### TRIP and the TRIP_N events (R144, R147, R151) -/

theorem State.takeCause_of_normal {s : State} (normal : s.trip.state = .normal) (c : Cause) (p : Option Port) :
    s.takeCause c p = s.enterTripped c p := if_pos normal

theorem State.takeCause_of_tripped {s : State} (tripped : s.trip.state = .tripped) (c : Cause) (p : Option Port) :
    s.takeCause c p = s.addCause c := if_neg (by rw [tripped]; decide)

/-- The block with source `c` among the active sources. -/
def State.withSource (s : State) (c : Cause) : State :=
  s.setTrip { s.trip with active := s.trip.active.put c true }

/-- A source seen active that the trip unit does not hold joins its active sources and is taken as a cause (R144). -/
theorem State.takeSource_of_new {s : State} {c : Cause} (new : s.trip.active.has c = false) :
    s.takeSource c true = (s.withSource c).takeCause c none := by
  rw [State.takeSource, if_pos rfl, new]
  rfl

/-- A source seen active that the trip unit holds is no event (log 13). -/
theorem State.takeSource_of_held {s : State} {c : Cause} (held : s.trip.active.has c = true) :
    s.takeSource c true = s := by
  rw [State.takeSource, if_pos rfl, if_pos held]

/-- Settles O36: from NORMAL by what an entry leaves of each block; while TRIPPED the cause joins the set alone. -/
theorem tripEntryAndRecord : Obligations.TripEntryAndRecord := by
  refine fun p s => ⟨fun normal => ⟨?_, fun new => ?_⟩, fun tripped => ⟨?_, fun new => ?_⟩, fun held => ?_, rfl⟩
  · have entry := s.entryLeaves_enterTripped .portTrip (some p)
    refine ⟨s.enterTripped .portTrip (some p), ?_, s.enterTripped_trip _ _, entry.ports, entry.rest, entry.links⟩
    rw [exec_trip, State.takeCause_of_normal normal, State.answer_ok, normal]
    rfl
  · have entry := (s.withSource .tripN).entryLeaves_enterTripped .tripN none
    refine ⟨(s.withSource .tripN).enterTripped .tripN none, ?_, State.enterTripped_trip _ _ _, entry.ports, entry.rest,
      entry.links⟩
    rw [exec_tripNAsserted, State.takeSource_of_new (c := .tripN) new,
      State.takeCause_of_normal (s := s.withSource .tripN) normal]
  · rw [exec_trip, State.takeCause_of_tripped tripped, State.answer_ok, tripped]
    rfl
  · rw [exec_tripNAsserted, State.takeSource_of_new (c := .tripN) new,
      State.takeCause_of_tripped (s := s.withSource .tripN) tripped]
    rfl
  · rw [exec_tripNAsserted, State.takeSource_of_held (c := .tripN) held]

end Sys2Proof.Machine
end

section
/-! PROOF. The soundness of the trip unit at a sample event (R145 to R150). Its two halves by the trip state
(`State.ModesSound`) are kept by every source taken and by the work of every group of channels; the third part, that
the trip unit holds just the sources that the links report (`State.Reported`), is made by `State.takeLinks` after the
verdicts and then stands. -/

namespace Sys2Proof.Machine

/-! ### The parts of the soundness -/

/-- In NORMAL no source is active, no cause stands and no output is PARKED; while TRIPPED every output is PARKED and no
lane runs (R103, R146, R148, R150). -/
structure State.ModesSound (s : State) : Prop where
  normal : s.trip.state = .normal → s.trip.active = SourceSet.empty ∧ s.trip.causes = CauseSet.empty
    ∧ ∀ c : Channel, s.trip.outputs.get c ≠ .parked
  tripped : s.trip.state = .tripped → (∀ c : Channel, s.trip.outputs.get c = .parked) ∧ s.lanesIdle

/-- The trip unit holds the sources of link `k` as the link reports them (R145). -/
def State.Reported (s : State) (k : Channel) : Prop :=
  s.trip.active.loss.get k = s.reports (.linkLoss k) ∧ s.trip.active.fault.get k = s.reports (.linkFault k)

theorem State.tripSound_iff (s : State) : s.tripSound ↔ s.ModesSound ∧ ∀ k : Channel, s.Reported k :=
  ⟨fun ⟨normal, tripped, reported⟩ => ⟨⟨normal, tripped⟩, reported⟩,
    fun ⟨⟨normal, tripped⟩, reported⟩ => ⟨normal, tripped, reported⟩⟩

/-- The trip unit and what the links report stand, and no lane leaves IDLE while TRIPPED. -/
structure State.TripStands (s t : State) : Prop where
  trip : t.trip = s.trip
  reports : t.reports = s.reports
  idle : s.trip.state = .tripped → ∀ l : LaneId, (s.lanes.get l).state = .idle → (t.lanes.get l).state = .idle

theorem State.TripStands.modesSound {s t : State} (h : s.TripStands t) (sound : s.ModesSound) : t.ModesSound := by
  refine ⟨fun normal => ?_, fun tripped => ?_⟩
  · rw [h.trip] at normal ⊢
    exact sound.normal normal
  · rw [h.trip] at tripped ⊢
    obtain ⟨parked, idle⟩ := sound.tripped tripped
    exact ⟨parked, fun l => h.idle tripped l (idle l)⟩

theorem State.TripStands.reported {s t : State} (h : s.TripStands t) {k : Channel} (reported : s.Reported k) :
    t.Reported k := by
  rw [State.Reported, h.trip, h.reports]
  exact reported

theorem State.TripStands.sound {s t : State} (h : s.TripStands t) (sound : s.tripSound) : t.tripSound := by
  rw [State.tripSound_iff] at sound ⊢
  exact ⟨h.modesSound sound.1, fun k => h.reported (sound.2 k)⟩

theorem State.reports_of_eq {s t : State} (links : t.links = s.links) : t.reports = s.reports :=
  State.reports_of_links fun k => by rw [links]; exact ⟨rfl, rfl⟩

theorem State.TripStands.of_eq {s t : State} (trip : t.trip = s.trip) (links : t.links = s.links)
    (lanes : t.lanes = s.lanes) : s.TripStands t :=
  ⟨trip, State.reports_of_eq links, fun _ l idle => by rw [lanes]; exact idle⟩

theorem State.TripStands.refl (s : State) : s.TripStands s := .of_eq rfl rfl rfl

/-! ### Lanes that stay IDLE -/

theorem State.Announces.idle {s t : State} (h : s.Announces t) {l : LaneId} (idle : (s.lanes.get l).state = .idle) :
    (t.lanes.get l).state = .idle := by
  by_contra runs
  exact (Lane.running_iff _).1 ((h.moves l).ran ((Lane.running_iff _).2 runs)).1 idle

theorem State.Quiet.idle {s t : State} (h : s.Quiet t) {l : LaneId} (idle : (s.lanes.get l).state = .idle) :
    (t.lanes.get l).state = .idle := by
  by_contra runs
  exact (Lane.running_iff _).1 ((h.lanes l).1 ((Lane.running_iff _).2 runs)).1 idle

/-! ### A cause and a source taken (R144 to R147) -/

theorem SourceSet.put_false_empty (c : Cause) : SourceSet.empty.put c false = SourceSet.empty := by
  cases c with
  | linkFault k => cases k <;> rfl
  | linkLoss k => cases k <;> rfl
  | _ => rfl

/-- A cause taken leaves the halves sound: in NORMAL it makes an entry, while TRIPPED it joins the causes. -/
theorem State.modesSound_takeCause {s : State} (c : Cause) (p : Option Port) (tripped : s.trip.state = .tripped →
      (∀ c : Channel, s.trip.outputs.get c = .parked) ∧ s.lanesIdle) : (s.takeCause c p).ModesSound := by
  have entered := s.takeCause_tripped c p
  refine ⟨fun normal => absurd (normal.symm.trans entered) (by decide), fun _ => ?_⟩
  cases state : s.trip.state with
  | normal =>
    rw [State.takeCause_of_normal state, State.enterTripped_trip]
    exact ⟨fun c => PerChannel.get_all c _, s.enterTripped_idle c p⟩
  | tripped =>
    rw [State.takeCause_of_tripped state]
    exact tripped state

theorem State.ModesSound.takeSource {s : State} (h : s.ModesSound) (c : Cause) (on : Bool) :
    (s.takeSource c on).ModesSound := by
  cases on with
  | false =>
    refine ⟨fun normal => ?_, h.tripped⟩
    obtain ⟨active, causes, outputs⟩ := h.normal normal
    refine ⟨?_, causes, outputs⟩
    rw [State.takeSource_active, active]
    exact SourceSet.put_false_empty c
  | true =>
    cases has : s.trip.active.has c with
    | true =>
      rw [State.takeSource_of_held has]
      exact h
    | false =>
      rw [State.takeSource_of_new has]
      exact State.modesSound_takeCause (s := s.withSource c) c none h.tripped

theorem State.ModesSound.takeLinks {s : State} (h : s.ModesSound) (o : LinkOrder) : (s.takeLinks o).ModesSound := by
  have one : ∀ (t : State) (k : Channel), t.ModesSound → (t.takeLink k).ModesSound := fun t k ht =>
    (ht.takeSource _ _).takeSource _ _
  exact one _ _ (one _ _ (one _ _ h))

theorem State.reports_takeCause (s : State) (c : Cause) (p : Option Port) : (s.takeCause c p).reports = s.reports := by
  unfold State.takeCause
  split
  · exact s.reports_enterTripped c p
  · rfl

theorem State.reports_takeSource (s : State) (c : Cause) (on : Bool) : (s.takeSource c on).reports = s.reports := by
  unfold State.takeSource
  split_ifs
  · rfl
  · exact State.reports_takeCause _ c none
  · rfl

/-- A link's sources taken are held as the link reports them, and so are those of a link taken before. -/
theorem State.reported_takeLink {s : State} {j k : Channel} (h : j = k ∨ s.Reported j) : (s.takeLink k).Reported j := by
  have reports : (s.takeLink k).reports = s.reports :=
    (State.reports_takeSource _ _ _).trans (s.reports_takeSource _ _)
  rw [State.Reported, reports, (s.takeLink_active k j).1, (s.takeLink_active k j).2]
  split_ifs with hj
  · rw [hj]
    exact ⟨rfl, rfl⟩
  · exact h.resolve_left hj

/-- Once the links' sources have been taken the trip unit holds just those that the links report. -/
theorem State.reported_takeLinks (s : State) (o : LinkOrder) (k : Channel) : (s.takeLinks o).Reported k := by
  have turn : k = (linksInOrder o).2.2 ∨ k = (linksInOrder o).2.1 ∨ k = (linksInOrder o).1 := by
    cases o <;> cases k <;> decide
  refine State.reported_takeLink (turn.imp_right fun turn => ?_)
  exact State.reported_takeLink (turn.imp_right fun turn => State.reported_takeLink (.inl turn))

/-! ### The work of a group -/

/-- Work that leaves the causes and parks no output. -/
structure Tick.NoneParked (t u : Tick) : Prop where
  causes : u.st.trip.causes = t.st.trip.causes
  outputs (c : Channel) : u.st.trip.outputs.get c = .parked → t.st.trip.outputs.get c = .parked

theorem Tick.NoneParked.opening {t u : Tick} (h : t.NoneParked u) (c : Channel) : t.NoneParked (u.opening c) := by
  have spec := u.opening_spec c
  refine ⟨by rw [spec.trip]; exact h.causes, fun d parked => h.outputs d ?_⟩
  rw [spec.trip] at parked
  dsimp only at parked
  split_ifs at parked
  · rw [PerChannel.get_set] at parked
    split_ifs at parked
    exact parked
  · exact parked

theorem Tick.work_noneParked (t : Tick) (g : ChannelSet) : t.NoneParked (t.work g) := by
  have opened : t.NoneParked (t.openings g) :=
    Tick.forChannels_keeps (P := t.NoneParked) (fun _ c _ h => h.opening c) ⟨rfl, fun _ => id⟩
  have lanes := (t.openings g).lanesIn_kept g
  have worked : t.NoneParked ((t.openings g).lanesIn g) :=
    ⟨by rw [lanes.trip]; exact opened.causes, fun c => by rw [lanes.trip]; exact opened.outputs c⟩
  refine Tick.forChannels_keeps (P := t.NoneParked) (fun u c _ h => ?_) worked
  have spec := u.ending_spec c
  exact ⟨by rw [spec.trip]; exact h.causes, fun d => by rw [spec.trip]; exact h.outputs d⟩

/-- In NORMAL a group's work parks no output; while TRIPPED it finds every lane IDLE and every output PARKED. -/
theorem Tick.work_modesSound {t : Tick} (h : t.st.ModesSound) (g : ChannelSet) : (t.work g).st.ModesSound := by
  have kept := t.work_sourcesKept g
  have unparked := t.work_noneParked g
  refine ⟨fun normal => ?_, fun tripped => ?_⟩
  · rw [kept.state] at normal
    obtain ⟨active, causes, outputs⟩ := h.normal normal
    exact ⟨kept.active.trans active, unparked.causes.trans causes, fun c e => outputs c (unparked.outputs c e)⟩
  · rw [kept.state] at tripped
    obtain ⟨parked, idle⟩ := h.tripped tripped
    have all : t.st.trip.outputs = PerChannel.all .parked :=
      PerChannel.ext_get fun c => (parked c).trans (PerChannel.get_all c _).symm
    have stands := Tick.work_parked idle all g
    exact ⟨fun c => by rw [stands.trip]; exact parked c, fun l => by rw [stands.lanes]; exact idle l⟩

theorem Tick.work_reported {t : Tick} (g : ChannelSet) {k : Channel} (h : t.st.Reported k) :
    (t.work g).st.Reported k := by
  have kept := t.work_sourcesKept g
  rw [State.Reported, kept.active, State.reports_of_eq kept.links]
  exact h

/-! ### A sample event -/

theorem tickEntered_modesSound (o : TickOrder) {s : State} (h : s.ModesSound) : (tickEntered o s).st.ModesSound := by
  obtain ⟨lanes, -, trip⟩ := Tick.verdicts_stands s
  have judged : (Tick.verdicts s).st.ModesSound :=
    ⟨fun normal => by rw [trip] at normal ⊢; exact h.normal normal, fun tripped => by
      rw [trip] at tripped ⊢
      obtain ⟨parked, idle⟩ := h.tripped tripped
      exact ⟨parked, fun l => by rw [lanes]; exact idle l⟩⟩
  have before : (tickBefore o s).st.ModesSound := Tick.work_modesSound judged _
  exact before.takeLinks o.sources

/-- A setpoint frame leaves what its link reports (R160). -/
theorem Tick.frames_reports (t : Tick) (o : TickOrder) (started : Channel → Bool) :
    (t.frames o started).st.reports = t.st.reports :=
  State.reports_of_links fun k => by cases k <;> exact ⟨rfl, rfl⟩

/-- What follows the channels' work leaves the trip unit and what the links report; a lane may be told of a missed
capture start. -/
theorem tick_tail_tripStands (o : TickOrder) (s : State) : (tickChannels o s).st.TripStands (tick o s).st := by
  refine ⟨(tick_tail o s).trip, ?_, fun _ l idle => (tick_tail_announces o s).idle idle⟩
  have tail : (tick o s).st.reports = (tickFrames o s).st.reports :=
    State.reports_of_eq (Tick.captureWork_endPulse_stands _ _ _ _ _).2
  exact tail.trans (Tick.frames_reports _ _ _)

/-- A sample event keeps the trip unit sound; what the links reported before it does not matter, since their sources are
taken anew. -/
theorem tick_tripSound (o : TickOrder) {s : State} (h : s.ModesSound) : (tick o s).st.tripSound := by
  refine (tick_tail_tripStands o s).sound ((State.tripSound_iff _).2 ⟨?_, fun k => ?_⟩)
  · rw [tickChannels_eq]
    exact Tick.work_modesSound (tickEntered_modesSound o h) _
  · rw [tickChannels_eq]
    exact Tick.work_reported _ (State.reported_takeLinks _ o.sources k)

/-- A sample event does not leave TRIPPED (R150). -/
theorem tick_tripped (o : TickOrder) {s : State} (tripped : s.trip.state = .tripped) :
    (tick o s).st.trip.state = .tripped := by
  have before : (tickBefore o s).st.trip.state = .tripped := by
    rw [tickBefore, (Tick.work_sourcesKept _ _).state, (Tick.verdicts_stands s).2.2, tripped]
  have taken := (State.Settled.takeLinks (.inl before) o.sources).state
  rw [(tick_tail o s).trip, tickChannels_eq, (Tick.work_sourcesKept _ _).state]
  exact taken.trans before

end Sys2Proof.Machine
end

section
/-! PROOF. What a command can do to the trip unit, said once (`State.TripEffect`, `exec_tripEffect`): keep its
soundness, staying TRIPPED with the IDLE lanes IDLE, or leave TRIPPED by an accepted RESTART, sent as its row or as a frame of code
71h. From it the trip unit stays sound, and RESTART alone leaves TRIPPED (R146, R148, R150). -/

namespace Sys2Proof.Machine

/-! ### The effects -/

/-- A sound trip unit stays sound, and TRIPPED stays TRIPPED with no lane leaving IDLE. -/
structure State.TripKept (s t : State) : Prop where
  sound : s.tripSound → t.tripSound
  tripped : s.trip.state = .tripped → t.trip.state = .tripped
  idle : s.trip.state = .tripped → ∀ l : LaneId, (s.lanes.get l).state = .idle → (t.lanes.get l).state = .idle

theorem State.TripStands.kept {s t : State} (h : s.TripStands t) : s.TripKept t :=
  ⟨h.sound, fun tripped => by rw [h.trip, tripped], h.idle⟩

theorem State.TripKept.trans {s t u : State} (h : s.TripKept t) (k : t.TripKept u) : s.TripKept u :=
  ⟨fun sound => k.sound (h.sound sound), fun tripped => k.tripped (h.tripped tripped),
    fun tripped l idle => k.idle (h.tripped tripped) l (h.idle tripped l idle)⟩

/-- The trip unit left TRIPPED with no source active, as an accepted RESTART leaves it; links and lanes stand. -/
structure State.Restarts (s t : State) : Prop where
  tripped : s.trip.state = .tripped
  quiet : s.trip.active = SourceSet.empty
  trip : t.trip = s.restarted.trip
  links : t.links = s.links
  lanes : t.lanes = s.lanes

/-- In NORMAL after a RESTART no source is active, no cause stands, and every output is UNPARKING (R148, R150). -/
theorem State.Restarts.sound {s t : State} (h : s.Restarts t) (sound : s.tripSound) : t.tripSound := by
  rw [State.tripSound_iff] at sound ⊢
  refine ⟨⟨fun _ => ?_, fun tripped => by rw [h.trip] at tripped; cases tripped⟩, fun k => ?_⟩
  · rw [h.trip]
    refine ⟨h.quiet, rfl, fun c parked => ?_⟩
    cases c <;> cases parked
  · rw [State.Reported, State.reports_of_eq h.links, h.trip]
    exact sound.2 k

/-- What a command can do to the trip unit; `restarts` says that it carries a RESTART. -/
inductive State.TripEffect (s : State) (restarts : Prop) : State → Prop
  | kept {t : State} : s.TripKept t → State.TripEffect s restarts t
  /-- RESTART, accepted (R150). -/
  | restarted {t : State} : restarts → s.Restarts t → State.TripEffect s restarts t

theorem State.TripEffect.sound {s t : State} {restarts : Prop} (e : s.TripEffect restarts t) (h : s.tripSound) :
    t.tripSound := by
  cases e with
  | kept kept => exact kept.sound h
  | restarted _ left => exact left.sound h

/-! ### Entries and records (R103, R104, R144 to R147, R152) -/

theorem State.tripKept_takeCause (s : State) (c : Cause) (p : Option Port) : s.TripKept (s.takeCause c p) := by
  refine ⟨fun sound => ?_, fun _ => s.takeCause_tripped c p, fun _ _ => (s.announces_takeCause c p).idle⟩
  rw [State.tripSound_iff] at sound ⊢
  refine ⟨State.modesSound_takeCause c p sound.1.tripped, fun k => ?_⟩
  have active : (s.takeCause c p).trip.active = s.trip.active := by
    unfold State.takeCause
    split
    · rw [State.enterTripped_trip]
    · rfl
  rw [State.Reported, active, State.reports_takeCause]
  exact sound.2 k

/-- TRIP_N seen changes no link source (R144). -/
theorem State.tripKept_takeTripN (s : State) (on : Bool) : s.TripKept (s.takeSource .tripN on) := by
  refine ⟨fun sound => ?_, fun tripped => (s.takeSource_moved _ on (.inl tripped)).state.trans tripped,
    fun _ _ => (s.announces_takeSource _ _).idle⟩
  rw [State.tripSound_iff] at sound ⊢
  refine ⟨sound.1.takeSource _ _, fun k => ?_⟩
  rw [State.Reported, State.reports_takeSource, State.takeSource_active]
  split <;> exact sound.2 k

theorem State.tripStands_endLanes (s : State) (r : EndReason) : s.TripStands (s.endLanes r) := by
  refine ⟨?_, State.reports_of_eq ?_, fun _ _ => (State.announces_endLanes r s).idle⟩ <;> rw [State.endLanes_frame]

theorem State.tripStands_stopRun (s : State) (d : Nat) : s.TripStands (s.stopRun d) := by
  rw [State.stopRun_eq]
  exact .of_eq rfl rfl rfl

theorem State.tripStands_stopAny (s : State) : s.TripStands s.stopAny := by
  unfold State.stopAny
  split
  · exact s.tripStands_stopRun _
  · exact .refl s

/-- MASTER_CLEAR ends the lanes, takes its cause, and leaves the trip unit by the rest of its work (R183). -/
theorem tripKept_masterClear (s : State) (p : Port) : s.TripKept (s.masterClear p).1 := by
  have entry := (s.tripStands_endLanes .cleared).kept.trans (State.tripKept_takeCause _ .masterClear (some p))
  have cleared : ∀ u : State, u.TripStands u.emptyLoading.clearLines := fun u => .of_eq rfl rfl rfl
  exact (entry.trans (State.tripStands_stopAny _).kept).trans (cleared _).kept

/-! ### Commands that leave the trip unit -/

/-- A command of Chapters 2 to 5 that writes no lane. -/
theorem State.MonitorsStand.tripStands {s t : State} (h : s.MonitorsStand t) (lanes : t.lanes = s.lanes) :
    s.TripStands t := .of_eq h.trip h.links lanes

/-- A lane command that takes no IDLE lane. -/
theorem State.MonitorsStand.tripStands_of_quiet {s t : State} (h : s.MonitorsStand t) (quiet : s.Quiet t) :
    s.TripStands t :=
  ⟨h.trip, State.reports_of_eq h.links, fun _ _ => quiet.idle⟩

/-- START takes an IDLE lane in NORMAL alone (R82). -/
theorem tripStands_start (s : State) (p : Port) (n m : Nat) : s.TripStands (s.start p n m).1 := by
  have stand := monitors_start s p n m
  refine ⟨stand.trip, State.reports_of_eq stand.links, fun tripped l idle => ?_⟩
  rw [State.start_of_tripped p n m tripped]
  exact idle

theorem tripStands_defineDescriptor (s : State) (d : Nat) (r : RawDescriptor) :
    s.TripStands (s.defineDescriptor d r).1 := by
  unfold State.defineDescriptor
  split
  · exact .refl s
  · split_ifs <;> exact .of_eq rfl rfl rfl

theorem tripStands_undefineDescriptor (s : State) (d : Nat) : s.TripStands (s.undefineDescriptor d).1 := by
  unfold State.undefineDescriptor
  split_ifs <;> exact .of_eq rfl rfl rfl

theorem tripStands_startCapture (s : State) (p : Port) (d : Nat) : s.TripStands (s.startCapture p d).1 := by
  unfold State.startCapture
  split_ifs <;> exact .of_eq rfl rfl rfl

theorem tripStands_stopCapture (s : State) : s.TripStands s.stopCapture.1 := by
  unfold State.stopCapture
  split
  · exact s.tripStands_stopRun _
  · exact .refl s

/-- A link's record set with the health and the FAULT indication that it had. -/
theorem State.tripStands_setLink (s : State) (k : Channel) {x : Link} (health : x.health = (s.links.get k).health)
    (fault : x.fault = (s.links.get k).fault) : s.TripStands (s.setLink k x) := by
  refine ⟨rfl, State.reports_of_links fun j => ?_, fun _ _ => id⟩
  rw [State.links_setLink, PerChannel.get_set]
  split_ifs with hj
  · rw [hj]
    exact ⟨health, fault⟩
  · exact ⟨rfl, rfl⟩

theorem tripStands_getLink (s : State) (link clear : Nat) : s.TripStands (s.getLink link clear).1 := by
  unfold State.getLink
  split
  · dsimp only
    split
    · exact s.tripStands_setLink _ rfl rfl
    · exact .refl s
  · exact .refl s

theorem Link.takeStatus_reports (x : Link) (q : Status) :
    (x.takeStatus q).health = x.health ∧ (x.takeStatus q).fault = x.fault := by
  unfold Link.takeStatus
  split
  · exact ⟨rfl, rfl⟩
  · split_ifs <;> exact ⟨rfl, rfl⟩

/-- A status frame waits for the verdict of its window: health and FAULT stand until then (R161, R162). -/
theorem Link.judge_reports (x : Link) (chars : List Byte) (stops : Bool) :
    (x.judge chars stops).health = x.health ∧ (x.judge chars stops).fault = x.fault := by
  unfold Link.judge
  split
  · split_ifs
    · exact ⟨rfl, rfl⟩
    · exact ⟨rfl, rfl⟩
    · exact x.takeStatus_reports _
  · exact ⟨rfl, rfl⟩

/-! ### Every command -/

section
variable {s : State} {restarts : Prop}

theorem State.TripEffect.stands {t : State} (h : s.TripStands t) : s.TripEffect restarts t := .kept h.kept

theorem State.TripEffect.refl : s.TripEffect restarts s := .stands (.refl s)

/-- A response leaves what its command has left. -/
theorem State.TripEffect.answer {v : State × Reply} (p : Port) (code : Nat) (h : s.TripKept v.1) :
    s.TripEffect restarts (State.answer p code v) :=
  have answered : v.1.TripStands (State.answer p code v) := .of_eq rfl rfl rfl
  .kept (h.trans answered.kept)

theorem State.TripEffect.monitors {v : State × Reply} (p : Port) (code : Nat) (h : s.MonitorsStand v.1)
    (lanes : v.1.lanes = s.lanes) : s.TripEffect restarts (State.answer p code v) :=
  .answer p code (h.tripStands lanes).kept

/-- A command that only reads leaves its response. -/
theorem State.TripEffect.reads (p : Port) (code : Nat) (r : Reply) :
    s.TripEffect restarts (State.answer p code (s, r)) := .answer p code (State.TripStands.refl s).kept

theorem State.TripEffect.mono {t : State} {restarts' : Prop} (e : s.TripEffect restarts t)
    (imp : restarts → restarts') : s.TripEffect restarts' t := by
  cases e with
  | kept kept => exact .kept kept
  | restarted r left => exact .restarted (imp r) left

end

theorem tripKept_tick (o : TickOrder) (s : State) : s.TripKept (tick o s).st :=
  ⟨fun sound => tick_tripSound o ((State.tripSound_iff s).1 sound).1, tick_tripped o,
    fun _ _ => (tick_announces o s).idle⟩

theorem tripKept_tickWhen (e : TickEvent) (o : TickOrder) (s : State) : s.TripKept (tickWhen e o s) := by
  unfold tickWhen
  split
  · exact tripKept_tick o s
  · exact (State.TripStands.refl s).kept

/-- RESET_N leaves the trip unit TRIPPED and every lane IDLE (R143, R184). -/
theorem tripKept_reset (low : Bool) (s : State) : s.TripKept { State.resetWith low with pending := s.pending } :=
  ⟨fun _ => State.reset_tripSound low, fun _ => rfl, fun _ l _ => ((State.reset_tripSound low).2.1 rfl).2 l⟩

theorem restart_tripEffect (p : Port) (s : State) : s.TripEffect True (State.answer p 0x71 s.restart) := by
  cases state : s.trip.state with
  | normal =>
    rw [State.restart_of_normal state]
    exact .reads p _ _
  | tripped =>
    by_cases quiet : s.trip.active = SourceSet.empty
    · rw [State.restart_of_quiet state quiet]
      exact .restarted trivial ⟨state, quiet, rfl, rfl, rfl⟩
    · rw [State.restart_of_active state quiet]
      exact .reads p _ _

/-- Every command but the deselect itself has an effect of the list, and RESTART alone restarts. -/
theorem exec_tripEffect_of_ne {i : Instr} (deselect : ∀ p : Port, i ≠ .frameError p) (s : State) :
    ∃ t : State, exec i s = .next t ∧ s.TripEffect (∃ p : Port, i = .restart p) t := by
  cases i with
  | frameError p => exact absurd rfl (deselect p)
  | restart p => exact ⟨_, rfl, (restart_tripEffect p s).mono fun _ => ⟨p, rfl⟩⟩
  | resetNAssertion low => exact ⟨_, rfl, .kept (tripKept_reset low s)⟩
  | sampleEvent o => exact ⟨_, rfl, .kept (tripKept_tick o s)⟩
  | levelRampEnd _ o | frequencyRampEnd _ o | linkLost _ o | linkRecovered _ o | truncated _ o | markerPulseEnd _ o
  | dwellEnd _ o | waitMet _ o | waitTimeout _ o | decimationPass o | capturePassFull o =>
    exact ⟨_, rfl, .kept (tripKept_tickWhen _ o s)⟩
  | statusFrame k chars stops =>
    obtain ⟨health, fault⟩ := (s.links.get k).judge_reports chars stops
    exact ⟨_, rfl, .stands (s.tripStands_setLink k health fault)⟩
  | tripNAsserted => exact ⟨_, rfl, .kept (s.tripKept_takeTripN true)⟩
  | tripNReleased => exact ⟨_, rfl, .kept (s.tripKept_takeTripN false)⟩
  | spiSelect p => exact ⟨_, rfl, .stands (.of_eq rfl rfl rfl)⟩
  | spiByteCompleted p b =>
    simp only [exec, execSpiByteCompleted]
    split
    · exact ⟨_, rfl, .stands (.of_eq rfl rfl rfl)⟩
    · exact ⟨_, rfl, .refl⟩
  | nop p | identify p | readTableChunk p _ _ | getTableState p _ | readOverlaySet p _ | readStep p _ | readProgram p _
  | getLane p _ | getMeasurement p _ | readDescriptor p _ | readCapture p _ _ | getCapture p | getTrip p =>
    exact ⟨_, rfl, .reads p _ _⟩
  | getAlerts p => exact ⟨_, rfl, .monitors p _ (.of_frame rfl) rfl⟩
  | setAlertMask p mask => exact ⟨_, rfl, .monitors p _ (monitors_setAlertMask s p mask) (lanes_setAlertMask s p mask)⟩
  | setChannel p ch r => exact ⟨_, rfl, .monitors p _ (monitors_setChannel s ch r) (lanes_setChannel s ch r)⟩
  | getChannel p ch clear =>
    exact ⟨_, rfl, .monitors p _ (monitors_getChannel s ch clear) (lanes_getChannel s ch clear)⟩
  | linkChannelFollow p ch _ | linkChannelUnlink p ch =>
    exact ⟨_, rfl, .monitors p _ (monitors_relink s ch _) (lanes_relink s ch _)⟩
  | beginTable p n => exact ⟨_, rfl, .monitors p _ (monitors_beginTable s p n) (lanes_beginTable s p n)⟩
  | writeTableChunk p n c e =>
    exact ⟨_, rfl, .monitors p _ (monitors_writeTableChunk s p n c e) (lanes_writeTableChunk s p n c e)⟩
  | commitTable p n => exact ⟨_, rfl, .monitors p _ (monitors_commitTable s p n) (lanes_commitTable s p n)⟩
  | discardTable p n => exact ⟨_, rfl, .monitors p _ (monitors_discardTable s n) (lanes_discardTable s n)⟩
  | writeOverlaySet p n count slots =>
    exact ⟨_, rfl, .monitors p _ (monitors_writeOverlaySet s n count slots) (lanes_writeOverlaySet s n count slots)⟩
  | writeStep p n r => exact ⟨_, rfl, .monitors p _ (monitors_writeStep s n r) (lanes_writeStep s n r)⟩
  | clearStep p n => exact ⟨_, rfl, .monitors p _ (monitors_clearStep s n) (lanes_clearStep s n)⟩
  | writeProgramDefine p n first count policy =>
    exact ⟨_, rfl, .monitors p _ (monitors_defineProgram s n first count policy)
      (lanes_defineProgram s n first count policy)⟩
  | writeProgramUndefine p n => exact ⟨_, rfl, .monitors p _ (monitors_undefineProgram s n) (lanes_undefineProgram s n)⟩
  | start p program channels => exact ⟨_, rfl, .answer p _ (tripStands_start s p program channels).kept⟩
  | hold p lane =>
    have stands := (monitors_holdCommand s lane).tripStands_of_quiet (quiet_holdCommand s lane)
    exact ⟨_, rfl, .answer p _ stands.kept⟩
  | resume p lane =>
    have stands := (monitors_resumeCommand s lane).tripStands_of_quiet (quiet_resumeCommand s lane)
    exact ⟨_, rfl, .answer p _ stands.kept⟩
  | release p lane =>
    have stands := (monitors_releaseCommand s lane).tripStands_of_quiet (quiet_releaseCommand s lane)
    exact ⟨_, rfl, .answer p _ stands.kept⟩
  | abort p lane =>
    have stands := (monitors_abortCommand s p lane).tripStands_of_quiet (quiet_abortCommand s p lane)
    exact ⟨_, rfl, .answer p _ stands.kept⟩
  | setHoldKey p key | clearHoldKey p key =>
    exact ⟨_, rfl, .monitors p _ (monitors_changeKey s key _) (lanes_changeKey s key _)⟩
  | writeDescriptorDefine p d r => exact ⟨_, rfl, .answer p _ (tripStands_defineDescriptor s d r).kept⟩
  | writeDescriptorUndefine p d => exact ⟨_, rfl, .answer p _ (tripStands_undefineDescriptor s d).kept⟩
  | startCapture p d => exact ⟨_, rfl, .answer p _ (tripStands_startCapture s p d).kept⟩
  | stopCapture p => exact ⟨_, rfl, .answer p _ (tripStands_stopCapture s).kept⟩
  | masterClear p => exact ⟨_, rfl, .answer p _ (tripKept_masterClear s p)⟩
  | trip p => exact ⟨_, rfl, .answer p _ (s.tripKept_takeCause .portTrip (some p))⟩
  | getLink p link clear => exact ⟨_, rfl, .answer p _ (tripStands_getLink s link clear).kept⟩

/-- A frame's command that is taken has the effect of its row; a deselect is no frame's command (R174). -/
theorem takeCommand_tripEffect (i : Instr) (s : State) :
    ∃ t : State, takeCommand i s = .next t ∧ s.TripEffect (∃ p : Port, i = .restart p) t := by
  by_cases deselect : ∃ p : Port, i = .frameError p
  · obtain ⟨p, rfl⟩ := deselect
    exact ⟨s, rfl, .refl⟩
  · obtain h | h := takeCommand_cases i s
    · rw [h]
      exact exec_tripEffect_of_ne (not_exists.1 deselect) s
    · exact ⟨s, h, .refl⟩

/-- A frame spells RESTART by its code alone (R176). -/
theorem code_of_commandOf_restart {p q : Port} {code : Nat} {b : List Byte}
    (h : commandOf p code b = some (.restart q)) : code = 0x71 := by
  unfold commandOf at h
  split at h
  case h_38 =>
    cases h
    rfl
  all_goals
    try split at h
    all_goals cases h

/-- The code of a frame that passes is its first byte (R171). -/
theorem code_of_judgeFrame {frame : List Byte} {count code : Nat} {body : List Byte}
    (h : judgeFrame frame count = .ok (code, body)) : code = (frame.getD 0 0#8).toNat := by
  unfold judgeFrame at h
  split_ifs at h
  split at h
  · cases h
  · split_ifs at h
    cases h
    rfl

/-- A first byte read as 71h is the first byte received. -/
theorem head_of_restartCode {frame : List Byte} (h : (frame.getD 0 0#8).toNat = 0x71) : frame.head? = some 0x71#8 := by
  cases frame with
  | nil => cases h
  | cons b rest => exact congrArg some (BitVec.eq_of_toNat_eq h)

/-- Command `i` carries a RESTART: it is one, or the deselect of a frame of code 71h. -/
def State.RestartSent (s : State) (i : Instr) : Prop :=
  ∃ p : Port, i = .restart p ∨ (i = .frameError p ∧ (s.ports.get p).frame.head? = some 0x71#8)

theorem frameError_tripEffect (p : Port) (s : State) :
    ∃ t : State, exec (.frameError p) s = .next t ∧ s.TripEffect (s.RestartSent (.frameError p)) t := by
  simp only [exec, execFrameError]
  split
  · split
    · exact ⟨_, rfl, .stands (.of_eq rfl rfl rfl)⟩
    · rename_i judged
      split
      · rename_i i named
        obtain ⟨t, taken, effect⟩ := takeCommand_tripEffect i s
        refine ⟨t, taken, effect.mono ?_⟩
        rintro ⟨q, rfl⟩
        exact ⟨p, .inr ⟨rfl, head_of_restartCode
          ((code_of_judgeFrame judged).symm.trans (code_of_commandOf_restart named))⟩⟩
      · exact ⟨_, rfl, .reads p _ _⟩
  · exact ⟨s, rfl, .refl⟩

/-- Every command has an effect of the list, and restarts only when it carries a RESTART. -/
theorem exec_tripEffect (i : Instr) (s : State) :
    ∃ t : State, exec i s = .next t ∧ s.TripEffect (s.RestartSent i) t := by
  by_cases deselect : ∃ p : Port, i = .frameError p
  · obtain ⟨p, rfl⟩ := deselect
    exact frameError_tripEffect p s
  · obtain ⟨t, taken, effect⟩ := exec_tripEffect_of_ne (not_exists.1 deselect) s
    exact ⟨t, taken, effect.mono fun ⟨p, sent⟩ => ⟨p, .inl sent⟩⟩

/-- Settles O39: an effect that keeps the trip unit stays TRIPPED, and the other is that of an accepted RESTART, at
which the lanes stand. -/
theorem onlyRestartLeavesTripped : Obligations.OnlyRestartLeavesTripped := by
  intro i s t run tripped
  obtain ⟨u, taken, effect⟩ := exec_tripEffect i s
  obtain rfl := Host.Outcome.next.inj (taken.symm.trans run)
  cases effect with
  | kept kept => exact ⟨fun normal => absurd (normal.symm.trans (kept.tripped tripped)) (by decide), kept.idle tripped⟩
  | restarted sent left => exact ⟨fun _ => ⟨left.quiet, sent⟩, fun l idle => by rw [left.lanes]; exact idle⟩

/-- Settles O54: the soundness of the trip unit reads nothing of the queue, and every effect of a command keeps it. -/
theorem stepKeepsTripUnitSound : Obligations.StepKeepsTripUnitSound := by
  intro s t sound h
  unfold step at h
  split at h
  · cases h
    exact sound
  · rename_i i rest _
    obtain ⟨u, taken, effect⟩ := exec_tripEffect i { s with pending := rest }
    rw [taken] at h
    cases h
    exact effect.sound sound

end Sys2Proof.Machine
end

section
/-! PROOF. The judgement of a status frame (R158, R159, R161): the CRC-8 by its recurrence, what the seven characters
carry, and one equation of `Link.judge` for each outcome of the checks, in their order. -/

namespace Sys2Proof.Machine

/-! ### The CRC-8 (R159) -/

theorem crcShift_eq (r : Byte) : crcShift r = if r.getLsbD 7 then (r <<< 1) ^^^ 0x07#8 else r <<< 1 := by
  rw [crcShift, BitVec.msb_eq_getLsbD_last]

theorem crcByte_eq_iterate (r b : Byte) : crcByte r b = crcShift^[8] (r ^^^ b) := rfl

theorem crc8_append_singleton (bytes : List Byte) (b : Byte) : crc8 (bytes ++ [b]) = crcByte (crc8 bytes) b := by
  rw [crc8, List.foldl_append]
  rfl

/-! ### The characters of a frame (R158) -/

/-- The signed number of two bytes, high byte first. -/
theorem bytesInt_pair (high low : Byte) : bytesInt [high, low] = (high ++ low).toInt := by
  have joined : (high ++ low).toNat = bytesNum [high, low] := by
    rw [BitVec.toNat_append, ← Nat.shiftLeft_add_eq_or_of_lt low.isLt, Nat.shiftLeft_eq]
    simp [bytesNum]
  rw [bytesInt, BitVec.toInt_eq_toNat_cond, joined]
  norm_num

/-- A received code is taken as the pair of bytes spells it, -32,768 as -32,767 (R161). -/
theorem clampCode_bytesInt_pair (high low : Byte) :
    clampCode (bytesInt [high, low]) = max (-32767) ((high ++ low).toInt) := by
  have code : (high ++ low).toInt ≤ 32767 := Int.le_of_lt_add_one (BitVec.toInt_lt (x := high ++ low))
  rw [clampCode, clampInt_eq (by decide), bytesInt_pair, min_eq_right code]

theorem statusOf_eq (b0 b1 b2 b3 b4 b5 : Byte) : statusOf b0 b1 b2 b3 b4 b5
    = { echo := b0.toNat, v := max (-32767) ((b1 ++ b2).toInt), i := max (-32767) ((b3 ++ b4).toInt)
        fault := b5.getLsbD 0, limit := b5.getLsbD 1 } := by
  rw [statusOf, clampCode_bytesInt_pair, clampCode_bytesInt_pair]

/-! ### The checks in their order (R161) -/

section
variable {x : Link}

/-- Check 1: a frame has seven characters, each with its stop bit. -/
theorem Link.judge_of_malformed {chars : List Byte} {stops : Bool} (bad : chars.length ≠ 7 ∨ stops = false) :
    x.judge chars stops = x.rejectForm := by
  unfold Link.judge
  split
  · have dropped : stops = false := bad.resolve_left fun other => other rfl
    rw [dropped]
    rfl
  · rfl

/-- Check 2: the seventh character is the CRC-8 of the others. -/
theorem Link.judge_of_bad_crc {b0 b1 b2 b3 b4 b5 b6 : Byte} (bad : b6 ≠ crc8 [b0, b1, b2, b3, b4, b5]) :
    x.judge [b0, b1, b2, b3, b4, b5, b6] true
      = { x with rejected := { x.rejected with crc := min (x.rejected.crc + 1) 65535 } } := by
  rw [← bump_eq_min]
  exact if_pos bad

theorem Link.judge_of_good_crc {b0 b1 b2 b3 b4 b5 b6 : Byte} (good : b6 = crc8 [b0, b1, b2, b3, b4, b5]) :
    x.judge [b0, b1, b2, b3, b4, b5, b6] true = x.takeStatus (statusOf b0 b1 b2 b3 b4 b5) :=
  if_neg (not_not_intro good)

/-- Check 3 with no window open, or with an echo that is neither the outstanding frame's nor the one's before it. -/
theorem Link.takeStatus_of_wrong_echo {q : Status} (wrong : ∀ n : Nat, x.outstanding = some n →
      q.echo ≠ n ∧ q.echo ≠ (n + 255) % 256) :
    x.takeStatus q = { x with rejected := { x.rejected with echo := min (x.rejected.echo + 1) 65535 } } := by
  have check : x.echoCheck q.echo = some { x.rejected with echo := bump x.rejected.echo } := by
    unfold Link.echoCheck
    split
    · rfl
    · rename_i n outstanding
      obtain ⟨other, older⟩ := wrong n outstanding
      rw [if_neg other, if_neg older]
  rw [Link.takeStatus, check, bump_eq_min]

/-- Check 3 with the echo of the frame before the outstanding one. -/
theorem Link.takeStatus_of_late {q : Status} {n : Nat} (outstanding : x.outstanding = some n) (other : q.echo ≠ n)
    (late : q.echo = (n + 255) % 256) :
    x.takeStatus q = { x with rejected := { x.rejected with late := min (x.rejected.late + 1) 65535 } } := by
  have check : x.echoCheck q.echo = some { x.rejected with late := bump x.rejected.late } := by
    rw [Link.echoCheck, outstanding]
    dsimp only
    rw [if_neg other, if_pos late]
  rw [Link.takeStatus, check, bump_eq_min]

theorem Link.echoCheck_of_outstanding {e : Nat} (outstanding : x.outstanding = some e) : x.echoCheck e = none := by
  rw [Link.echoCheck, outstanding]
  exact if_pos rfl

/-- Check 4: a window takes one answer. -/
theorem Link.takeStatus_of_answered {q : Status} (outstanding : x.outstanding = some q.echo)
    (answered : x.answer.isSome = true) :
    x.takeStatus q = { x with rejected := { x.rejected with extra := min (x.rejected.extra + 1) 65535 } } := by
  rw [Link.takeStatus, Link.echoCheck_of_outstanding outstanding, ← bump_eq_min]
  exact if_pos answered

theorem Link.takeStatus_of_awaited {q : Status} (outstanding : x.outstanding = some q.echo) (awaited : x.answer = none) :
    x.takeStatus q = { x with answer := some q, latest := some q } := by
  rw [Link.takeStatus, Link.echoCheck_of_outstanding outstanding]
  exact if_neg (by rw [awaited]; decide)

end

/-- The sequence number before `n` (R160). -/
theorem previous_eq {n : Nat} (h : n < 256) : (n + 255) % 256 = if n = 0 then 255 else n - 1 := by
  split_ifs <;> omega

theorem exec_statusFrame (k : Channel) (chars : List Byte) (stops : Bool) (s : State) :
    exec (.statusFrame k chars stops) s = .next (s.setLink k ((s.links.get k).judge chars stops)) := rfl

/-- Settles O41: the CRC-8 by its recurrence; the frame by the equation of `Link.judge` for the first check that fails,
or for its taking. -/
theorem statusFrameIsJudged : Obligations.StatusFrameIsJudged := by
  refine ⟨⟨rfl, fun bytes b => ?_⟩, fun k s => ⟨fun chars stops bad => ?_, fun b0 b1 b2 b3 b4 b5 b6 =>
    ⟨fun bad => ?_, fun good => ⟨fun closed => ?_,
      fun n outstanding other => ⟨fun late below => ?_, fun older below => ?_⟩,
      fun outstanding => ⟨fun answered => ?_, fun awaited => ?_⟩⟩⟩⟩⟩
  · rw [crc8_append_singleton, crcByte_eq_iterate, funext crcShift_eq]
  all_goals rw [exec_statusFrame]
  · rw [Link.judge_of_malformed bad, Link.rejectForm, bump_eq_min]
  · rw [Link.judge_of_bad_crc bad]
  all_goals rw [Link.judge_of_good_crc good]
  · rw [Link.takeStatus_of_wrong_echo fun n outstanding => by rw [closed] at outstanding; cases outstanding]
  · rw [Link.takeStatus_of_late outstanding other (late.trans (previous_eq below).symm)]
  · rw [Link.takeStatus_of_wrong_echo fun m again => ?_]
    obtain rfl := Option.some.inj (outstanding.symm.trans again)
    exact ⟨other, fun late => older (late.trans (previous_eq below))⟩
  · rw [Link.takeStatus_of_answered (by exact outstanding) answered]
  · rw [Link.takeStatus_of_awaited (by exact outstanding) awaited, statusOf_eq]

end Sys2Proof.Machine
end

section
/-! PROOF. The links at a sample event (R160 to R163). An entry to TRIPPED may park a frame that waits, and nothing else
after the verdicts touches a link before its frame; so a link is left as its verdict leaves it, with the frame of the
sample event outstanding (`tick_link`). -/

namespace Sys2Proof.Machine

/-! ### The links' sources -/

/-- Every link stands but for the frame on its line and the mark of a waiting frame. -/
def State.Reframes (s t : State) : Prop := ∀ k : Channel,
  t.links.get k = { s.links.get k with tx := (t.links.get k).tx, waiting := (t.links.get k).waiting }

theorem State.Reframes.of_eq {s t : State} (links : t.links = s.links) : s.Reframes t := fun k => by rw [links]

theorem State.Reframes.trans {s t u : State} (h : s.Reframes t) (k : t.Reframes u) : s.Reframes u := fun j => by
  rw [k j, h j]

theorem State.reframes_parkFrames (s : State) : s.Reframes s.parkFrames := fun k => by
  have parked : ∀ x : Link, x.parkFrame = { x with tx := x.parkFrame.tx, waiting := x.parkFrame.waiting } := fun x => by
    unfold Link.parkFrame
    split_ifs <;> rfl
  cases k <;> exact parked _

theorem State.reframes_takeCause (s : State) (c : Cause) (p : Option Port) : s.Reframes (s.takeCause c p) := by
  unfold State.takeCause
  split
  · exact s.reframes_parkFrames.trans (.of_eq (s.enterTripped_links c p))
  · exact .of_eq rfl

theorem State.reframes_takeSource (s : State) (c : Cause) (on : Bool) : s.Reframes (s.takeSource c on) := by
  unfold State.takeSource
  split_ifs
  · exact .of_eq rfl
  · exact State.reframes_takeCause (s.withSource c) c none
  · exact .of_eq rfl

theorem State.reframes_takeLinks (s : State) (o : LinkOrder) : s.Reframes (s.takeLinks o) := by
  have one : ∀ (t : State) (k : Channel), t.Reframes (t.takeLink k) := fun t k =>
    (t.reframes_takeSource _ _).trans (State.reframes_takeSource _ _ _)
  exact ((one _ _).trans (one _ _)).trans (one _ _)

/-! ### The frames -/

theorem Tick.verdicts_link (s : State) (k : Channel) :
    (Tick.verdicts s).st.links.get k = { s.afterVerdict k with waiting := false } := by
  obtain ⟨e, verdicts⟩ := Tick.verdicts_eq s
  rw [verdicts]
  cases k <;> rfl

/-- Before the frames a link is as its verdict has left it. -/
theorem tickChannels_link (o : TickOrder) (s : State) (k : Channel) : ∃ (tx : List Byte) (waiting : Bool),
    (tickChannels o s).st.links.get k = { s.afterVerdict k with tx := tx, waiting := waiting } := by
  have first : (tickBefore o s).st.links = (Tick.verdicts s).st.links := (Tick.work_sourcesKept _ _).links
  have second : (tickChannels o s).st.links = (tickEntered o s).st.links := (Tick.work_sourcesKept _ _).links
  have taken : (tickBefore o s).st.Reframes (tickEntered o s).st := State.reframes_takeLinks _ o.sources
  rw [second, taken k, first, Tick.verdicts_link]
  exact ⟨_, _, rfl⟩

/-- The code and the parked flag of the frame of link `k`, which has `started` or starts now (R160). -/
def Tick.framed (t : Tick) (k : Channel) (started : Bool) : Int × Bool :=
  if !started && t.st.trip.outputs.get k == .parked then (0, true) else t.handed.get k

theorem Tick.frames_link (t : Tick) (o : TickOrder) (started : Channel → Bool) (k : Channel) :
    (t.frames o started).st.links.get k = (t.st.links.get k).send (t.framed k (started k)).1 (t.framed k (started k)).2
      (o.waits.get k && !started k) := by cases k <;> rfl

/-- The frame of link `k` had started before the entry of this sample event (R160, R166; log 4). -/
def frameStarted (o : TickOrder) (s : State) (k : Channel) : Bool :=
  startedFirst (s.trip.state == .normal && (tickChannels o s).st.trip.state == .tripped) o
    ((Tick.verdicts s).st.firstGroup o.before)
    ⟨(Tick.verdicts s).st.newSource .L1, (Tick.verdicts s).st.newSource .L2, (Tick.verdicts s).st.newSource .L3⟩ k

/-- The code and the parked flag that a sample event sends on link `k` (R160). -/
def tickFramed (o : TickOrder) (s : State) (k : Channel) : Int × Bool :=
  (tickChannels o s).framed k (frameStarted o s k)

/-- A verdict leaves the next sequence number (R160). -/
theorem Link.verdict_next (x : Link) : x.verdict.1.next = x.next := by
  unfold Link.verdict Link.healthGood Link.healthMissing
  dsimp only
  split
  · rfl
  · split
    · rfl
    · split <;> rfl
  · split
    · split <;> rfl
    · rfl

/-- A sample event leaves a link as its verdict does, with the frame of the sample event outstanding (R160, R162). -/
theorem tick_link (o : TickOrder) (s : State) (k : Channel) : ∃ waiting : Bool,
    (tick o s).st.links.get k = { s.afterVerdict k with
      tx := setpointFrame (s.links.get k).next (tickFramed o s k).1 (tickFramed o s k).2
      outstanding := some (s.links.get k).next, answer := none, next := ((s.links.get k).next + 1) % 256
      waiting := waiting } := by
  obtain ⟨tx, waiting, before⟩ := tickChannels_link o s k
  have next : (s.afterVerdict k).next = (s.links.get k).next := (s.links.get k).verdict_next
  have sent : (tickFrames o s).st.links.get k = ((tickChannels o s).st.links.get k).send (tickFramed o s k).1
      (tickFramed o s k).2 (o.waits.get k && !frameStarted o s k) := Tick.frames_link _ _ _ k
  rw [tick_eq, (Tick.captureWork_endPulse_stands _ _ _ _ _).2, sent, before, ← next]
  exact ⟨_, rfl⟩

end Sys2Proof.Machine
end

section
/-! PROOF. The verdict of a window moves the health of its link (R162 to R165); a sample event makes that move and no
other, and none at the first one after a reset. -/

namespace Sys2Proof.Machine

/-! ### The verdict of a window (R162 to R165) -/

theorem Link.verdict_of_closed {x : Link} (closed : x.outstanding = none) : x.verdict = (x, none) := by
  rw [Link.verdict, closed]

section
variable {x : Link} {n : Nat} (outstanding : x.outstanding = some n)
include outstanding

theorem Link.verdict_of_answer {q : Status} (answer : x.answer = some q) : x.verdict
    = ({ x.healthGood with fault := q.fault },
        some (if x.healthGood.health = .good then .received q.v q.i q.limit else .missing)) := by
  rw [Link.verdict, outstanding, answer]

theorem Link.verdict_of_silence (silence : x.answer = none) :
    x.verdict = ({ x.healthMissing with missing := min (x.missing + 1) 65535 }, some .missing) := by
  rw [Link.verdict, outstanding, silence, bump_eq_min]

end

section
variable {x : Link}

theorem Link.healthGood_of_good (good : x.health = .good) : x.healthGood = { x with missingRun := 0 } := by
  rw [Link.healthGood, good]

theorem Link.healthGood_of_recovering (lost : x.health = .lost) (short : x.goodRun < 15) :
    x.healthGood = { x with goodRun := x.goodRun + 1 } := by
  rw [Link.healthGood, lost]
  exact if_pos short

/-- The sixteenth good verdict in a row recovers a lost link (R163). -/
theorem Link.healthGood_of_recovered (lost : x.health = .lost) (run : x.goodRun = 15) :
    x.healthGood = { x with goodRun := 16, health := .good, missingRun := 0 } := by
  rw [Link.healthGood, lost]
  exact if_neg (by rw [run]; decide)

theorem Link.healthGood_missing (x : Link) : x.healthGood.missing = x.missing := by
  unfold Link.healthGood
  split
  · rfl
  · split <;> rfl

theorem Link.healthMissing_of_failing (good : x.health = .good) (short : x.missingRun < 3) :
    x.healthMissing = { x with missingRun := x.missingRun + 1 } := by
  rw [Link.healthMissing, good]
  exact if_pos short

/-- The fourth missing verdict in a row loses a good link (R163). -/
theorem Link.healthMissing_of_failed (good : x.health = .good) (run : x.missingRun = 3) :
    x.healthMissing = { x with missingRun := 4, health := .lost, goodRun := 0 } := by
  rw [Link.healthMissing, good]
  exact if_neg (by rw [run]; decide)

theorem Link.healthMissing_of_lost (lost : x.health = .lost) : x.healthMissing = { x with goodRun := 0 } := by
  rw [Link.healthMissing, lost]

theorem Link.healthMissing_fault (x : Link) : x.healthMissing.fault = x.fault := by
  unfold Link.healthMissing
  split
  · split <;> rfl
  · rfl

end

/-- Settles O42: the verdict by the move of the health that its answer or its silence makes; without an open window the
sample event leaves the link as its verdict does, which is as it stood. -/
theorem verdictMovesHealth : Obligations.VerdictMovesHealth := by
  refine ⟨fun x closed => Link.verdict_of_closed closed, fun o k s closed => ?_,
    fun x n outstanding => ⟨fun q answer => ?_, fun silence => ?_⟩⟩
  · obtain ⟨waiting, link⟩ := tick_link o s k
    have unmoved : s.afterVerdict k = s.links.get k := congrArg Prod.fst (Link.verdict_of_closed closed)
    refine ⟨_, rfl, tick_kept o s, ?_⟩
    rw [link, unmoved]
    exact ⟨rfl, rfl, rfl, rfl, rfl, rfl, rfl⟩
  · rw [Link.verdict_of_answer outstanding answer]
    refine ⟨x.healthGood_missing, rfl, fun good => ?_, fun lost short => ?_, fun lost run => ?_,
      fun good => congrArg some (if_pos good), fun lost => congrArg some (if_neg ?_)⟩
    · rw [Link.healthGood_of_good good]
      exact ⟨good, rfl, rfl⟩
    · rw [Link.healthGood_of_recovering lost short]
      exact ⟨lost, rfl, rfl⟩
    · rw [Link.healthGood_of_recovered lost run]
      exact ⟨rfl, rfl, rfl⟩
    · rw [show x.healthGood.health = .lost from lost]
      decide
  · rw [Link.verdict_of_silence outstanding silence]
    refine ⟨rfl, x.healthMissing_fault, rfl, fun good short => ?_, fun good run => ?_, fun lost => ?_⟩
    · rw [Link.healthMissing_of_failing good short]
      exact ⟨good, rfl, rfl⟩
    · rw [Link.healthMissing_of_failed good run]
      exact ⟨rfl, rfl, rfl⟩
    · rw [Link.healthMissing_of_lost lost]
      exact ⟨lost, rfl, rfl⟩

end Sys2Proof.Machine
end

section
/-! PROOF. LINK_LOST and LINK_RECOVERED (R145, R163): the changes of health are events of the verdicts, which the sample
event keeps; and a loss that the trip unit did not hold is a cause of the state TRIPPED that it leaves
(`State.LossRecorded`). -/

namespace Sys2Proof.Machine

/-! ### The events of the verdicts (R163) -/

/-- The change of health that the verdict of link `k`, of record `x`, makes. -/
def Link.healthEvents (x : Link) (k : Channel) : List TickEvent :=
  if x.health = .good ∧ x.verdict.1.health = .lost then [.linkLost k]
  else if x.health = .lost ∧ x.verdict.1.health = .good then [.linkRecovered k]
  else []

theorem Link.healthEvents_of_loss {x : Link} (good : x.health = .good) (lost : x.verdict.1.health = .lost)
    (k : Channel) : x.healthEvents k = [.linkLost k] := if_pos ⟨good, lost⟩

theorem Link.healthEvents_of_recovery {x : Link} (lost : x.health = .lost) (good : x.verdict.1.health = .good)
    (k : Channel) : x.healthEvents k = [.linkRecovered k] := by
  rw [Link.healthEvents, if_neg (by rw [lost]; rintro ⟨⟨⟩, -⟩), if_pos ⟨lost, good⟩]

theorem Tick.takeVerdict_events (t : Tick) (k : Channel) :
    (t.takeVerdict k).events = (t.st.links.get k).healthEvents k ++ t.events := by
  unfold Tick.takeVerdict Link.healthEvents
  dsimp only
  rw [Link.verdict_waiting]
  dsimp only
  split_ifs <;> rfl

theorem Tick.takeVerdict_link_ne (t : Tick) {j k : Channel} (other : j ≠ k) :
    (t.takeVerdict k).st.links.get j = t.st.links.get j := by
  obtain ⟨e, taken⟩ := t.takeVerdict_eq k
  rw [taken]
  exact PerChannel.get_set_ne _ _ other

/-- The verdicts' events are the changes of health of the three links. -/
theorem Tick.verdicts_events (s : State) : (Tick.verdicts s).events
    = (s.links.get .L3).healthEvents .L3 ++ ((s.links.get .L2).healthEvents .L2
        ++ ((s.links.get .L1).healthEvents .L1 ++ [])) := by
  unfold Tick.verdicts
  rw [Tick.takeVerdict_events, Tick.takeVerdict_events, Tick.takeVerdict_events,
    Tick.takeVerdict_link_ne _ (by decide), Tick.takeVerdict_link_ne _ (by decide),
    Tick.takeVerdict_link_ne _ (by decide)]
  rfl

theorem Tick.healthEvents_subset_verdicts (s : State) (k : Channel) :
    (s.links.get k).healthEvents k ⊆ (Tick.verdicts s).events := fun e he => by
  rw [Tick.verdicts_events]
  simp only [List.mem_append]
  cases k with
  | L1 => exact .inr (.inr (.inl he))
  | L2 => exact .inr (.inl he)
  | L3 => exact .inl he

theorem Tick.work_events (t : Tick) (g : ChannelSet) : t.events ⊆ (t.work g).events := by
  have opened : t.events ⊆ (t.openings g).events :=
    Tick.forChannels_keeps (P := fun u => t.events ⊆ u.events)
      (fun u c _ h => List.Subset.trans h (u.opening_spec c).events) fun _ => id
  rw [Tick.work_eq]
  exact List.Subset.trans (List.Subset.trans opened ((t.openings g).lanesIn_kept g).events) (Tick.endings_events _ g)

/-- A change of health is an event of its sample event. -/
theorem healthEvents_subset_tick (o : TickOrder) (s : State) (k : Channel) :
    (s.links.get k).healthEvents k ⊆ (tick o s).events := by
  have before : (Tick.verdicts s).events ⊆ (tickBefore o s).events := Tick.work_events _ _
  have after : (tickEntered o s).events ⊆ (tickChannels o s).events := Tick.work_events _ _
  exact List.Subset.trans (Tick.healthEvents_subset_verdicts s k)
    (List.Subset.trans before (List.Subset.trans after (tick_tail o s).events))

/-! ### The trip unit (R145 to R147) -/

/-- A loss of link `k` that the trip unit holds is a cause of its state TRIPPED. -/
def State.LossRecorded (s : State) (k : Channel) : Prop :=
  s.trip.active.loss.get k = true → s.trip.state = .tripped ∧ s.trip.causes.sources.loss.get k = true

theorem SourceSet.loss_put_true {x : SourceSet} {c : Cause} {k : Channel} (h : (x.put c true).loss.get k = true) :
    c = .linkLoss k ∨ x.loss.get k = true := by
  cases c with
  | linkLoss j =>
    rw [SourceSet.put, PerChannel.get_set] at h
    split_ifs at h with same
    · exact .inl (by rw [same])
    · exact .inr h
  | _ => exact .inr h

theorem SourceSet.loss_of_loss_put_false {x : SourceSet} {c : Cause} {k : Channel}
    (h : (x.put c false).loss.get k = true) : x.loss.get k = true :=
  SourceSet.has_of_has_put (d := .linkLoss k) h

theorem CauseSet.loss_add_self (x : CauseSet) (k : Channel) : (x.add (.linkLoss k)).sources.loss.get k = true :=
  PerChannel.get_set_self _ _ _

theorem CauseSet.loss_add {x : CauseSet} {k : Channel} (h : x.sources.loss.get k = true) (c : Cause) :
    (x.add c).sources.loss.get k = true := by
  cases c with
  | linkLoss j =>
    rw [CauseSet.add, SourceSet.put, PerChannel.get_set]
    split_ifs
    · rfl
    · exact h
  | _ => exact h

/-- A source that joins the active ones is taken as a cause: in NORMAL it makes the entry, while TRIPPED it is added. -/
theorem State.LossRecorded.takeCause {s : State} {k : Channel} (h : s.LossRecorded k) (c : Cause) :
    ((s.withSource c).takeCause c none).LossRecorded k := by
  intro loss
  refine ⟨State.takeCause_tripped _ _ _, ?_⟩
  cases state : s.trip.state with
  | normal =>
    have normal : (s.withSource c).trip.state = .normal := state
    rw [State.takeCause_of_normal normal, State.enterTripped_trip] at loss ⊢
    obtain rfl | held := SourceSet.loss_put_true loss
    · exact CauseSet.loss_add_self _ k
    · rw [(h held).1] at state
      cases state
  | tripped =>
    have tripped : (s.withSource c).trip.state = .tripped := state
    rw [State.takeCause_of_tripped tripped] at loss ⊢
    obtain rfl | held := SourceSet.loss_put_true loss
    · exact CauseSet.loss_add_self _ k
    · exact CauseSet.loss_add (h held).2 c

theorem State.LossRecorded.takeSource {s : State} {k : Channel} (h : s.LossRecorded k) (c : Cause) (on : Bool) :
    (s.takeSource c on).LossRecorded k := by
  cases on with
  | false => exact fun loss => h (SourceSet.loss_of_loss_put_false loss)
  | true =>
    cases has : s.trip.active.has c with
    | true =>
      rw [State.takeSource_of_held has]
      exact h
    | false =>
      rw [State.takeSource_of_new has]
      exact h.takeCause c

theorem State.LossRecorded.takeLinks {s : State} {k : Channel} (h : s.LossRecorded k) (o : LinkOrder) :
    (s.takeLinks o).LossRecorded k := by
  have one : ∀ (t : State) (j : Channel), t.LossRecorded k → (t.takeLink j).LossRecorded k := fun t j ht =>
    (ht.takeSource _ _).takeSource _ _
  exact one _ _ (one _ _ (one _ _ h))

/-- After a sample event the trip unit holds the loss of a link just when the link is lost (R145). -/
theorem tick_loss (o : TickOrder) (s : State) (k : Channel) :
    (tick o s).st.trip.active.loss.get k = ((s.afterVerdict k).health == .lost) := by
  have reported : (tickChannels o s).st.Reported k := Tick.work_reported _ (State.reported_takeLinks _ o.sources k)
  obtain ⟨tx, waiting, link⟩ := tickChannels_link o s k
  rw [(tick_tail o s).trip, reported.1, State.reports, link]

/-- A loss that the trip unit did not hold before a sample event is a cause of its state TRIPPED after it (R146, R147). -/
theorem tick_lossRecorded (o : TickOrder) {s : State} {k : Channel} (fresh : s.trip.active.loss.get k = false) :
    (tick o s).st.LossRecorded k := by
  have before : (tickBefore o s).st.LossRecorded k := fun loss => by
    have kept : (tickBefore o s).st.trip.active = (Tick.verdicts s).st.trip.active := (Tick.work_sourcesKept _ _).active
    rw [kept, (Tick.verdicts_begun s).trip, fresh] at loss
    cases loss
  have entered : (tickEntered o s).st.LossRecorded k := before.takeLinks o.sources
  have kept : (tickEntered o s).SourcesKept (tickChannels o s) := Tick.work_sourcesKept _ _
  have causes : (tickChannels o s).st.trip.causes = (tickEntered o s).st.trip.causes := (Tick.work_noneParked _ _).causes
  rw [State.LossRecorded, (tick_tail o s).trip, kept.active, kept.state, causes]
  exact entered

/-! ### The obligation -/

/-- Settles O46: the row is the sample event of its verdict, which moves the health and the runs; the trip unit holds the
loss as the link is left, and a new one among its causes. -/
theorem linkLossAndRecovery : Obligations.LinkLossAndRecovery := by
  refine fun k o n s outstanding => ⟨fun good run silence fresh => ?_, fun lost run answered => ?_⟩
  · have after : s.afterVerdict k = { s.links.get k with
        missingRun := 4, health := .lost, goodRun := 0, missing := min ((s.links.get k).missing + 1) 65535 } := by
      rw [State.afterVerdict, Link.verdict_of_silence outstanding silence, Link.healthMissing_of_failed good run]
    have health : (s.afterVerdict k).health = .lost := by rw [after]
    have event : .linkLost k ∈ (tick o s).events := healthEvents_subset_tick o s k (by
      rw [Link.healthEvents_of_loss good health]
      exact List.mem_singleton_self _)
    have loss : (tick o s).st.trip.active.loss.get k = true := by rw [tick_loss, health]; rfl
    obtain ⟨tripped, cause⟩ := tick_lossRecorded o fresh loss
    obtain ⟨waiting, link⟩ := tick_link o s k
    refine ⟨_, congrArg Host.Outcome.next (tickWhen_of_mem event), tick_kept o s, ?_⟩
    rw [link, after]
    exact ⟨rfl, rfl, rfl, loss, cause, tripped⟩
  · obtain ⟨q, answer⟩ := Option.isSome_iff_exists.1 answered
    have after : s.afterVerdict k = { s.links.get k with
        goodRun := 16, health := .good, missingRun := 0, fault := q.fault } := by
      rw [State.afterVerdict, Link.verdict_of_answer outstanding answer, Link.healthGood_of_recovered lost run]
    have health : (s.afterVerdict k).health = .good := by rw [after]
    have event : .linkRecovered k ∈ (tick o s).events := healthEvents_subset_tick o s k (by
      rw [Link.healthEvents_of_recovery lost health]
      exact List.mem_singleton_self _)
    have loss : (tick o s).st.trip.active.loss.get k = false := by rw [tick_loss, health]; rfl
    obtain ⟨waiting, link⟩ := tick_link o s k
    refine ⟨_, congrArg Host.Outcome.next (tickWhen_of_mem event), tick_kept o s, ?_⟩
    rw [link, after]
    exact ⟨rfl, rfl, rfl, loss⟩

end Sys2Proof.Machine
end

section
/-! PROOF. The arithmetic of a setpoint (R16 to R20): the sine table by its reflections, the interpolated lookup, the
composite of a channel and of its overlay terms, and the rounding half away from zero, enclosed between two multiples of
its divisor. -/

namespace Sys2Proof.Machine

/-! ### Table 0 (R17) -/

theorem State.entry_zero (s : State) (i : Nat) : s.entry 0 i = sineEntry i := if_pos rfl

theorem State.entry_of_ne_zero (s : State) {t : Nat} (h : t ≠ 0) (i : Nat) :
    s.entry t i = Memory.read s.wave (1024 * t + i) := if_neg h

theorem sineQuarter_zero : sineQuarter.getD 0 0 = 0 := by decide

/-- The second quarter mirrors the first, both ends included. -/
theorem sineEntry_of_half {i : Nat} (h : i ≤ 512) :
    sineEntry i = if i ≤ 256 then sineQuarter.getD i 0 else sineQuarter.getD (512 - i) 0 := by
  rw [sineEntry, if_pos h]

/-- Past the half cycle the entry is that of the mirrored position with its sign changed. -/
theorem sineEntry_of_past_half {i : Nat} (h : 512 < i) :
    sineEntry i = -(if i ≤ 768 then sineQuarter.getD (i - 512) 0 else sineQuarter.getD (1024 - i) 0) := by
  rw [sineEntry, if_neg (by omega), if_neg (by omega)]
  split_ifs <;> rfl

theorem sineEntry_mirror {i : Nat} (h : i ≤ 512) : sineEntry (512 - i) = sineEntry i := by
  rw [sineEntry_of_half h, sineEntry_of_half (Nat.sub_le 512 i), Nat.sub_sub_self h]
  split_ifs
  · rw [show 512 - i = i by omega]
  · rfl
  · rfl
  · omega

theorem sineEntry_neg_of_past_half {i : Nat} (h : 512 < i) (h' : i < 1024) : sineEntry i = -sineEntry (1024 - i) := by
  rw [sineEntry_of_past_half h, sineEntry_of_half (by omega)]
  refine congrArg Neg.neg ?_
  split_ifs
  · rw [show i - 512 = 1024 - i by omega]
  · rw [show 512 - (1024 - i) = i - 512 by omega]
  · rfl
  · omega

theorem sineEntry_odd {i : Nat} (h : 0 < i) (h' : i < 1024) : sineEntry (1024 - i) = -sineEntry i := by
  obtain below | rfl | past := lt_trichotomy i 512
  · rw [sineEntry_neg_of_past_half (by omega) (by omega), Nat.sub_sub_self (by omega)]
  · have middle : sineEntry 512 = 0 := (sineEntry_of_half le_rfl).trans sineQuarter_zero
    rw [middle]
    rfl
  · rw [sineEntry_neg_of_past_half past h', neg_neg]

/-! ### The composite (R16, R18, R19) -/

/-- The interpolated lookup at a phase given as a number (R16). -/
def lookupAt (table : Nat → Int) (p : Nat) : Int :=
  table (p / 4194304)
    + ((table ((p / 4194304 + 1) % 1024) - table (p / 4194304)) * ((p / 16384 % 256 : Nat) : Int)) / 256

theorem lookup_eq (table : Nat → Int) (p : Phase) : lookup table p = lookupAt table p.toNat := rfl

theorem termPhase_toNat (h : Term) (p : Phase) :
    (termPhase h p).toNat = (h.order * p.toNat + h.phase * 65536) % 4294967296 := by
  rw [termPhase, BitVec.toNat_ofNat]

theorem composite_eq (table : Nat → Int) (terms : List Term) (p : Phase) : composite table terms p
    = 1000 * lookupAt table p.toNat + (terms.map (fun h => (h.amplitude : Int)
        * lookupAt sineEntry ((h.order * p.toNat + h.phase * 65536) % 4294967296))).sum := by
  simp only [composite, lookup_eq, termPhase_toNat]

/-! ### Rounding (R20) -/

theorem natAbs_roundHalfAway (a : Int) {b : Nat} (hb : 0 < b) :
    (roundHalfAway a b).natAbs = (2 * a.natAbs + b) / (2 * b) := by
  have quotient : (2 * (a.natAbs : Int) + b) / (2 * b) = ((2 * a.natAbs + b) / (2 * b) : Nat) := by push_cast; rfl
  rw [roundHalfAway, Int.natAbs_mul, quotient, Int.natAbs_natCast]
  obtain rfl | other := eq_or_ne a 0
  · rw [Int.sign_zero, Int.natAbs_zero, zero_mul]
    exact (Nat.div_eq_of_lt (by omega)).symm
  · rw [Int.natAbs_sign_of_ne_zero other, one_mul]

/-- The rounded quotient encloses the dividend, half a divisor on either side. -/
theorem roundHalfAway_encloses (a : Int) {b : Nat} (hb : 0 < b) :
    2 * b * (roundHalfAway a b).natAbs ≤ 2 * a.natAbs + b
    ∧ 2 * a.natAbs + b < 2 * b * ((roundHalfAway a b).natAbs + 1) := by
  rw [natAbs_roundHalfAway a hb]
  exact ⟨Nat.mul_div_le _ _, Nat.lt_mul_div_succ _ (by omega)⟩

theorem roundHalfAway_nonneg {a b : Int} (ha : 0 ≤ a) (hb : 0 < b) : 0 ≤ roundHalfAway a b :=
  mul_nonneg (Int.sign_nonneg_iff.2 ha) (Int.ediv_nonneg (by omega) (by omega))

theorem roundHalfAway_nonpos {a b : Int} (ha : a ≤ 0) (hb : 0 < b) : roundHalfAway a b ≤ 0 :=
  mul_nonpos_of_nonpos_of_nonneg (Int.sign_nonpos_iff.2 ha) (Int.ediv_nonneg (by omega) (by omega))

/-- The scaled part of the computed value, the DC offset taken off (R20). -/
theorem State.compute_sub_dc (s : State) (x : Chan) : s.compute x - x.active.dc
    = roundHalfAway (composite (s.entry x.active.table) (s.terms x.active.overlay) x.phase * x.active.amp * x.env)
        ((33553408000000 : Nat) : Int) := add_sub_cancel_right _ _

/-- With no amplitude or no envelope the computed value is the DC offset. -/
theorem State.compute_of_silent (s : State) {x : Chan} (h : x.active.amp = 0 ∨ x.env = 0) :
    s.compute x = x.active.dc := by
  obtain amp | env := h
  · exact s.compute_of_amp_zero amp
  · rw [State.compute, setpoint, env, mul_zero, roundHalfAway_zero, zero_add]

/-! ### The setpoint frame (R158) -/

/-- The bytes of a code are read back as the code, high byte first. -/
theorem intBytes_two {code : Int} (low : -32767 ≤ code) (high : code ≤ 32767) :
    ∃ h l : Byte, intBytes 2 code = [h, l] ∧ (h ++ l).toInt = code := by
  refine ⟨_, _, rfl, ?_⟩
  rw [← bytesInt_pair]
  exact bytesInt_intBytes 2 code (by norm_num; omega) (by norm_num; omega)

/-- A setpoint frame: its number, its code, its flag, and the CRC-8 of these. -/
theorem setpointFrame_bytes (n : Nat) {code : Int} (parked : Bool) (low : -32767 ≤ code) (high : code ≤ 32767) :
    ∃ h l : Byte, (h ++ l).toInt = code ∧
      let bytes : List Byte := [BitVec.ofNat 8 n, h, l, if parked then 1#8 else 0#8]
      setpointFrame n code parked = bytes ++ [crc8 bytes] := by
  obtain ⟨h, l, spelled, value⟩ := intBytes_two low high
  refine ⟨h, l, value, ?_⟩
  rw [setpointFrame, spelled]
  rfl

end Sys2Proof.Machine
end

section
/-! PROOF. What a channel hands off at any sample event (R24, R160): a code of the code range, 0 with the parked flag, and
the flag whenever the output is UNPARKING; the clamped code it computes when it is DRIVING and no entry is due. -/

namespace Sys2Proof.Machine

/-- Channel `k` has handed off a code of the code range, 0 with the parked flag; an UNPARKING one with the flag (R24). -/
structure Tick.HandsCode (t : Tick) (k : Channel) : Prop where
  code : codeInRange (t.handed.get k).1
  parked : (t.handed.get k).2 = true → (t.handed.get k).1 = 0
  unparking : t.st.trip.outputs.get k = .unparking → (t.handed.get k).2 = true

theorem handOff_parked {o : OutputState} {code : Int} (h : (handOff o code).2 = true) : (handOff o code).1 = 0 := by
  cases o with
  | driving => cases h
  | parked => rfl
  | unparking => rfl

theorem codeInRange_zero : codeInRange 0 := ⟨by decide, by decide⟩

theorem codeInRange_handOff (o : OutputState) {code : Int} (h : codeInRange code) : codeInRange (handOff o code).1 := by
  cases o with
  | driving => exact h
  | parked => exact codeInRange_zero
  | unparking => exact codeInRange_zero

section
variable {t : Tick} {k : Channel} (h : t.HandsCode k)
include h

/-- Work that hands nothing off, and makes no output UNPARKING, leaves what has been handed off. -/
theorem Tick.HandsCode.of_handed {u : Tick} (handed : u.handed = t.handed)
    (outputs : u.st.trip.outputs.get k = .unparking → t.st.trip.outputs.get k = .unparking) : u.HandsCode k := by
  refine ⟨?_, ?_, fun unparking => ?_⟩ <;> rw [handed]
  · exact h.code
  · exact h.parked
  · exact h.unparking (outputs unparking)

theorem Tick.HandsCode.opening (c : Channel) : (t.opening c).HandsCode k := by
  refine h.of_handed (by rw [t.opening_frame]) fun unparking => ?_
  rw [(t.opening_spec c).trip] at unparking
  dsimp only at unparking
  split_ifs at unparking
  · rw [PerChannel.get_set] at unparking
    split_ifs at unparking
    exact unparking
  · exact unparking

theorem Tick.HandsCode.ending (c : Channel) : (t.ending c).HandsCode k := by
  have outputs : (t.ending c).st.trip.outputs = t.st.trip.outputs := by rw [(t.ending_spec c).trip]
  have handed : (t.ending c).handed.get k = if k = c then
      handOff (t.st.trip.outputs.get c) (clampCode ((t.ramps c).st.compute ((t.ramps c).st.chans.get c)))
      else t.handed.get k := by
    unfold Tick.ending
    rw [Tick.emit_handed, PerChannel.get_set]
    simp only [Tick.ramps_eq, State.trip_setChan]
  by_cases own : k = c
  · subst own
    rw [if_pos rfl] at handed
    refine ⟨?_, ?_, ?_⟩ <;> rw [handed]
    · exact codeInRange_handOff _ (codeInRange_clampCode _)
    · exact handOff_parked
    · rw [outputs]
      intro unparking
      rw [unparking]
      rfl
  · rw [if_neg own] at handed
    refine ⟨?_, ?_, ?_⟩ <;> rw [handed]
    · exact h.code
    · exact h.parked
    · rw [outputs]
      exact h.unparking

theorem Tick.HandsCode.work (g : ChannelSet) : (t.work g).HandsCode k := by
  have opened : (t.openings g).HandsCode k :=
    Tick.forChannels_keeps (P := fun u => u.HandsCode k) (fun _ c _ hu => hu.opening c) h
  have worked : ((t.openings g).lanesIn g).HandsCode k :=
    opened.of_handed (by rw [(t.openings g).laneFrame_lanesIn g]) (by rw [((t.openings g).lanesIn_kept g).trip]; exact id)
  exact Tick.forChannels_keeps (P := fun u => u.HandsCode k) (fun _ c _ hu => hu.ending c) worked

end

/-- The links' sources leave the outputs, or park every one of them in an entry (R149). -/
theorem State.takeLinks_outputs (s : State) (o : LinkOrder) : (s.takeLinks o).trip.outputs = s.trip.outputs
    ∨ (s.takeLinks o).trip.outputs = PerChannel.all .parked := by
  cases trip : s.trip.state with
  | normal =>
    obtain unentered | entered := State.linksTaken_takeLinks trip o
    · exact .inl unentered.moved.outputs
    · exact .inr entered.outputs
  | tripped =>
    have settled : s.Settled := .inl trip
    exact .inl (settled.takeLinks o).outputs

theorem Tick.HandsCode.takeLinks {t : Tick} {k : Channel} (h : t.HandsCode k) (o : LinkOrder) :
    (t.withState (t.st.takeLinks o)).HandsCode k := by
  refine h.of_handed rfl fun unparking => ?_
  obtain outputs | outputs := t.st.takeLinks_outputs o
  · rw [Tick.withState, outputs] at unparking
    exact unparking
  · rw [Tick.withState, outputs, PerChannel.get_all] at unparking
    cases unparking

theorem tickChannels_handsCode (o : TickOrder) (s : State) (k : Channel) : (tickChannels o s).HandsCode k := by
  have start : (Tick.verdicts s).HandsCode k := by
    have handed : (Tick.verdicts s).handed.get k = (0, true) := by
      obtain ⟨e, verdicts⟩ := Tick.verdicts_eq s
      rw [verdicts]
      exact PerChannel.get_all k (0, true)
    refine ⟨?_, ?_, ?_⟩ <;> rw [handed]
    · exact codeInRange_zero
    · exact fun _ => rfl
    · exact fun _ => rfl
  exact ((start.work _).takeLinks o.sources).work _

/-! ### What is sent (R160) -/

/-- A sample event sends a code of the code range, and 0 with the parked flag. -/
theorem tickFramed_code (o : TickOrder) (s : State) (k : Channel) : codeInRange (tickFramed o s k).1
    ∧ ((tickFramed o s k).2 = true → (tickFramed o s k).1 = 0) := by
  have handed := tickChannels_handsCode o s k
  unfold tickFramed Tick.framed
  split_ifs
  · exact ⟨codeInRange_zero, fun _ => rfl⟩
  · exact ⟨handed.code, handed.parked⟩

/-- The frame that starts with the output not DRIVING is parked. -/
theorem tickFramed_parked {o : TickOrder} {s : State} {k : Channel} (other : (tick o s).st.trip.outputs.get k ≠ .driving)
    (unstarted : o.started.get k = false) : (tickFramed o s k).2 = true := by
  have starts : frameStarted o s k = false := by
    unfold frameStarted startedFirst
    simp [unstarted]
  rw [(tick_tail o s).trip] at other
  unfold tickFramed Tick.framed
  rw [starts]
  cases output : (tickChannels o s).st.trip.outputs.get k with
  | driving => exact absurd output other
  | parked => rfl
  | unparking => exact (tickChannels_handsCode o s k).unparking output

/-- Without an entry a DRIVING channel sends the clamped code that it computes. -/
theorem tickFramed_driving {o : TickOrder} {s : State} {k : Channel} (entry : s.noEntryDue)
    (driving : (tick o s).st.trip.outputs.get k = .driving) : (tickFramed o s k).2 = false
    ∧ (tickFramed o s k).1 = max (-32767) (min 32767 (s.compute ((tick o s).st.chans.get k))) := by
  obtain ⟨-, noted, -⟩ := tickUpToCapture_noted o s
  have framed : tickFramed o s k = (tick o s).handed.get k := by
    rw [tick_handed, noted]
    rw [(tick_tail o s).trip] at driving
    unfold tickFramed Tick.framed
    rw [driving]
    exact if_neg (by simp)
  rw [framed]
  refine ⟨?_, tick_handed_of_driving o entry driving⟩
  rw [tick_handsOff o entry, driving]
  rfl

end Sys2Proof.Machine
end

section
/-! PROOF. The clips of a sample event without a running lane (R21, R22): a channel's counter is counted once, by its own
ending, and CLIPPING is raised to both ports just when the counter leaves 0 (`State.ClipRaised`), whatever else the sample
event alerts. -/

namespace Sys2Proof.Machine

/-! ### What leaves the clips -/

/-- The clip counters and the ports' CLIPPING alerts stand. -/
structure State.ClipsStand (s t : State) : Prop where
  clip (c : Channel) : (t.chans.get c).clip = (s.chans.get c).clip
  clipped (p : Port) : (t.ports.get p).alerts.clipped = (s.ports.get p).alerts.clipped
  clipping (p : Port) : (t.ports.get p).alerts.kinds.clipping = (s.ports.get p).alerts.kinds.clipping

theorem State.ClipsStand.of_eq {s t : State} (chans : t.chans = s.chans) (ports : t.ports = s.ports) : s.ClipsStand t :=
  ⟨fun c => by rw [chans], fun p => by rw [ports], fun p => by rw [ports]⟩

theorem State.ClipsStand.trans {s t u : State} (h : s.ClipsStand t) (k : t.ClipsStand u) : s.ClipsStand u :=
  ⟨fun c => (k.clip c).trans (h.clip c), fun p => (k.clipped p).trans (h.clipped p),
    fun p => (k.clipping p).trans (h.clipping p)⟩

/-- An alert of another kind leaves CLIPPING as it was. -/
theorem State.clipsStand_captureEnded (s : State) (o : Option Port) : s.ClipsStand (s.alertOrigin o .captureEnded) := by
  have port : ∀ p : Port, ((s.alertOrigin o .captureEnded).ports.get p).alerts.clipped = (s.ports.get p).alerts.clipped
      ∧ ((s.alertOrigin o .captureEnded).ports.get p).alerts.kinds.clipping = (s.ports.get p).alerts.kinds.clipping := by
    intro p
    rw [State.alertOrigin_port]
    split_ifs <;> exact ⟨rfl, rfl⟩
  exact ⟨fun c => by rw [State.alertOrigin_frame], fun p => (port p).1, fun p => (port p).2⟩

theorem State.clipsStand_endPass (s : State) (d : Nat) (x : Descriptor) (r : PassReason) :
    s.ClipsStand (s.endPass d x r) := by
  have closed : s.ClipsStand (s.closePass d r) := .of_eq rfl rfl
  have idle : ∀ u : State, u.ClipsStand (u.setEngine { u.engine with isActive := false, current := none }) := fun _ =>
    .of_eq rfl rfl
  refine closed.trans ?_
  obtain ⟨e, -, -, -, next⟩ | ⟨-, ended⟩ := (s.closePass d r).followNext_cases x.next
  · rw [State.endPass, next]
    exact .of_eq rfl rfl
  · rw [State.endPass, ended]
    exact (idle _).trans (State.clipsStand_captureEnded _ _)

theorem State.clipsStand_takeOffer (s : State) (d : Nat) (x : Descriptor) (o : Offer) :
    s.ClipsStand (s.takeOffer d x o).st := by
  by_cases counting : s.engine.phase + 1 < x.decimation
  · rw [State.takeOffer_of_counting counting]
    exact .of_eq rfl rfl
  · rw [State.takeOffer_of_passing (Nat.not_lt.1 counting)]
    have cleared : s.ClipsStand s.phaseCleared := .of_eq rfl rfl
    have stored : ∀ (w : Int) (last : Option Int), s.ClipsStand (s.phaseCleared.storeWord x w last) := fun _ _ =>
      .of_eq rfl rfl
    have effect := s.phaseCleared.passEffect d x o
    generalize s.phaseCleared.passOffer d x o = taken at effect
    cases effect with
    | suppressed => exact cleared
    | stored w last => exact stored w last
    | ended w last r full => exact (stored w last).trans (State.clipsStand_endPass _ d x r)

theorem State.clipsStand_laneStart (s : State) (l : LaneId) (p : Port) (d : Nat) : s.ClipsStand (s.laneStart l p d) := by
  unfold State.laneStart
  split
  · exact .of_eq rfl rfl
  · exact ⟨fun _ => rfl, fun q => by cases p <;> cases q <;> rfl, fun q => by cases p <;> cases q <;> rfl⟩

theorem Tick.clipsStand_takeStarts (t : Tick) (starts : List (LaneId × Port × Nat)) :
    t.st.ClipsStand (t.takeStarts starts).st := by
  induction starts generalizing t with
  | nil => exact .of_eq rfl rfl
  | cons e starts ih =>
    rw [Tick.takeStarts_cons]
    exact (t.st.clipsStand_laneStart e.1 e.2.1 e.2.2).trans (ih (t.withState _))

theorem Tick.clipsStand_offerWork (t : Tick) (b : Bool) : t.st.ClipsStand (t.offerWork b).st := by
  obtain stands | ⟨-, d, x, w, -, -, taken⟩ := t.offerWork_cases b
  · exact .of_eq (by rw [stands]) (by rw [stands])
  · rw [taken]
    exact t.st.clipsStand_takeOffer d x w

/-- What follows the channels' work in a sample event leaves the clips. -/
theorem tick_tail_clipsStand (o : TickOrder) (s : State) : (tickChannels o s).st.ClipsStand (tick o s).st := by
  have upTo : (tickChannels o s).st.ClipsStand (tickUpToCapture o s).st := by
    rw [tickUpToCapture_frame]
    exact .of_eq rfl rfl
  rw [tick_eq_captureWork]
  exact upTo.trans (((Tick.clipsStand_takeStarts _ _).trans (Tick.clipsStand_offerWork _ _)).trans
    (Tick.clipsStand_takeStarts _ _))

theorem Lane.endedChan_clip (x : Lane) (c : Channel) (y : Chan) : (x.endedChan c y).clip = y.clip := by
  unfold Lane.endedChan
  split_ifs
  · cases x.snapshots.get c <;> rfl
  · rfl

/-- An entry reverts channels and raises TRIP and LANE_ENDED. -/
theorem State.clipsStand_enterTripped (s : State) (c : Cause) (p : Option Port) : s.ClipsStand (s.enterTripped c p) := by
  refine ⟨fun d => ?_, fun q => by rw [State.enterTripped_port]; rfl, fun q => by rw [State.enterTripped_port]; rfl⟩
  have ended : s.LanesTripped (s.enterTripped c p) := State.lanesTripped_enterTripped rfl rfl c p
  rw [ended.chans, State.endedChan, Lane.endedChan_clip, Lane.endedChan_clip, Lane.endedChan_clip]

theorem State.clipsStand_takeSource (s : State) (c : Cause) (on : Bool) : s.ClipsStand (s.takeSource c on) := by
  have joined : s.ClipsStand (s.withSource c) := .of_eq rfl rfl
  unfold State.takeSource
  split_ifs
  · exact .of_eq rfl rfl
  · refine joined.trans ?_
    unfold State.takeCause
    split
    · exact State.clipsStand_enterTripped _ c none
    · exact .of_eq rfl rfl
  · exact .of_eq rfl rfl

theorem State.clipsStand_takeLinks (s : State) (o : LinkOrder) : s.ClipsStand (s.takeLinks o) := by
  have one : ∀ (t : State) (k : Channel), t.ClipsStand (t.takeLink k) := fun t k =>
    (t.clipsStand_takeSource _ _).trans (State.clipsStand_takeSource _ _ _)
  exact ((one _ _).trans (one _ _)).trans (one _ _)

/-- The stages before the lanes leave the clips: a promotion takes the staged set alone. -/
theorem Tick.clipsStand_opening (t : Tick) (c : Channel) : t.st.ClipsStand (t.opening c).st := by
  have ports := (t.opening_stands c).1
  refine ⟨fun d => ?_, fun p => by rw [ports], fun p => by rw [ports]⟩
  rw [(t.opening_spec c).chans, PerChannel.get_set]
  split_ifs with own
  · subst own
    obtain same | ⟨q, -, taken⟩ := Chan.promoted_cases
      { t.st.chans.get d with phase := (t.nextAdvance d).after + t.lateJump d } (t.nextAdvance d)
    · rw [same]
    · rw [taken]
      rfl
  · rfl

/-! ### A clip counted (R22) -/

/-- The value that channel record `x` computes lies outside the code range (R21, R22). -/
def State.clips (s : State) (x : Chan) : Bool := !decide (-32767 ≤ s.compute x ∧ s.compute x ≤ 32767)

theorem State.clips_of_stand {s t : State} (wave : t.wave = s.wave) (overlays : t.overlays = s.overlays) (x : Chan)
    (n : Nat) : t.clips { x with clip := n } = s.clips x := by
  rw [State.clips, State.clips, State.compute_of_stand wave overlays]

theorem clampCode_eq_self_iff (y : Int) : clampCode y = y ↔ -32767 ≤ y ∧ y ≤ 32767 := by
  rw [clampCode, clampInt_eq (by decide)]
  dsimp only [Config.maxCode]
  omega

theorem State.countClip_chans (s : State) (c : Channel) : (s.countClip c).chans
    = s.chans.set c { s.chans.get c with clip := min ((s.chans.get c).clip + 1) 65535 } := by
  rw [← bump_eq_min]
  unfold State.countClip
  dsimp only
  split_ifs <;> rfl

theorem State.countClip_port (s : State) (c : Channel) (p : Port) : (s.countClip c).ports.get p
    = if (s.chans.get c).clip = 0
      then { s.ports.get p with alerts := addAlert (s.ports.get p).alerts (.clipping c) } else s.ports.get p := by
  unfold State.countClip
  dsimp only
  split_ifs
  · rw [State.alertBoth_get]
    rfl
  · rfl

/-- Stage 4 counts a clip when the computed value lies outside the code range. -/
theorem Tick.emit_st (t : Tick) (c : Channel) :
    (t.emit c).st = if t.st.clips (t.st.chans.get c) = true then t.st.countClip c else t.st := by
  have clips : t.st.clips (t.st.chans.get c) = true
      ↔ ¬ clampCode (t.st.compute (t.st.chans.get c)) = t.st.compute (t.st.chans.get c) := by
    rw [clampCode_eq_self_iff, State.clips, Bool.not_eq_true', decide_eq_false_iff_not]
  unfold Tick.emit
  dsimp only
  rw [if_congr clips rfl rfl, ite_not]
  split <;> rfl

/-- Between two states of a sample event the clip counter of channel `c` does not return to 0, and CLIPPING of the channel is
raised to both ports just when the counter leaves 0 (R22). -/
structure State.ClipRaised (s : State) (c : Channel) (t : State) : Prop where
  counts : (t.chans.get c).clip = 0 → (s.chans.get c).clip = 0
  clipped (p : Port) : (t.ports.get p).alerts.clipped.get c = true
    ↔ (s.ports.get p).alerts.clipped.get c = true ∨ ((s.chans.get c).clip = 0 ∧ (t.chans.get c).clip ≠ 0)
  clipping (p : Port) :
    ((s.ports.get p).alerts.kinds.clipping = true ∨ ((s.chans.get c).clip = 0 ∧ (t.chans.get c).clip ≠ 0)) →
      (t.ports.get p).alerts.kinds.clipping = true

theorem State.ClipRaised.trans {c : Channel} {s t u : State} (h : s.ClipRaised c t) (k : t.ClipRaised c u) :
    s.ClipRaised c u := by
  have first := h.counts
  have second := k.counts
  refine ⟨first ∘ second, fun p => ?_, fun p raised => k.clipping p ?_⟩
  · rw [k.clipped, h.clipped]
    tauto
  · have before := h.clipping p
    tauto

theorem State.ClipsStand.raised {s t : State} (h : s.ClipsStand t) (c : Channel) : s.ClipRaised c t := by
  refine ⟨(h.clip c).symm.trans, fun p => ?_, fun p => ?_⟩ <;> rw [h.clip c]
  · rw [h.clipped p]
    exact (or_iff_left fun ⟨zero, left⟩ => left zero).symm
  · rw [h.clipping p]
    exact fun raised => raised.resolve_right fun ⟨zero, left⟩ => left zero

/-- The counter of the channel itself leaves 0 or has left it; another channel's clip raises the kind alone. -/
theorem State.clipRaised_countClip (s : State) (c d : Channel) : s.ClipRaised c (s.countClip d) := by
  have clip : ((s.countClip d).chans.get c).clip
      = if c = d then min ((s.chans.get c).clip + 1) 65535 else (s.chans.get c).clip := by
    rw [State.countClip_chans, PerChannel.get_set]
    split_ifs with own
    · rw [own]
    · rfl
  refine ⟨fun zero => ?_, fun p => ?_, fun p => ?_⟩
  · rw [clip] at zero
    split_ifs at zero <;> omega
  all_goals
    rw [State.countClip_port, clip]
    by_cases own : c = d
    · subst own
      by_cases zero : (s.chans.get c).clip = 0 <;> simp [zero, addAlert]
    · rw [if_neg own]
      split_ifs <;> simp [addAlert, PerChannel.get_set, own]

theorem Tick.clipRaised_ending (t : Tick) (c d : Channel) : t.st.ClipRaised c (t.ending d).st := by
  have stepped : t.st.ClipsStand (t.ramps d).st := by
    refine ⟨fun e => ?_, fun _ => by rw [Tick.ramps_eq]; rfl, fun _ => by rw [Tick.ramps_eq]; rfl⟩
    rw [Tick.ramps_eq, State.chans_setChan, PerChannel.get_set, Chan.rampsStepped_frame]
    split_ifs with own
    · rw [own]
    · rfl
  refine (stepped.raised c).trans ?_
  unfold Tick.ending
  rw [Tick.emit_st]
  split_ifs
  · exact State.clipRaised_countClip _ c d
  · exact State.ClipsStand.raised (.of_eq rfl rfl) c

/-- The counter of a channel after its ending: one more when the value that its record computes is a clip. -/
theorem Tick.ending_clip (t : Tick) (c : Channel) : ((t.ending c).st.chans.get c).clip
    = if t.st.clips ((t.ending c).st.chans.get c) = true then min ((t.st.chans.get c).clip + 1) 65535
      else (t.st.chans.get c).clip := by
  have clip : ((t.ramps c).st.chans.get c).clip = (t.st.chans.get c).clip := by
    rw [Tick.ramps_eq, State.chans_setChan, PerChannel.get_set_self, Chan.rampsStepped_frame]
  have alike : ∀ n : Nat, t.st.clips { (t.ramps c).st.chans.get c with clip := n }
      = (t.ramps c).st.clips ((t.ramps c).st.chans.get c) := fun n =>
    State.clips_of_stand (by rw [Tick.ramps_eq]; rfl) (by rw [Tick.ramps_eq]; rfl) _ n
  unfold Tick.ending
  rw [Tick.emit_st]
  split_ifs with clips counted counted
  · rw [State.countClip_chans, PerChannel.get_set_self, clip]
  · rw [State.countClip_chans, PerChannel.get_set_self, alike] at counted
    exact absurd clips counted
  · exact absurd ((alike _).symm.trans counted) clips
  · exact clip

/-! ### A sample event without a running lane -/

theorem Tick.work_of_idle {t : Tick} (idle : t.st.lanesIdle) (g : ChannelSet) :
    t.work g = (t.openings g).endings g := by
  rw [Tick.work_eq, Tick.lanesIn_of_idle fun l => by rw [t.openings_lanes]; exact idle l]

theorem Tick.work_idle {t : Tick} (idle : t.st.lanesIdle) (g : ChannelSet) : (t.work g).st.lanesIdle := fun l => by
  rw [Tick.work_of_idle idle, Tick.endings_lanes, Tick.openings_lanes]
  exact idle l

theorem Tick.clipRaised_work {t : Tick} (idle : t.st.lanesIdle) (c : Channel) (g : ChannelSet) :
    t.st.ClipRaised c (t.work g).st := by
  have opened : t.st.ClipsStand (t.openings g).st :=
    Tick.forChannels_keeps (P := fun u => t.st.ClipsStand u.st) (fun u d _ h => h.trans (u.clipsStand_opening d))
      (.of_eq rfl rfl)
  rw [Tick.work_of_idle idle]
  exact Tick.forChannels_keeps (P := fun u => t.st.ClipRaised c u.st)
    (fun u d _ h => h.trans (u.clipRaised_ending c d)) (opened.raised c)

theorem tick_clipRaised (o : TickOrder) {s : State} (idle : s.lanesIdle) (c : Channel) :
    s.ClipRaised c (tick o s).st := by
  have judged : s.ClipsStand (Tick.verdicts s).st := by
    obtain ⟨e, verdicts⟩ := Tick.verdicts_eq s
    rw [verdicts]
    exact .of_eq rfl rfl
  have idleJudged : (Tick.verdicts s).st.lanesIdle := fun l => by
    rw [(Tick.verdicts_begun s).lanes]
    exact idle l
  have idleBefore : (tickBefore o s).st.lanesIdle := Tick.work_idle idleJudged _
  have idleEntered : (tickEntered o s).st.lanesIdle := fun l => by
    obtain lanes | ended := (tickBefore o s).st.takeLinks_lanes o.sources
    · rw [tickEntered, Tick.withState, lanes]
      exact idleBefore l
    · exact ended l
  have before : (Tick.verdicts s).st.ClipRaised c (tickBefore o s).st := Tick.clipRaised_work idleJudged c _
  have entered : (tickBefore o s).st.ClipsStand (tickEntered o s).st := State.clipsStand_takeLinks _ o.sources
  have channels : (tickEntered o s).st.ClipRaised c (tickChannels o s).st := Tick.clipRaised_work idleEntered c _
  exact ((((judged.raised c).trans before).trans (entered.raised c)).trans channels).trans
    ((tick_tail_clipsStand o s).raised c)

/-- Without a running lane a sample event counts one clip of a channel when the value that it computes is one (R22). -/
theorem tick_clip (o : TickOrder) {s : State} (idle : s.lanesIdle) (c : Channel) : ((tick o s).st.chans.get c).clip
    = if s.clips ((tick o s).st.chans.get c) = true then min ((s.chans.get c).clip + 1) 65535
      else (s.chans.get c).clip := by
  obtain ⟨u, v, before, -, work, after⟩ := tickChannels_of_unbound (still := True) o (idle.unbound c) fun _ => idle
  have begun := Tick.verdicts_begun s
  have chan : (tick o s).st.chans.get c = (v.ending c).st.chans.get c := by
    rw [(tick_tail o s).chans]
    exact after.chan_eq (.inl trivial)
  have clip : (v.st.chans.get c).clip = (s.chans.get c).clip := by
    rw [work.chan_eq (.inl trivial), (u.clipsStand_opening c).clip, before.chan_eq (.inl trivial), begun.chan]
  obtain ⟨-, wave, overlays, -⟩ := State.tickKept_trans (State.tickKept_trans begun.kept before.kept)
    (State.tickKept_trans (kept_opening u c) work.kept)
  have alike : v.st.clips ((v.ending c).st.chans.get c) = s.clips ((v.ending c).st.chans.get c) :=
    State.clips_of_stand wave overlays _ _
  rw [chan, Tick.ending_clip, alike, clip]

/-- CLIPPING of a channel is raised just when a clip takes its counter from 0 (R22, R178). -/
theorem tick_clipped (o : TickOrder) {s : State} (idle : s.lanesIdle) (c : Channel) (p : Port) :
    ((tick o s).st.ports.get p).alerts.clipped.get c = ((s.ports.get p).alerts.clipped.get c
        || (s.clips ((tick o s).st.chans.get c) && (s.chans.get c).clip == 0))
    ∧ (s.clips ((tick o s).st.chans.get c) = true → (s.chans.get c).clip = 0 →
        ((tick o s).st.ports.get p).alerts.kinds.clipping = true) := by
  have raised := tick_clipRaised o idle c
  have left : (s.chans.get c).clip = 0 ∧ ((tick o s).st.chans.get c).clip ≠ 0
      ↔ s.clips ((tick o s).st.chans.get c) = true ∧ (s.chans.get c).clip = 0 := by
    rw [tick_clip o idle c]
    split_ifs with clips <;> simp [clips]
  refine ⟨?_, fun clips zero => raised.clipping p (.inr (left.2 ⟨clips, zero⟩))⟩
  rw [Bool.eq_iff_iff, raised.clipped, left, Bool.or_eq_true, Bool.and_eq_true, beq_iff_eq]

end Sys2Proof.Machine
end

section
/-! PROOF. The setpoint frames of a sample event (R16 to R24, R158, R160, R178). -/

namespace Sys2Proof.Machine

/-- Settles O44: the frame by `tick_link` and what is sent, the clips by `tick_clip` and `tick_clipped`; the bytes of a
code; and the value by the enclosure of its rounding, the composite and the reflections of the sine table. -/
theorem sampleEventSendsSetpointFrames : Obligations.SampleEventSendsSetpointFrames := by
  refine ⟨fun o s k => ?_, fun n code parked _ low high => setpointFrame_bytes n parked low high, fun s x => ?_⟩
  · obtain ⟨waiting, link⟩ := tick_link o s k
    obtain ⟨⟨low, high⟩, zero⟩ := tickFramed_code o s k
    refine ⟨_, (tickFramed o s k).1, (tickFramed o s k).2, rfl, tick_kept o s, ?_, low, high, zero, tickFramed_parked,
      fun _ entry => tickFramed_driving entry, ?_, ?_, ?_, fun idle => ⟨tick_clip o idle k, tick_clipped o idle k⟩⟩
    all_goals rw [link]
  · have table : s.entry 0 = sineEntry := funext s.entry_zero
    have positive : (0 : Int) < (33553408000000 : Nat) := by decide
    dsimp only
    rw [State.compute_sub_dc, composite_eq, table]
    obtain ⟨below, above⟩ := roundHalfAway_encloses _ (b := 33553408000000) (by decide)
    exact ⟨below, above, fun h => roundHalfAway_nonneg h positive, fun h => roundHalfAway_nonpos h positive,
      s.compute_of_silent, fun t i other => s.entry_of_ne_zero other i, fun i => sineEntry_mirror,
      fun i => sineEntry_odd, by decide⟩

end Sys2Proof.Machine
end

section
/-! PROOF. The transaction of a control port (R170, R172), NOP and IDENTIFY (R177), and the alert commands and line
(R179 to R181): what a bit of a set of alert kinds is, and what each command answers. -/

namespace Sys2Proof.Machine

/-! ### The transaction (R170, R172) -/

/-- Settles O5: a response is written into one port's record. -/
theorem deselectReplacesHolder : Obligations.DeselectReplacesHolder :=
  fun s p r => ⟨s.hold_get_self p r, fun _ other => s.hold_get_ne r other, rfl⟩

theorem exec_spiSelect (p : Port) (s : State) : exec (.spiSelect p) s = .next (s.setPort p { s.ports.get p with
    receiving := true, frame := [], count := 0, miso := some ((s.ports.get p).holder.byteAt 0) }) := rfl

theorem exec_spiByteCompleted_of_deselected {p : Port} {s : State} (b : Byte)
    (deselected : (s.ports.get p).receiving = false) : exec (.spiByteCompleted p b) s = .next s :=
  if_neg (by rw [deselected]; decide)

theorem exec_spiByteCompleted_of_receiving {p : Port} {s : State} (b : Byte)
    (receiving : (s.ports.get p).receiving = true) : exec (.spiByteCompleted p b) s
      = .next (s.setPort p { s.ports.get p with
          frame := keepByte (s.ports.get p).frame (s.ports.get p).count b, count := (s.ports.get p).count + 1,
          miso := some ((s.ports.get p).holder.byteAt ((s.ports.get p).count + 1)) }) :=
  if_pos receiving

theorem keepByte_of_needed {frame : List Byte} {n : Nat} (b : Byte)
    (needed : n < 2 ∨ n < 2 + (frame.getD 1 0#8).toNat) : keepByte frame n b = frame ++ [b] := if_pos needed

/-- A byte that the frame does not need is not kept (log 10). -/
theorem keepByte_of_surplus {frame : List Byte} {n : Nat} (b : Byte) (head : 2 ≤ n)
    (body : 2 + (frame.getD 1 0#8).toNat ≤ n) : keepByte frame n b = frame := if_neg (by omega)

/-- Settles O6: the select by its definition, a byte by whether the port is RECEIVING and the frame needs it. -/
theorem transactionShiftsFrameAndResponse : Obligations.TransactionShiftsFrameAndResponse := by
  refine fun p s => ⟨exec_spiSelect p s, fun b => ⟨exec_spiByteCompleted_of_deselected b, fun receiving => ?_⟩⟩
  exact ⟨_, exec_spiByteCompleted_of_receiving b receiving, fun head => keepByte_of_needed b (.inl head),
    fun body => keepByte_of_needed b (.inr body), fun body head => keepByte_of_surplus b head body⟩

/-! ### NOP and IDENTIFY (R177) -/

/-- Settles O10: the two commands change nothing, and both answer by the port's identity bytes or by none. -/
theorem nopAndIdentify : Obligations.NopAndIdentify := by
  intro p
  cases p with
  | A => exact ⟨fun _ => rfl, fun _ => rfl, fun _ _ => ⟨_, rfl, rfl⟩⟩
  | B => exact ⟨fun _ => rfl, fun _ => rfl, fun _ _ => ⟨_, rfl, rfl⟩⟩

/-! ### The alert line (R179) -/

/-- Two sets of kinds meet in one of the six kinds. -/
theorem kindsMeet_iff (x y : AlertKinds) : kindsMeet x y = true ↔ ∃ kind ∈ [AlertKinds.laneEnded, AlertKinds.laneHeld,
    AlertKinds.trip, AlertKinds.captureEnded, AlertKinds.captureMissed, AlertKinds.clipping],
      kind x = true ∧ kind y = true := by
  simp [kindsMeet, or_assoc]

theorem kindsMeet_empty_left (y : AlertKinds) : kindsMeet AlertKinds.empty y = false := by
  simp [kindsMeet, AlertKinds.empty]

theorem kindsMeet_empty_right (x : AlertKinds) : kindsMeet x AlertKinds.empty = false := by
  simp [kindsMeet, AlertKinds.empty]

/-- Settles O12: the line is the meeting of the pending kinds and the mask. -/
theorem alertLineFollowsPendingAndMask : Obligations.AlertLineFollowsPendingAndMask :=
  fun r => ⟨kindsMeet_iff r.alerts.kinds r.mask, kindsMeet_empty_left r.mask, kindsMeet_empty_right r.alerts.kinds⟩

/-! ### GET_ALERTS and SET_ALERT_MASK (R180, R181) -/

/-- Bit by bit, the byte of a set of alert kinds (R180). -/
theorem getLsbD_kindBits (x : AlertKinds) :
    let b : Byte := BitVec.ofNat 8 (kindBits x)
    b.getLsbD 0 = x.laneEnded ∧ b.getLsbD 1 = x.laneHeld ∧ b.getLsbD 2 = x.trip ∧ b.getLsbD 3 = x.captureEnded
    ∧ b.getLsbD 4 = x.captureMissed ∧ b.getLsbD 5 = x.clipping ∧ b.getLsbD 6 = false ∧ b.getLsbD 7 = false := by
  have all : ∀ a b c d e f : Bool, let y : Byte := BitVec.ofNat 8 (kindBits ⟨a, b, c, d, e, f⟩)
      y.getLsbD 0 = a ∧ y.getLsbD 1 = b ∧ y.getLsbD 2 = c ∧ y.getLsbD 3 = d ∧ y.getLsbD 4 = e ∧ y.getLsbD 5 = f
      ∧ y.getLsbD 6 = false ∧ y.getLsbD 7 = false := by decide
  exact all _ _ _ _ _ _

theorem bitAt_le (k : Nat) (b : Bool) : bitAt k b ≤ 2 ^ k := by
  cases b with
  | false => exact Nat.zero_le _
  | true => exact le_rfl

theorem kindBits_lt (x : AlertKinds) : kindBits x < 64 := by
  have := bitAt_le 0 x.laneEnded
  have := bitAt_le 1 x.laneHeld
  have := bitAt_le 2 x.trip
  have := bitAt_le 3 x.captureEnded
  have := bitAt_le 4 x.captureMissed
  have := bitAt_le 5 x.clipping
  unfold kindBits
  omega

theorem laneBits_lt (x : LaneSet) : laneBits x < 8 := by
  have := bitAt_le 0 x.n0
  have := bitAt_le 1 x.n1
  have := bitAt_le 2 x.n2
  unfold laneBits
  omega

theorem channelBits_lt (x : ChannelSet) : channelBits x < 8 := by
  have := bitAt_le 0 x.l1
  have := bitAt_le 1 x.l2
  have := bitAt_le 2 x.l3
  unfold channelBits
  omega

/-- The byte of a bit map that is reported only with its kind. -/
theorem toNat_byte_of_kind (kind : Bool) {n : Nat} (h : n < 8) :
    (BitVec.ofNat 8 (if kind then n else 0)).toNat = if kind then n else 0 := by
  rw [BitVec.toNat_ofNat, Nat.mod_eq_of_lt]
  split_ifs <;> omega

theorem exec_getAlerts (p : Port) (s : State) : exec (.getAlerts p) s
    = .next ((s.setPort p { s.ports.get p with alerts := Alerts.empty }).answered p 0x02 .ok
        (alertsBody (s.ports.get p).alerts)) := rfl

theorem exec_setAlertMask (p : Port) (mask : Nat) (s : State) :
    exec (.setAlertMask p mask) s = .next (State.answer p 0x03 (s.setAlertMask p mask)) := rfl

/-- The kinds of a mask's six bits. -/
def maskKinds (mask : Nat) : AlertKinds :=
  ⟨mask.testBit 0, mask.testBit 1, mask.testBit 2, mask.testBit 3, mask.testBit 4, mask.testBit 5⟩

theorem kindsOf_of_lt {mask : Nat} (h : mask < 64) : kindsOf mask = some (maskKinds mask) := if_pos h

theorem kindsOf_of_ge {mask : Nat} (h : 64 ≤ mask) : kindsOf mask = none := if_neg (Nat.not_lt.2 h)

theorem kindBits_maskKinds {mask : Nat} (h : mask < 64) : kindBits (maskKinds mask) = mask := by
  have all : ∀ m < 64, kindBits (maskKinds m) = m := by decide
  exact all mask h

theorem State.setAlertMask_of_ge (s : State) (p : Port) {mask : Nat} (h : 64 ≤ mask) :
    s.setAlertMask p mask = (s, Reply.refuse .badArgument) := by
  rw [State.setAlertMask, kindsOf_of_ge h]

theorem State.setAlertMask_of_lt (s : State) (p : Port) {mask : Nat} (h : mask < 64) :
    s.setAlertMask p mask = (s.setPort p { s.ports.get p with mask := maskKinds mask },
      Reply.ok (byteItem mask ++ byteItem (kindBits (s.ports.get p).alerts.kinds))) := by
  rw [State.setAlertMask, kindsOf_of_lt h]
  dsimp only
  rw [kindBits_maskKinds h]

/-- Settles O11: the four bytes of the report, and the two outcomes of the mask's check. -/
theorem alertCommands : Obligations.AlertCommands := by
  refine fun p s => ⟨?_, fun mask _ => ⟨fun high => ?_, fun zero => ?_, fun low => ?_⟩⟩
  · obtain ⟨b0, b1, b2, b3, b4, b5, b6, b7⟩ := getLsbD_kindBits (s.ports.get p).alerts.kinds
    exact ⟨_, _, _, _, exec_getAlerts p s, b0, b1, b2, b3, b4, b5, b6, b7, toNat_byte_of_kind _ (laneBits_lt _),
      toNat_byte_of_kind _ (laneBits_lt _), toNat_byte_of_kind _ (channelBits_lt _), kindsMeet_empty_left _⟩
  · rw [exec_setAlertMask, State.setAlertMask_of_ge s p high, State.answer_refuse]
  · rw [zero]
    exact kindsMeet_empty_right _
  · refine ⟨BitVec.ofNat 8 (kindBits (s.ports.get p).alerts.kinds), ?_, ?_⟩
    · rw [BitVec.toNat_ofNat, Nat.mod_eq_of_lt (by have := kindBits_lt (s.ports.get p).alerts.kinds; omega)]
    · rw [exec_setAlertMask, State.setAlertMask_of_lt s p low, State.answer_ok]
      rfl

end Sys2Proof.Machine
end

section
/-! PROOF. Every command answers a next state and leaves the queue, and a refused port command changes nothing else. Both
are read off one fact about the verdict of each block (`State.Verdict`): it leaves the queue, and a verdict that refuses
comes with the state as it was (R174, R175). -/

namespace Sys2Proof.Machine

/-! ### The verdict of a block (R174) -/

/-- Taken, as sent or adjusted: the two statuses that are no refusal (R174, R175). -/
def Reply.Taken (r : Reply) : Prop := r.status = .ok ∨ r.status = .clamped

theorem Reply.taken_taken (adjusted : Bool) (body : List Byte) : (Reply.taken adjusted body).Taken := by
  cases adjusted with
  | false => exact .inl rfl
  | true => exact .inr rfl

theorem Reply.ok_taken (body : List Byte) : (Reply.ok body).Taken := .inl rfl

/-- A block's verdict on a command: the queue stands, and unless the command is taken the state stands whole. -/
structure State.Verdict (s : State) (v : State × Reply) : Prop where
  queue : v.1.pending = s.pending
  refused : ¬ v.2.Taken → v.1 = s

/-- A verdict that changes nothing: a report, or a refusal. -/
theorem State.Verdict.stands (s : State) (r : Reply) : s.Verdict (s, r) := ⟨rfl, fun _ => rfl⟩

/-- A verdict that takes the command and leaves the queue. -/
theorem State.Verdict.takes {s t : State} {r : Reply} (queue : t.pending = s.pending) (taken : r.Taken) :
    s.Verdict (t, r) := ⟨queue, fun refused => absurd taken refused⟩

/-! ### What the shared operations leave of the queue -/

theorem State.pending_alertOrigin (s : State) (o : Option Port) (a : Alert) : (s.alertOrigin o a).pending = s.pending := by
  rw [State.alertOrigin_frame]

theorem State.pending_holdLane (s : State) (l : LaneId) (x : Lane) (r : HoldReason) (f : HeldFrom) :
    (s.holdLane l x r f).pending = s.pending := State.pending_alertOrigin _ _ _

theorem State.pending_takeCause (s : State) (c : Cause) (p : Option Port) : (s.takeCause c p).pending = s.pending := by
  rw [State.takeCause_frame]

theorem State.pending_takeSource (s : State) (c : Cause) (on : Bool) : (s.takeSource c on).pending = s.pending := by
  rw [State.takeSource_frame]

theorem State.pending_endLanes (s : State) (r : EndReason) : (s.endLanes r).pending = s.pending := by
  rw [State.endLanes_frame]

theorem State.pending_stopRun (s : State) (d : Nat) : (s.stopRun d).pending = s.pending := by rw [State.stopRun_eq]

theorem State.pending_stopAny (s : State) : s.stopAny.pending = s.pending := by
  unfold State.stopAny
  split
  · exact s.pending_stopRun _
  · rfl

theorem State.pending_writeSet (s : State) (c : Channel) (q : ParamSet) : (s.writeSet c q).pending = s.pending := by
  unfold State.writeSet
  dsimp only
  split_ifs <;> rfl

theorem State.pending_launch (s : State) (p : Port) (n : Nat) (q : Program) (chans : ChannelSet) (l : LaneId) :
    (s.launch p n q chans l).pending = s.pending := by
  unfold State.launch
  split
  · unfold State.enterBetween
    dsimp only
    split
    · exact s.pending_holdLane _ _ _ _
    · rfl
  · rfl

theorem tick_pending (o : TickOrder) (s : State) : (tick o s).st.pending = s.pending := by
  obtain ⟨-, -, -, -, -, -, -, -, pending⟩ := tick_kept o s
  exact pending

theorem tickWhen_pending (e : TickEvent) (o : TickOrder) (s : State) : (tickWhen e o s).pending = s.pending := by
  obtain ⟨-, -, -, -, -, -, -, -, pending⟩ := tickWhen_kept e o s
  exact pending

/-! ### The verdict of each command -/

theorem verdict_setAlertMask (s : State) (p : Port) (mask : Nat) : s.Verdict (s.setAlertMask p mask) := by
  unfold State.setAlertMask
  split
  · exact .stands s _
  · exact .takes rfl (Reply.ok_taken _)

theorem verdict_masterClear (s : State) (p : Port) : s.Verdict (s.masterClear p) := by
  refine .takes ?_ (Reply.ok_taken _)
  calc (((s.endLanes .cleared).takeCause .masterClear (some p)).stopAny).emptyLoading.clearLines.pending
      = (((s.endLanes .cleared).takeCause .masterClear (some p)).stopAny).pending := rfl
    _ = s.pending := by rw [State.pending_stopAny, State.pending_takeCause, State.pending_endLanes]

theorem verdict_setChannel (s : State) (ch : Nat) (r : RawParams) : s.Verdict (s.setChannel ch r) := by
  unfold State.setChannel
  split
  · exact .stands s _
  · split_ifs
    · exact .stands s _
    · exact .stands s _
    · exact .takes (s.pending_writeSet _ _) (Reply.taken_taken _ _)
    · exact .stands s _

theorem verdict_getChannel (s : State) (ch clear : Nat) : s.Verdict (s.getChannel ch clear) := by
  unfold State.getChannel
  split
  · refine .takes ?_ (Reply.ok_taken _)
    split_ifs <;> rfl
  · exact .stands s _

theorem verdict_relink (s : State) (ch : Nat) (change : Chan → Chan) : s.Verdict (s.relink ch change) := by
  unfold State.relink
  split
  · exact .stands s _
  · split
    · exact .stands s _
    · exact .takes rfl (Reply.ok_taken _)

theorem verdict_beginTable (s : State) (p : Port) (n : Nat) : s.Verdict (s.beginTable p n) := by
  unfold State.beginTable
  split_ifs
  · exact .stands s _
  · exact .stands s _
  · exact .stands s _
  · exact .takes rfl (Reply.ok_taken _)

theorem verdict_writeTableChunk (s : State) (p : Port) (n c : Nat) (entries : List Int) :
    s.Verdict (s.writeTableChunk p n c entries) := by
  unfold State.writeTableChunk
  split
  · exact .stands s _
  · split
    · exact .stands s _
    · exact .stands s _
    · split
      · exact .stands s _
      · exact .takes rfl (Reply.taken_taken _ _)

theorem verdict_commitTable (s : State) (p : Port) (n : Nat) : s.Verdict (s.commitTable p n) := by
  unfold State.commitTable
  split
  · exact .stands s _
  · split
    · exact .stands s _
    · exact .stands s _
    · split_ifs
      · exact .stands s _
      · exact .stands s _
      · exact .takes rfl (Reply.ok_taken _)

theorem verdict_discardTable (s : State) (n : Nat) : s.Verdict (s.discardTable n) := by
  unfold State.discardTable
  split_ifs
  · exact .stands s _
  · exact .stands s _
  · exact .takes rfl (Reply.ok_taken _)

theorem verdict_writeOverlaySet (s : State) (n count : Nat) (slots : List OverlaySlot) :
    s.Verdict (s.writeOverlaySet n count slots) := by
  unfold State.writeOverlaySet
  split_ifs
  · exact .stands s _
  · exact .stands s _
  · exact .takes rfl (Reply.taken_taken _ _)

theorem verdict_writeStep (s : State) (n : Nat) (r : RawStep) : s.Verdict (s.writeStep n r) := by
  unfold State.writeStep
  split
  · exact .stands s _
  · split_ifs
    · exact .stands s _
    · exact .takes rfl (Reply.taken_taken _ _)
    · exact .stands s _

theorem verdict_clearStep (s : State) (n : Nat) : s.Verdict (s.clearStep n) := by
  unfold State.clearStep
  split_ifs
  · exact .stands s _
  · exact .takes rfl (Reply.ok_taken _)
  · exact .stands s _

theorem verdict_defineProgram (s : State) (n first count policy : Nat) :
    s.Verdict (s.defineProgram n first count policy) := by
  unfold State.defineProgram
  split
  · exact .stands s _
  · split_ifs
    · exact .stands s _
    · exact .takes rfl (Reply.ok_taken _)
    · exact .stands s _

theorem verdict_undefineProgram (s : State) (n : Nat) : s.Verdict (s.undefineProgram n) := by
  unfold State.undefineProgram
  split_ifs
  · exact .stands s _
  · exact .takes rfl (Reply.ok_taken _)
  · exact .stands s _

theorem verdict_startOn (s : State) (p : Port) (n : Nat) (q : Program) (chans : ChannelSet) :
    s.Verdict (s.startOn p n q chans) := by
  unfold State.startOn
  split
  · exact .stands s _
  · split
    · exact .stands s _
    · split
      · exact .stands s _
      · split
        · exact .stands s _
        · exact .takes (s.pending_launch _ _ _ _ _) (Reply.ok_taken _)

theorem verdict_start (s : State) (p : Port) (n m : Nat) : s.Verdict (s.start p n m) := by
  unfold State.start
  split
  · exact .stands s _
  · split
    · split
      · exact .stands s _
      · exact verdict_startOn s p n _ _
    · exact .stands s _

theorem verdict_holdCommand (s : State) (n : Nat) : s.Verdict (s.holdCommand n) := by
  unfold State.holdCommand
  split
  · exact .stands s _
  · split
    · exact .takes (s.pending_holdLane _ _ _ _) (Reply.ok_taken _)
    · exact .stands s _

theorem verdict_resumeCommand (s : State) (n : Nat) : s.Verdict (s.resumeCommand n) := by
  unfold State.resumeCommand
  split
  · exact .stands s _
  · split
    · exact .takes rfl (Reply.ok_taken _)
    · exact .stands s _

theorem verdict_releaseCommand (s : State) (n : Nat) : s.Verdict (s.releaseCommand n) := by
  unfold State.releaseCommand
  split
  · exact .stands s _
  · split
    · exact .takes rfl (Reply.ok_taken _)
    · exact .stands s _

theorem verdict_abortCommand (s : State) (p : Port) (n : Nat) : s.Verdict (s.abortCommand p n) := by
  unfold State.abortCommand
  split
  · exact .stands s _
  · split
    · exact .stands s _
    · exact .takes rfl (Reply.ok_taken _)

theorem verdict_changeKey (s : State) (key : Nat) (b : Bool) : s.Verdict (s.changeKey key b) := by
  unfold State.changeKey
  split
  · exact .stands s _
  · exact .takes (s.pending_setKey _ _) (Reply.ok_taken _)

theorem verdict_defineDescriptor (s : State) (d : Nat) (r : RawDescriptor) : s.Verdict (s.defineDescriptor d r) := by
  unfold State.defineDescriptor
  split
  · exact .stands s _
  · split_ifs
    · exact .stands s _
    · exact .takes rfl (Reply.taken_taken _ _)
    · exact .stands s _

theorem verdict_undefineDescriptor (s : State) (d : Nat) : s.Verdict (s.undefineDescriptor d) := by
  unfold State.undefineDescriptor
  split_ifs
  · exact .stands s _
  · exact .takes rfl (Reply.ok_taken _)
  · exact .stands s _

theorem verdict_startCapture (s : State) (p : Port) (d : Nat) : s.Verdict (s.startCapture p d) := by
  unfold State.startCapture
  split_ifs
  · exact .stands s _
  · exact .takes rfl (Reply.ok_taken _)
  · exact .stands s _

theorem verdict_stopCapture (s : State) : s.Verdict s.stopCapture := by
  unfold State.stopCapture
  split
  · exact .takes (s.pending_stopRun _) (Reply.ok_taken _)
  · exact .stands s _

theorem verdict_restart (s : State) : s.Verdict s.restart := by
  unfold State.restart
  split_ifs
  · exact .stands s _
  · exact .stands s _
  · exact .takes rfl (Reply.ok_taken _)

theorem verdict_getLink (s : State) (link clear : Nat) : s.Verdict (s.getLink link clear) := by
  unfold State.getLink
  split
  · refine .takes ?_ (Reply.ok_taken _)
    split_ifs <;> rfl
  · exact .stands s _

/-- The command is answered at port `p` with a verdict of its block. -/
def AnsweredAt (p : Port) (i : Instr) (s : State) : Prop :=
  ∃ (code : Nat) (v : State × Reply), exec i s = .next (State.answer p code v) ∧ s.Verdict v

/-- Every port command is answered in its port with the verdict of the block that owns it (R172, R174). -/
theorem answeredAt_of_portOf {i : Instr} {p : Port} (sent : portOf i = some p) (s : State) : AnsweredAt p i s := by
  cases i with
  | nop => cases sent; exact ⟨_, _, rfl, .stands s _⟩
  | identify => cases sent; exact ⟨_, _, rfl, .stands s _⟩
  | getAlerts => cases sent; exact ⟨_, _, rfl, .takes rfl (Reply.ok_taken _)⟩
  | setAlertMask => cases sent; exact ⟨_, _, rfl, verdict_setAlertMask s _ _⟩
  | masterClear => cases sent; exact ⟨_, _, rfl, verdict_masterClear s _⟩
  | setChannel => cases sent; exact ⟨_, _, rfl, verdict_setChannel s _ _⟩
  | getChannel => cases sent; exact ⟨_, _, rfl, verdict_getChannel s _ _⟩
  | linkChannelFollow => cases sent; exact ⟨_, _, rfl, verdict_relink s _ _⟩
  | linkChannelUnlink => cases sent; exact ⟨_, _, rfl, verdict_relink s _ _⟩
  | beginTable => cases sent; exact ⟨_, _, rfl, verdict_beginTable s _ _⟩
  | writeTableChunk => cases sent; exact ⟨_, _, rfl, verdict_writeTableChunk s _ _ _ _⟩
  | commitTable => cases sent; exact ⟨_, _, rfl, verdict_commitTable s _ _⟩
  | discardTable => cases sent; exact ⟨_, _, rfl, verdict_discardTable s _⟩
  | readTableChunk => cases sent; exact ⟨_, _, rfl, .stands s _⟩
  | getTableState => cases sent; exact ⟨_, _, rfl, .stands s _⟩
  | writeOverlaySet => cases sent; exact ⟨_, _, rfl, verdict_writeOverlaySet s _ _ _⟩
  | readOverlaySet => cases sent; exact ⟨_, _, rfl, .stands s _⟩
  | writeStep => cases sent; exact ⟨_, _, rfl, verdict_writeStep s _ _⟩
  | readStep => cases sent; exact ⟨_, _, rfl, .stands s _⟩
  | clearStep => cases sent; exact ⟨_, _, rfl, verdict_clearStep s _⟩
  | writeProgramDefine => cases sent; exact ⟨_, _, rfl, verdict_defineProgram s _ _ _ _⟩
  | writeProgramUndefine => cases sent; exact ⟨_, _, rfl, verdict_undefineProgram s _⟩
  | readProgram => cases sent; exact ⟨_, _, rfl, .stands s _⟩
  | start => cases sent; exact ⟨_, _, rfl, verdict_start s _ _ _⟩
  | hold => cases sent; exact ⟨_, _, rfl, verdict_holdCommand s _⟩
  | resume => cases sent; exact ⟨_, _, rfl, verdict_resumeCommand s _⟩
  | release => cases sent; exact ⟨_, _, rfl, verdict_releaseCommand s _⟩
  | abort => cases sent; exact ⟨_, _, rfl, verdict_abortCommand s _ _⟩
  | getLane => cases sent; exact ⟨_, _, rfl, .stands s _⟩
  | setHoldKey => cases sent; exact ⟨_, _, rfl, verdict_changeKey s _ _⟩
  | clearHoldKey => cases sent; exact ⟨_, _, rfl, verdict_changeKey s _ _⟩
  | getMeasurement => cases sent; exact ⟨_, _, rfl, .stands s _⟩
  | writeDescriptorDefine => cases sent; exact ⟨_, _, rfl, verdict_defineDescriptor s _ _⟩
  | writeDescriptorUndefine => cases sent; exact ⟨_, _, rfl, verdict_undefineDescriptor s _⟩
  | readDescriptor => cases sent; exact ⟨_, _, rfl, .stands s _⟩
  | startCapture => cases sent; exact ⟨_, _, rfl, verdict_startCapture s _ _⟩
  | stopCapture => cases sent; exact ⟨_, _, rfl, verdict_stopCapture s⟩
  | readCapture => cases sent; exact ⟨_, _, rfl, .stands s _⟩
  | getCapture => cases sent; exact ⟨_, _, rfl, .stands s _⟩
  | trip => cases sent; exact ⟨_, _, rfl, .takes (s.pending_takeCause _ _) (Reply.ok_taken _)⟩
  | restart => cases sent; exact ⟨_, _, rfl, verdict_restart s⟩
  | getTrip => cases sent; exact ⟨_, _, rfl, .stands s _⟩
  | getLink => cases sent; exact ⟨_, _, rfl, verdict_getLink s _ _⟩
  | _ => cases sent

/-! ### Every command -/

/-- The command answers a next state with the queue of `s`. -/
def LeavesQueue (i : Instr) (s : State) : Prop := ∃ t : State, exec i s = .next t ∧ t.pending = s.pending

theorem leavesQueue_of_portOf {i : Instr} {p : Port} (sent : portOf i = some p) (s : State) : LeavesQueue i s := by
  obtain ⟨code, v, answer, verdict⟩ := answeredAt_of_portOf sent s
  exact ⟨_, answer, verdict.queue⟩

/-- A deselect takes a port command as its row (R174). -/
theorem takeCommand_of_portOf {i : Instr} {p : Port} (sent : portOf i = some p) (s : State) :
    takeCommand i s = exec i s := by
  cases i <;> cases sent <;> rfl

theorem takeCommand_of_portOf_none {i : Instr} (event : portOf i = none) (s : State) : takeCommand i s = .next s := by
  cases i <;> cases event <;> rfl

theorem takeCommand_queue (i : Instr) (s : State) : ∃ t : State, takeCommand i s = .next t ∧ t.pending = s.pending := by
  cases port : portOf i with
  | some p =>
    rw [takeCommand_of_portOf port]
    exact leavesQueue_of_portOf port s
  | none => exact ⟨s, takeCommand_of_portOf_none port s, rfl⟩

theorem leavesQueue_frameError (p : Port) (s : State) : LeavesQueue (.frameError p) s := by
  simp only [LeavesQueue, exec, execFrameError]
  split
  · split
    · exact ⟨_, rfl, rfl⟩
    · split
      · exact takeCommand_queue _ s
      · exact ⟨_, rfl, rfl⟩
  · exact ⟨s, rfl, rfl⟩

theorem leavesQueue_spiByteCompleted (p : Port) (b : Byte) (s : State) : LeavesQueue (.spiByteCompleted p b) s := by
  cases receiving : (s.ports.get p).receiving with
  | false => exact ⟨s, exec_spiByteCompleted_of_deselected b receiving, rfl⟩
  | true => exact ⟨_, exec_spiByteCompleted_of_receiving b receiving, rfl⟩

/-- An event that no port sends: a pin, a link, a tick or a byte of a transaction. -/
theorem leavesQueue_of_portOf_none {i : Instr} (event : portOf i = none) (s : State) : LeavesQueue i s := by
  cases i with
  | resetNAssertion low => exact ⟨_, rfl, rfl⟩
  | sampleEvent o => exact ⟨_, rfl, tick_pending o s⟩
  | levelRampEnd c o => exact ⟨_, rfl, tickWhen_pending _ o s⟩
  | frequencyRampEnd c o => exact ⟨_, rfl, tickWhen_pending _ o s⟩
  | linkLost k o => exact ⟨_, rfl, tickWhen_pending _ o s⟩
  | linkRecovered k o => exact ⟨_, rfl, tickWhen_pending _ o s⟩
  | statusFrame k chars stops => exact ⟨_, rfl, rfl⟩
  | truncated c o => exact ⟨_, rfl, tickWhen_pending _ o s⟩
  | markerPulseEnd m o => exact ⟨_, rfl, tickWhen_pending _ o s⟩
  | dwellEnd l o => exact ⟨_, rfl, tickWhen_pending _ o s⟩
  | waitMet l o => exact ⟨_, rfl, tickWhen_pending _ o s⟩
  | waitTimeout l o => exact ⟨_, rfl, tickWhen_pending _ o s⟩
  | decimationPass o => exact ⟨_, rfl, tickWhen_pending _ o s⟩
  | capturePassFull o => exact ⟨_, rfl, tickWhen_pending _ o s⟩
  | tripNAsserted => exact ⟨_, rfl, s.pending_takeSource _ _⟩
  | tripNReleased => exact ⟨_, rfl, s.pending_takeSource _ _⟩
  | spiSelect p => exact ⟨_, rfl, rfl⟩
  | frameError p => exact leavesQueue_frameError p s
  | spiByteCompleted p b => exact leavesQueue_spiByteCompleted p b s
  | _ => cases event

/-- Settles O2: a port command by its verdict, an event by its work. -/
theorem everyCommandAnswersNext : Obligations.EveryCommandAnswersNext := by
  intro i s
  cases port : portOf i with
  | some p => exact leavesQueue_of_portOf port s
  | none => exact leavesQueue_of_portOf_none port s

/-- Settles O13: the response of a refusal is left in the state that its verdict leaves whole. -/
theorem refusedCommandChangesNothing : Obligations.RefusedCommandChangesNothing := by
  intro i p s t sent taken notOk notClamped
  obtain ⟨code, v, answer, verdict⟩ := answeredAt_of_portOf sent s
  obtain rfl := Host.Outcome.next.inj (answer.symm.trans taken)
  have holder : ((State.answer p code v).ports.get p).holder = ⟨v.2.status, BitVec.ofNat 8 code, v.2.body⟩ := by
    rw [State.answer, State.hold_get_self]
  rw [holder] at notOk notClamped ⊢
  rw [State.answer, verdict.refused fun accepted => accepted.elim notOk notClamped]

end Sys2Proof.Machine
end

section
/-! PROOF. The bytes of a command are read back as the command (R173, R176), and so a deselect that finds them runs it. An
item is read at its place once the items before it are passed (`numAt_append`), and there it gives its number
(`numAt_numBytes_append`), since well-formed operands fit their bytes. -/

namespace Sys2Proof.Machine

/-! ### Items at their place (R173) -/

/-- An item is read past the items before it. -/
theorem numAt_append {x y : List Byte} {i k : Nat} (past : x.length ≤ i) :
    numAt (x ++ y) i k = numAt y (i - x.length) k := by
  rw [numAt, numAt, List.drop_append, List.drop_of_length_le past, List.nil_append]

theorem intAt_append {x y : List Byte} {i k : Nat} (past : x.length ≤ i) :
    intAt (x ++ y) i k = intAt y (i - x.length) k := by
  rw [intAt, intAt, List.drop_append, List.drop_of_length_le past, List.nil_append]

/-- The item at the front gives its number, when its bytes hold it. -/
theorem numAt_numBytes_append {k n : Nat} (fits : n < 256 ^ k) (y : List Byte) :
    numAt (numBytes k n ++ y) 0 k = n := by
  rw [numAt, List.drop_zero, List.take_left' (length_numBytes k n), bytesNum_numBytes, Nat.mod_eq_of_lt fits]

theorem numAt_numBytes {k n : Nat} (fits : n < 256 ^ k) : numAt (numBytes k n) 0 k = n := by
  rw [← List.append_nil (numBytes k n), numAt_numBytes_append fits]

/-- A byte is an item of one byte; so read, it is passed and found as the longer ones are. -/
theorem byteItem_eq (n : Nat) : byteItem n = numBytes 1 n := by simp [byteItem, numBytes]

theorem intAt_intBytes_append {v : Int} (low : -32768 ≤ v) (high : v ≤ 32767) (y : List Byte) :
    intAt (intBytes 2 v ++ y) 0 2 = v := by
  rw [intAt, List.drop_zero, List.take_left' (length_intBytes 2 v), bytesInt_intBytes 2 v (by omega) (by omega)]

/-! ### The records that a body carries -/

theorem readParams_paramBody {r : RawParams} (fits : r.wf = true) : readParams (paramBody r) = r := by
  simp only [RawParams.wf, Bool.and_eq_true, decide_eq_true_iff] at fits
  simp [readParams, paramBody, byteItem_eq, numAt_append, intAt_append, numAt_numBytes_append, numAt_numBytes,
    intAt_intBytes_append, fits]

theorem readDescriptorBody_descriptorBody {r : RawDescriptor} (fits : r.wf = true) :
    readDescriptorBody (descriptorBody r) = r := by
  simp only [RawDescriptor.wf, Bool.and_eq_true, decide_eq_true_iff] at fits
  simp [readDescriptorBody, descriptorBody, byteItem_eq, numAt_append, numAt_numBytes_append, numAt_numBytes, fits]

theorem readStepBody_stepBody {r : RawStep} (fits : r.wf = true) : readStepBody (stepBody r) = r := by
  simp only [RawStep.wf, Bool.and_eq_true, decide_eq_true_iff] at fits
  simp [readStepBody, stepBody, byteItem_eq, numAt_append, intAt_append, numAt_numBytes_append, numAt_numBytes,
    intAt_intBytes_append, fits]

theorem entriesBody_cons (v : Int) (vs : List Int) : entriesBody (v :: vs) = intBytes 2 v ++ entriesBody vs := rfl

theorem slotsBody_cons (t : OverlaySlot) (ts : List OverlaySlot) : slotsBody (t :: ts)
    = (byteItem t.order ++ numBytes 2 t.amplitude ++ numBytes 2 t.phase) ++ slotsBody ts := rfl

theorem readEntries_entriesBody {entries : List Int} (fits : entries.all fitsCode = true) :
    readEntries entries.length (entriesBody entries) = entries := by
  induction entries with
  | nil => rfl
  | cons v vs ih =>
    simp only [List.all_cons, Bool.and_eq_true, decide_eq_true_iff] at fits
    obtain ⟨⟨low, high⟩, rest⟩ := fits
    rw [entriesBody_cons, List.length_cons, readEntries, intAt_intBytes_append low high,
      List.drop_left' (length_intBytes 2 v), ih rest]

theorem readSlots_slotsBody {slots : List OverlaySlot} (fits : slots.all OverlaySlot.wf = true) :
    readSlots slots.length (slotsBody slots) = slots := by
  induction slots with
  | nil => rfl
  | cons t ts ih =>
    simp only [List.all_cons, OverlaySlot.wf, Bool.and_eq_true, decide_eq_true_iff] at fits
    obtain ⟨⟨⟨order, amplitude⟩, phase⟩, rest⟩ := fits
    rw [slotsBody_cons, List.length_cons, readSlots, List.drop_left' (by simp), ih rest]
    simp [byteItem_eq, numAt_append, numAt_numBytes_append, order, amplitude, phase]

/-! ### Commands whose second byte chooses their form (R31, R69, R126) -/

theorem commandOf_link (p : Port) (b : List Byte) : commandOf p 0x12 b
    = if numAt b 1 1 = 0 then some (.linkChannelFollow p (numAt b 0 1) (numAt b 2 4))
      else if numAt b 1 1 = 1 then some (.linkChannelUnlink p (numAt b 0 1)) else none := by
  simp only [commandOf]
  split
  · rename_i form; rw [form]; rfl
  · rename_i form; rw [form]; rfl
  · rename_i follow unlink; rw [if_neg follow, if_neg unlink]

theorem commandOf_program (p : Port) (b : List Byte) : commandOf p 0x33 b
    = if numAt b 1 1 = 0 then some (.writeProgramDefine p (numAt b 0 1) (numAt b 2 1) (numAt b 3 2) (numAt b 5 1))
      else if numAt b 1 1 = 1 then some (.writeProgramUndefine p (numAt b 0 1)) else none := by
  simp only [commandOf]
  split
  · rename_i form; rw [form]; rfl
  · rename_i form; rw [form]; rfl
  · rename_i define undefine; rw [if_neg define, if_neg undefine]

theorem commandOf_descriptor (p : Port) (b : List Byte) : commandOf p 0x60 b
    = if numAt b 1 1 = 0 then some (.writeDescriptorDefine p (numAt b 0 1) (readDescriptorBody (b.drop 2)))
      else if numAt b 1 1 = 1 then some (.writeDescriptorUndefine p (numAt b 0 1)) else none := by
  simp only [commandOf]
  split
  · rename_i form; rw [form]; rfl
  · rename_i form; rw [form]; rfl
  · rename_i define undefine; rw [if_neg define, if_neg undefine]

/-! ### The command read back (R176) -/

/-- The body has the length of its code in the command table, and is read back as the command. -/
def ReadsBack (p : Port) (i : Instr) (code : Nat) (body : List Byte) : Prop :=
  commandLength code = some body.length ∧ commandOf p code body = some i

/-- A command of one byte. -/
theorem readsBack_byte {p : Port} {code n : Nat} (f : Nat → Instr) (fits : fitsByte n = true)
    (length : commandLength code = some 1) (spells : ∀ b : List Byte, commandOf p code b = some (f (numAt b 0 1))) :
    ReadsBack p (f n) code (byteItem n) := by
  refine ⟨length, ?_⟩
  rw [spells, byteItem_eq, numAt_numBytes (of_decide_eq_true fits)]

/-- A command of two bytes. -/
theorem readsBack_bytes {p : Port} {code n m : Nat} (f : Nat → Nat → Instr) (fits : (fitsByte n && fitsByte m) = true)
    (length : commandLength code = some 2)
    (spells : ∀ b : List Byte, commandOf p code b = some (f (numAt b 0 1) (numAt b 1 1))) :
    ReadsBack p (f n m) code (byteItem n ++ byteItem m) := by
  simp only [Bool.and_eq_true, decide_eq_true_iff] at fits
  refine ⟨length, ?_⟩
  simp [spells, byteItem_eq, numAt_append, numAt_numBytes_append, numAt_numBytes, fits]

theorem readsBack_setChannel (p : Port) {ch : Nat} {r : RawParams} (fits : (fitsByte ch && r.wf) = true) :
    ReadsBack p (.setChannel p ch r) 0x10 (byteItem ch ++ paramBody r) := by
  obtain ⟨channel, params⟩ := Bool.and_eq_true_iff.1 fits
  refine ⟨rfl, ?_⟩
  calc commandOf p 0x10 (byteItem ch ++ paramBody r)
      = some (.setChannel p (numAt (byteItem ch ++ paramBody r) 0 1) (readParams (paramBody r))) := rfl
    _ = some (.setChannel p ch r) := by
      rw [byteItem_eq, numAt_numBytes_append (of_decide_eq_true channel), readParams_paramBody params]

theorem readsBack_writeStep (p : Port) {n : Nat} {r : RawStep} (fits : (fitsByte n && r.wf) = true) :
    ReadsBack p (.writeStep p n r) 0x30 (byteItem n ++ stepBody r) := by
  obtain ⟨number, step⟩ := Bool.and_eq_true_iff.1 fits
  refine ⟨rfl, ?_⟩
  calc commandOf p 0x30 (byteItem n ++ stepBody r)
      = some (.writeStep p (numAt (byteItem n ++ stepBody r) 0 1) (readStepBody (stepBody r))) := rfl
    _ = some (.writeStep p n r) := by
      rw [byteItem_eq, numAt_numBytes_append (of_decide_eq_true number), readStepBody_stepBody step]

theorem readsBack_follow (p : Port) {ch offset : Nat} (fits : (fitsByte ch && decide (offset < 4294967296)) = true) :
    ReadsBack p (.linkChannelFollow p ch offset) 0x12 (byteItem ch ++ byteItem 0 ++ numBytes 4 offset) := by
  simp only [Bool.and_eq_true, decide_eq_true_iff] at fits
  refine ⟨rfl, ?_⟩
  simp [commandOf_link, byteItem_eq, numAt_append, numAt_numBytes_append, numAt_numBytes, fits]

theorem readsBack_unlink (p : Port) {ch : Nat} (fits : fitsByte ch = true) :
    ReadsBack p (.linkChannelUnlink p ch) 0x12 (byteItem ch ++ byteItem 1 ++ zeroBytes 4) := by
  rw [decide_eq_true_iff] at fits
  refine ⟨rfl, ?_⟩
  simp [commandOf_link, byteItem_eq, numAt_append, numAt_numBytes_append, fits]

theorem readsBack_defineProgram (p : Port) {n first count policy : Nat}
    (fits : (fitsByte n && fitsByte first && fitsWord count && fitsByte policy) = true) :
    ReadsBack p (.writeProgramDefine p n first count policy) 0x33
      (byteItem n ++ byteItem 0 ++ byteItem first ++ numBytes 2 count ++ byteItem policy) := by
  simp only [Bool.and_eq_true, decide_eq_true_iff] at fits
  refine ⟨rfl, ?_⟩
  simp [commandOf_program, byteItem_eq, numAt_append, numAt_numBytes_append, numAt_numBytes, fits]

theorem readsBack_undefineProgram (p : Port) {n : Nat} (fits : fitsByte n = true) :
    ReadsBack p (.writeProgramUndefine p n) 0x33 (byteItem n ++ byteItem 1 ++ zeroBytes 4) := by
  rw [decide_eq_true_iff] at fits
  refine ⟨rfl, ?_⟩
  simp [commandOf_program, byteItem_eq, numAt_append, numAt_numBytes_append, fits]

theorem readsBack_defineDescriptor (p : Port) {d : Nat} {r : RawDescriptor} (fits : (fitsByte d && r.wf) = true) :
    ReadsBack p (.writeDescriptorDefine p d r) 0x60 (byteItem d ++ byteItem 0 ++ descriptorBody r) := by
  obtain ⟨number, fields⟩ := Bool.and_eq_true_iff.1 fits
  rw [decide_eq_true_iff] at number
  have rest : (byteItem d ++ byteItem 0 ++ descriptorBody r).drop 2 = descriptorBody r := rfl
  refine ⟨rfl, ?_⟩
  rw [commandOf_descriptor, rest, readDescriptorBody_descriptorBody fields]
  simp [byteItem_eq, numAt_append, numAt_numBytes_append, number]

theorem readsBack_undefineDescriptor (p : Port) {d : Nat} (fits : fitsByte d = true) :
    ReadsBack p (.writeDescriptorUndefine p d) 0x60 (byteItem d ++ byteItem 1 ++ zeroBytes 16) := by
  rw [decide_eq_true_iff] at fits
  refine ⟨rfl, ?_⟩
  simp [commandOf_descriptor, byteItem_eq, numAt_append, numAt_numBytes_append, fits]

theorem length_entriesBody (entries : List Int) : (entriesBody entries).length = 2 * entries.length := by
  induction entries with
  | nil => rfl
  | cons v vs ih =>
    rw [entriesBody_cons, List.length_append, length_intBytes, ih, List.length_cons]
    omega

theorem length_slotsBody (slots : List OverlaySlot) : (slotsBody slots).length = 5 * slots.length := by
  induction slots with
  | nil => rfl
  | cons t ts ih =>
    rw [slotsBody_cons, List.length_append, ih, List.length_cons]
    simp only [List.length_append, length_byteItem, length_numBytes]
    omega

theorem readsBack_writeTableChunk (p : Port) {t c : Nat} {entries : List Int}
    (fits : (fitsByte t && fitsByte c && decide (entries.length = 32) && entries.all fitsCode) = true) :
    ReadsBack p (.writeTableChunk p t c entries) 0x21 (byteItem t ++ byteItem c ++ entriesBody entries) := by
  simp only [Bool.and_eq_true, decide_eq_true_iff] at fits
  obtain ⟨⟨⟨table, chunk⟩, length⟩, codes⟩ := fits
  have back := readEntries_entriesBody codes
  rw [length] at back
  refine ⟨?_, ?_⟩
  · simp [length_entriesBody, length, commandLength]
  calc commandOf p 0x21 (byteItem t ++ byteItem c ++ entriesBody entries)
      = some (.writeTableChunk p (numAt (byteItem t ++ byteItem c ++ entriesBody entries) 0 1)
          (numAt (byteItem t ++ byteItem c ++ entriesBody entries) 1 1) (readEntries 32 (entriesBody entries))) := rfl
    _ = some (.writeTableChunk p t c entries) := by
      rw [back]
      simp [byteItem_eq, numAt_append, numAt_numBytes_append, table, chunk]

theorem readsBack_writeOverlaySet (p : Port) {n count : Nat} {slots : List OverlaySlot}
    (fits : (fitsByte n && fitsByte count && decide (slots.length = 6) && slots.all OverlaySlot.wf) = true) :
    ReadsBack p (.writeOverlaySet p n count slots) 0x26 (byteItem n ++ byteItem count ++ slotsBody slots) := by
  simp only [Bool.and_eq_true, decide_eq_true_iff] at fits
  obtain ⟨⟨⟨number, terms⟩, length⟩, each⟩ := fits
  have back := readSlots_slotsBody each
  rw [length] at back
  refine ⟨?_, ?_⟩
  · simp [length_slotsBody, length, commandLength]
  calc commandOf p 0x26 (byteItem n ++ byteItem count ++ slotsBody slots)
      = some (.writeOverlaySet p (numAt (byteItem n ++ byteItem count ++ slotsBody slots) 0 1)
          (numAt (byteItem n ++ byteItem count ++ slotsBody slots) 1 1) (readSlots 6 (slotsBody slots))) := rfl
    _ = some (.writeOverlaySet p n count slots) := by
      rw [back]
      simp [byteItem_eq, numAt_append, numAt_numBytes_append, number, terms]

theorem readsBack_readCapture (p : Port) {address count : Nat} (fits : (fitsWord address && fitsByte count) = true) :
    ReadsBack p (.readCapture p address count) 0x64 (numBytes 2 address ++ byteItem count) := by
  simp only [Bool.and_eq_true, decide_eq_true_iff] at fits
  refine ⟨rfl, ?_⟩
  simp [commandOf, byteItem_eq, numAt_append, numAt_numBytes_append, numAt_numBytes, fits]

/-- Settles O8: each command by the items of its body. -/
theorem commandBodyReadsBack : Obligations.CommandBodyReadsBack := by
  intro i p code body fits sent carried
  cases i with
  | nop => cases sent; cases carried; exact ⟨rfl, rfl⟩
  | identify => cases sent; cases carried; exact ⟨rfl, rfl⟩
  | getAlerts => cases sent; cases carried; exact ⟨rfl, rfl⟩
  | setAlertMask => cases sent; cases carried; exact readsBack_byte (.setAlertMask p) fits rfl fun _ => rfl
  | masterClear => cases sent; cases carried; exact ⟨rfl, rfl⟩
  | setChannel => cases sent; cases carried; exact readsBack_setChannel p fits
  | getChannel => cases sent; cases carried; exact readsBack_bytes (.getChannel p) fits rfl fun _ => rfl
  | linkChannelFollow => cases sent; cases carried; exact readsBack_follow p fits
  | linkChannelUnlink => cases sent; cases carried; exact readsBack_unlink p fits
  | beginTable => cases sent; cases carried; exact readsBack_byte (.beginTable p) fits rfl fun _ => rfl
  | writeTableChunk => cases sent; cases carried; exact readsBack_writeTableChunk p fits
  | commitTable => cases sent; cases carried; exact readsBack_byte (.commitTable p) fits rfl fun _ => rfl
  | discardTable => cases sent; cases carried; exact readsBack_byte (.discardTable p) fits rfl fun _ => rfl
  | readTableChunk => cases sent; cases carried; exact readsBack_bytes (.readTableChunk p) fits rfl fun _ => rfl
  | getTableState => cases sent; cases carried; exact readsBack_byte (.getTableState p) fits rfl fun _ => rfl
  | writeOverlaySet => cases sent; cases carried; exact readsBack_writeOverlaySet p fits
  | readOverlaySet => cases sent; cases carried; exact readsBack_byte (.readOverlaySet p) fits rfl fun _ => rfl
  | writeStep => cases sent; cases carried; exact readsBack_writeStep p fits
  | readStep => cases sent; cases carried; exact readsBack_byte (.readStep p) fits rfl fun _ => rfl
  | clearStep => cases sent; cases carried; exact readsBack_byte (.clearStep p) fits rfl fun _ => rfl
  | writeProgramDefine => cases sent; cases carried; exact readsBack_defineProgram p fits
  | writeProgramUndefine => cases sent; cases carried; exact readsBack_undefineProgram p fits
  | readProgram => cases sent; cases carried; exact readsBack_byte (.readProgram p) fits rfl fun _ => rfl
  | start => cases sent; cases carried; exact readsBack_bytes (.start p) fits rfl fun _ => rfl
  | hold => cases sent; cases carried; exact readsBack_byte (.hold p) fits rfl fun _ => rfl
  | resume => cases sent; cases carried; exact readsBack_byte (.resume p) fits rfl fun _ => rfl
  | release => cases sent; cases carried; exact readsBack_byte (.release p) fits rfl fun _ => rfl
  | abort => cases sent; cases carried; exact readsBack_byte (.abort p) fits rfl fun _ => rfl
  | getLane => cases sent; cases carried; exact readsBack_byte (.getLane p) fits rfl fun _ => rfl
  | setHoldKey => cases sent; cases carried; exact readsBack_byte (.setHoldKey p) fits rfl fun _ => rfl
  | clearHoldKey => cases sent; cases carried; exact readsBack_byte (.clearHoldKey p) fits rfl fun _ => rfl
  | getMeasurement => cases sent; cases carried; exact readsBack_byte (.getMeasurement p) fits rfl fun _ => rfl
  | writeDescriptorDefine => cases sent; cases carried; exact readsBack_defineDescriptor p fits
  | writeDescriptorUndefine => cases sent; cases carried; exact readsBack_undefineDescriptor p fits
  | readDescriptor => cases sent; cases carried; exact readsBack_byte (.readDescriptor p) fits rfl fun _ => rfl
  | startCapture => cases sent; cases carried; exact readsBack_byte (.startCapture p) fits rfl fun _ => rfl
  | stopCapture => cases sent; cases carried; exact ⟨rfl, rfl⟩
  | readCapture => cases sent; cases carried; exact readsBack_readCapture p fits
  | getCapture => cases sent; cases carried; exact ⟨rfl, rfl⟩
  | trip => cases sent; cases carried; exact ⟨rfl, rfl⟩
  | restart => cases sent; cases carried; exact ⟨rfl, rfl⟩
  | getTrip => cases sent; cases carried; exact ⟨rfl, rfl⟩
  | getLink => cases sent; cases carried; exact readsBack_bytes (.getLink p) fits rfl fun _ => rfl
  | _ => cases sent

end Sys2Proof.Machine
end

section
/-! PROOF. The deselect judges the received frame (R171) and takes the command it spells (R174). The judgement is said
once per outcome of its four checks (`judgeFrame`), the deselect once per judgement (`exec_frameError`); a frame that
passes spells a command of the port unless its form byte names nothing (`commandOf_named`). -/

namespace Sys2Proof.Machine

/-! ### The command table (R176) -/

/-- The code table that the statements list is the one the judgement reads. -/
theorem commandTable_lookup (code : Nat) : commandTable.lookup code = commandLength code := by
  unfold commandLength
  split
  case h_41 =>
    rw [List.lookup_eq_none_iff]
    simp_all [commandTable]
  all_goals rfl

/-- A code of the table and its body length are each a byte. -/
theorem commandLength_lt {code k : Nat} (known : commandLength code = some k) : code < 256 ∧ k < 256 := by
  unfold commandLength at known
  split at known <;> cases known <;> decide

/-- The codes whose second body byte is a mode or a form (R31, R69, R126). -/
def HasForm (code : Nat) : Prop := code = 0x12 ∨ code = 0x33 ∨ code = 0x60

/-- A known code spells a command, but for a form byte that names nothing. -/
theorem commandOf_named {code k : Nat} (known : commandLength code = some k) (p : Port) {b : List Byte}
    (form : ¬ HasForm code ∨ numAt b 1 1 ≤ 1) : ∃ i : Instr, commandOf p code b = some i := by
  have named : HasForm code → numAt b 1 1 = 0 ∨ numAt b 1 1 = 1 := fun has => by
    have := form.resolve_left (not_not_intro has)
    omega
  unfold commandLength at known
  split at known
  case h_8 =>
    rw [commandOf_link]
    obtain zero | one := named (.inl rfl)
    · exact ⟨_, if_pos zero⟩
    · exact ⟨_, by rw [one]; rfl⟩
  case h_20 =>
    rw [commandOf_program]
    obtain zero | one := named (.inr (.inl rfl))
    · exact ⟨_, if_pos zero⟩
    · exact ⟨_, by rw [one]; rfl⟩
  case h_31 =>
    rw [commandOf_descriptor]
    obtain zero | one := named (.inr (.inr rfl))
    · exact ⟨_, if_pos zero⟩
    · exact ⟨_, by rw [one]; rfl⟩
  case h_41 => cases known
  all_goals exact ⟨_, rfl⟩

/-- A form byte past the two forms names nothing (log 16). -/
theorem commandOf_unnamed {code : Nat} (p : Port) {b : List Byte} (has : HasForm code) (form : 1 < numAt b 1 1) :
    commandOf p code b = none := by
  have zero : numAt b 1 1 ≠ 0 := by omega
  have one : numAt b 1 1 ≠ 1 := by omega
  obtain rfl | rfl | rfl := has
  · rw [commandOf_link, if_neg zero, if_neg one]
  · rw [commandOf_program, if_neg zero, if_neg one]
  · rw [commandOf_descriptor, if_neg zero, if_neg one]

/-- What a frame of port `p` spells is a command of port `p`. -/
theorem portOf_of_commandOf {p : Port} {code : Nat} {b : List Byte} {i : Instr} (named : commandOf p code b = some i) :
    portOf i = some p := by
  unfold commandOf at named
  split at named
  case h_8 => split at named <;> cases named <;> rfl
  case h_20 => split at named <;> cases named <;> rfl
  case h_31 => split at named <;> cases named <;> rfl
  case h_41 => cases named
  all_goals cases named; rfl

/-! ### The four checks (R171) -/

section

variable {frame : List Byte} {n k : Nat}

theorem judgeFrame_of_short (short : n < 2) : judgeFrame frame n = .error 0 := if_pos short

theorem judgeFrame_of_unknown (head : 2 ≤ n) (unknown : commandLength (frame.getD 0 0#8).toNat = none) :
    judgeFrame frame n = .error 1 := by
  rw [judgeFrame, if_neg (Nat.not_lt.2 head), unknown]

theorem judgeFrame_of_known (head : 2 ≤ n) (known : commandLength (frame.getD 0 0#8).toNat = some k) :
    judgeFrame frame n = if (frame.getD 1 0#8).toNat ≠ k then .error 2
      else if n < k + 2 then .error 0 else .ok ((frame.getD 0 0#8).toNat, (frame.drop 2).take k) := by
  rw [judgeFrame, if_neg (Nat.not_lt.2 head), known]

theorem judgeFrame_of_passes (known : commandLength (frame.getD 0 0#8).toNat = some k)
    (length : (frame.getD 1 0#8).toNat = k) (complete : k + 2 ≤ n) :
    judgeFrame frame n = .ok ((frame.getD 0 0#8).toNat, (frame.drop 2).take k) := by
  rw [judgeFrame_of_known (by omega) known, if_neg (not_not_intro length), if_neg (Nat.not_lt.2 complete)]

end

/-- The byte at position `i`, 0 past the end, is the one-byte item there. -/
theorem numAt_one (b : List Byte) (i : Nat) : numAt b i 1 = (b.getD i 0#8).toNat := by
  induction b generalizing i with
  | nil => simp [numAt, bytesNum]
  | cons x xs ih =>
    cases i with
    | zero => simp [numAt, bytesNum]
    | succ i => simpa [numAt] using ih i

/-- The form byte is byte 3 of the frame. -/
theorem numAt_form (frame : List Byte) {k : Nat} (hk : 2 ≤ k) :
    numAt ((frame.drop 2).take k) 1 1 = (frame.getD 3 0#8).toNat := by
  rw [numAt_one, List.getD_eq_getElem?_getD, List.getD_eq_getElem?_getD, List.getElem?_take_of_lt (by omega),
    List.getElem?_drop]

/-! ### The deselect (R170, R172, R174) -/

section

variable {p : Port} {s : State}

theorem exec_frameError_of_deselected (deselected : (s.ports.get p).receiving = false) :
    exec (.frameError p) s = .next s := if_neg (by rw [deselected]; decide)

theorem exec_frameError_of_rejected {reason : Nat} (receiving : (s.ports.get p).receiving = true)
    (rejected : judgeFrame (s.ports.get p).frame (s.ports.get p).count = .error reason) :
    exec (.frameError p) s
      = .next (s.hold p (frameErrorResponse (s.ports.get p).frame (s.ports.get p).count reason)) := by
  simp only [exec, execFrameError]
  rw [if_pos receiving, rejected]

theorem exec_frameError_of_named {code : Nat} {body : List Byte} {i : Instr}
    (receiving : (s.ports.get p).receiving = true)
    (passes : judgeFrame (s.ports.get p).frame (s.ports.get p).count = .ok (code, body))
    (named : commandOf p code body = some i) : exec (.frameError p) s = exec i s := by
  rw [← takeCommand_of_portOf (portOf_of_commandOf named)]
  simp only [exec, execFrameError]
  rw [if_pos receiving, passes]
  dsimp only
  rw [named]

theorem exec_frameError_of_unnamed {code : Nat} {body : List Byte} (receiving : (s.ports.get p).receiving = true)
    (passes : judgeFrame (s.ports.get p).frame (s.ports.get p).count = .ok (code, body))
    (unnamed : commandOf p code body = none) :
    exec (.frameError p) s = .next (s.answered p code .badArgument []) := by
  rw [← State.answer_refuse]
  simp only [exec, execFrameError]
  rw [if_pos receiving, passes]
  dsimp only
  rw [unnamed]

end

/-- The three codes with a form have room for it. -/
theorem two_le_of_hasForm {code k : Nat} (has : HasForm code) (known : commandLength code = some k) : 2 ≤ k := by
  obtain rfl | rfl | rfl := has <;> cases known <;> decide

theorem not_hasForm_iff (code : Nat) : ¬ HasForm code ↔ code ≠ 0x12 ∧ code ≠ 0x33 ∧ code ≠ 0x60 := by
  simp [HasForm]

/-- Settles O7: one outcome of the judgement per clause, and the command by its code and form byte. -/
theorem deselectJudgesFrame : Obligations.DeselectJudgesFrame := by
  refine fun p s => ⟨exec_frameError_of_deselected, fun receiving => ?_⟩
  dsimp only
  refine ⟨fun short => ?_, fun head unknown => ?_, fun k head known => ?_⟩
  · exact exec_frameError_of_rejected receiving (judgeFrame_of_short short)
  · rw [commandTable_lookup] at unknown
    exact exec_frameError_of_rejected receiving (judgeFrame_of_unknown head unknown)
  rw [commandTable_lookup] at known
  refine ⟨fun length => ?_, fun length short => ?_, fun length complete i named => ?_,
    fun length complete has form => ?_, fun length complete form => commandOf_named known p ?_⟩
  · exact exec_frameError_of_rejected receiving ((judgeFrame_of_known head known).trans (if_pos length))
  · exact exec_frameError_of_rejected receiving
      ((judgeFrame_of_known head known).trans ((if_neg (not_not_intro length)).trans (if_pos short)))
  · exact exec_frameError_of_named receiving (judgeFrame_of_passes known length complete) named
  · refine exec_frameError_of_unnamed receiving (judgeFrame_of_passes known length complete)
      (commandOf_unnamed p has ?_)
    rwa [numAt_form _ (two_le_of_hasForm has known)]
  · by_cases has : HasForm ((s.ports.get p).frame.getD 0 0#8).toNat
    · rw [numAt_form _ (two_le_of_hasForm has known)]
      exact form.imp_left (not_hasForm_iff _).2
    · exact .inl has

/-- A frame's own bytes pass the four checks, whatever number of further bytes was counted (R170, R171). -/
theorem judgeFrame_of_frame {code n : Nat} {body : List Byte} (known : commandLength code = some body.length)
    (complete : body.length + 2 ≤ n) :
    judgeFrame (BitVec.ofNat 8 code :: BitVec.ofNat 8 body.length :: body) n = .ok (code, body) := by
  obtain ⟨code_lt, length_lt⟩ := commandLength_lt known
  have code_eq : (BitVec.ofNat 8 code).toNat = code := by rw [BitVec.toNat_ofNat, Nat.mod_eq_of_lt code_lt]
  have length_eq : (BitVec.ofNat 8 body.length).toNat = body.length := by
    rw [BitVec.toNat_ofNat, Nat.mod_eq_of_lt length_lt]
  have passes := judgeFrame_of_passes (frame := BitVec.ofNat 8 code :: BitVec.ofNat 8 body.length :: body)
    (by rw [List.getD_cons_zero, code_eq, known]) length_eq complete
  rw [passes, List.getD_cons_zero, code_eq, List.drop_succ_cons, List.drop_succ_cons, List.drop_zero, List.take_length]

/-- Settles O9: the frame passes the judgement, and its body is read back as the command. -/
theorem deselectRunsTheCommandSent : Obligations.DeselectRunsTheCommandSent := by
  intro i p frame s fits sent spelled receiving found complete
  obtain ⟨⟨code, body⟩, carried, rfl⟩ := Option.map_eq_some_iff.1 spelled
  obtain ⟨known, named⟩ := commandBodyReadsBack i p code body fits sent carried
  refine exec_frameError_of_named receiving ?_ named
  rw [found]
  exact judgeFrame_of_frame known complete

end Sys2Proof.Machine
end

section
/-! PROOF. MASTER_CLEAR (R183): the lanes end first, so that its entry to TRIPPED finds none running
(`State.endLanes_of_idle`); then the run in progress is stopped, and the tables and lines are cleared. What each block
holds at the end is said one field at a time of `State.cleared`. -/

namespace Sys2Proof.Machine

/-! ### LOADING tables become EMPTY (R58) -/

theorem State.emptyLoading_of_ready {s : State} {n : Nat} (ready : s.tableState n = .ready) :
    s.emptyLoading.tableState n = .ready := by
  by_cases zero : n = 0
  · rw [State.tableState, if_pos zero]
  · rw [State.tableState, if_neg zero] at ready ⊢
    have found : Store.get s.tables n = some .ready := by
      cases record : Store.get s.tables n with
      | none => rw [record] at ready; cases ready
      | some x => rw [record] at ready; exact congrArg some ready
    rw [State.emptyLoading, Store.get_filter_of_get found rfl]
    rfl

theorem State.emptyLoading_ne_loading (s : State) (n : Nat) (q : Port) (cov : List Nat) :
    s.emptyLoading.tableState n ≠ .loading q cov := by
  rw [State.tableState]
  split_ifs
  · nofun
  · cases record : Store.get s.emptyLoading.tables n with
    | none => nofun
    | some x =>
      rintro rfl
      have kept := (List.mem_filter.1 (Store.mem_of_get record)).2
      cases kept

/-- A table that is not READY is LOADING or EMPTY, and is left EMPTY. -/
theorem State.emptyLoading_of_not_ready {s : State} (canonical : s.canonical) {n : Nat}
    (unready : s.tableState n ≠ .ready) : s.emptyLoading.tableState n = .empty := by
  obtain ⟨-, -, tables, -⟩ := canonical
  rw [State.emptyLoading_tableState s tables]
  cases table : s.tableState n with
  | empty => rfl
  | loading q cov => rfl
  | ready => exact absurd table unready

/-! ### The lanes end, then the entry finds none running (R104, R152) -/

/-- Without a running lane there is nothing to end. -/
theorem State.endLanes_of_idle {s : State} (idle : s.lanesIdle) (r : EndReason) : s.endLanes r = s := by
  have stands : ∀ l : LaneId, s.endLane r l = s := fun l =>
    s.endLane_of_idle r l ((Lane.running_eq_false_iff _).2 (idle l))
  rw [State.endLanes, stands, stands, stands]

/-- An entry that finds no lane running changes the trip unit, parks the frames and alerts the ports. -/
theorem State.enterTripped_of_idle {s : State} (idle : s.lanesIdle) (c : Cause) (p : Option Port) : s.enterTripped c p
    = ((s.setTrip { s.trip with state := .tripped, causes := CauseSet.empty.add c, first := ⟨c, p⟩,
                                outputs := PerChannel.all .parked }).parkFrames).alertBoth .trip := by
  unfold State.enterTripped
  dsimp only
  rw [State.endLanes_of_idle (by exact idle)]

/-- The lanes ended CLEARED and the cause taken: an entry to TRIPPED, or its record while TRIPPED. -/
def State.tripCleared (s : State) (p : Port) : State := (s.endLanes .cleared).takeCause .masterClear (some p)

section

variable {s : State} {p : Port}

theorem State.tripCleared_of_normal (normal : s.trip.state = .normal) : s.tripCleared p
    = (((s.endLanes .cleared).setTrip { s.trip with
        state := .tripped, causes := CauseSet.empty.add .masterClear, first := ⟨.masterClear, some p⟩,
        outputs := PerChannel.all .parked }).parkFrames).alertBoth .trip := by
  have trip : (s.endLanes .cleared).trip = s.trip := by rw [State.endLanes_frame]
  rw [State.tripCleared, State.takeCause_of_normal (by rw [trip, normal]),
    State.enterTripped_of_idle (s.endLanes_idle .cleared), trip]

theorem State.tripCleared_of_tripped (tripped : s.trip.state = .tripped) : s.tripCleared p
    = (s.endLanes .cleared).setTrip { s.trip with causes := s.trip.causes.add .masterClear } := by
  have trip : (s.endLanes .cleared).trip = s.trip := by rw [State.endLanes_frame]
  rw [State.tripCleared, State.takeCause_of_tripped (by rw [trip, tripped]), State.addCause, trip]

/-- The lanes and the channels are those of the endings. -/
theorem State.tripCleared_ends : (s.tripCleared p).lanes = (s.endLanes .cleared).lanes
    ∧ (s.tripCleared p).chans = (s.endLanes .cleared).chans := by
  have entered : ∀ (u : State) (x : TripUnit), (((u.setTrip x).parkFrames).alertBoth .trip).lanes = u.lanes
      ∧ (((u.setTrip x).parkFrames).alertBoth .trip).chans = u.chans := fun _ _ => ⟨rfl, rfl⟩
  have recorded : ∀ (u : State) (x : TripUnit), (u.setTrip x).lanes = u.lanes ∧ (u.setTrip x).chans = u.chans :=
    fun _ _ => ⟨rfl, rfl⟩
  cases state : s.trip.state with
  | normal => rw [State.tripCleared_of_normal state]; exact entered _ _
  | tripped => rw [State.tripCleared_of_tripped state]; exact recorded _ _

theorem State.tripCleared_frame : s.tripCleared p = { s with
    chans := (s.tripCleared p).chans, lanes := (s.tripCleared p).lanes, trip := (s.tripCleared p).trip,
    links := (s.tripCleared p).links, ports := (s.tripCleared p).ports } := by
  unfold State.tripCleared
  rw [State.takeCause_frame, State.endLanes_frame]

/-! ### The run in progress is stopped (R139) -/

theorem State.stopAny_of_no_pass (h : s.engine.current = none) : s.stopAny = s := by
  rw [State.stopAny, h]
  split
  · rename_i run; cases run
  · rfl

/-- A stop changes the capture engine, its completion records and the ports. -/
theorem State.stopAny_frame (s : State) : s.stopAny
    = { s with comps := s.stopAny.comps, engine := s.stopAny.engine, ports := s.stopAny.ports } := by
  unfold State.stopAny
  split
  · rw [State.stopRun_eq]
  · rfl

/-- The lanes, the channels, the trip unit and the links stand. -/
structure State.EntryStands (s t : State) : Prop where
  lanes : t.lanes = s.lanes
  chans : t.chans = s.chans
  trip : t.trip = s.trip
  links : t.links = s.links

theorem State.EntryStands.trans {s t u : State} (h : s.EntryStands t) (k : t.EntryStands u) : s.EntryStands u :=
  ⟨k.lanes.trans h.lanes, k.chans.trans h.chans, k.trip.trans h.trip, k.links.trans h.links⟩

theorem State.stopAny_stands (s : State) : s.EntryStands s.stopAny := by
  rw [State.stopAny_frame]
  exact ⟨rfl, rfl, rfl, rfl⟩

theorem State.stopAny_tables (s : State) : s.stopAny.tables = s.tables := by rw [State.stopAny_frame]

/-- The memories, the stores but that of the tables, the sense unit and the queue stand. -/
structure State.RestStands (s t : State) : Prop where
  wave : t.wave = s.wave
  overlays : t.overlays = s.overlays
  steps : t.steps = s.steps
  programs : t.programs = s.programs
  descs : t.descs = s.descs
  mem : t.mem = s.mem
  sense : t.sense = s.sense
  pending : t.pending = s.pending

theorem State.RestStands.trans {s t u : State} (h : s.RestStands t) (k : t.RestStands u) : s.RestStands u :=
  ⟨k.wave.trans h.wave, k.overlays.trans h.overlays, k.steps.trans h.steps, k.programs.trans h.programs,
    k.descs.trans h.descs, k.mem.trans h.mem, k.sense.trans h.sense, k.pending.trans h.pending⟩

theorem State.stopAny_rest (s : State) : s.RestStands s.stopAny := by
  rw [State.stopAny_frame]
  exact ⟨rfl, rfl, rfl, rfl, rfl, rfl, rfl, rfl⟩

theorem State.stopRun_capture (s : State) (d : Nat) :
    (s.stopRun d).engine
      = { s.engine with isActive := false, current := none, ends := min (s.engine.ends + 1) 65535 }
    ∧ (s.stopRun d).comps = Store.put s.comps d ⟨s.engine.writeIndex, .stopped, s.engine.run⟩ := by
  rw [State.stopRun_eq]
  exact ⟨rfl, rfl⟩

/-- A stop reads the capture engine and its completion records alone. -/
theorem State.stopAny_capture {u v : State} (engine : u.engine = v.engine) (comps : u.comps = v.comps) :
    u.stopAny.engine = v.stopAny.engine ∧ u.stopAny.comps = v.stopAny.comps := by
  unfold State.stopAny
  rw [engine]
  split
  · rename_i d _ _
    obtain ⟨engine_u, comps_u⟩ := u.stopRun_capture d
    obtain ⟨engine_v, comps_v⟩ := v.stopRun_capture d
    rw [engine_u, comps_u, engine_v, comps_v, engine, comps]
    exact ⟨rfl, rfl⟩
  · exact ⟨engine, comps⟩

end

/-! ### The alerts of the entry and of the stopped run (R139, R146, R178) -/

/-- The pending alerts with TRIP added when the port is told. -/
def Alerts.tripTold (x : Alerts) (told : Bool) : Alerts :=
  { x with kinds := { x.kinds with trip := x.kinds.trip || told } }

/-- The pending alerts with CAPTURE_ENDED added when the port is told. -/
def Alerts.captureTold (x : Alerts) (told : Bool) : Alerts :=
  { x with kinds := { x.kinds with captureEnded := x.kinds.captureEnded || told } }

/-- The stop of the run in progress tells port `q`: a pass runs, in a run that the port or a lane of its had started. -/
def Engine.stopTells (e : Engine) (q : Port) : Bool :=
  e.isActive && e.current.isSome && decide (e.originator.map Originator.toPort = some q)

theorem Engine.stopTells_iff (e : Engine) (q : Port) : e.stopTells q = true ↔ e.isActive = true ∧ e.current ≠ none
    ∧ ∃ o : Originator, e.originator = some o ∧ o.toPort = q := by
  simp [Engine.stopTells, Option.isSome_iff_ne_none, and_assoc]

theorem State.stopRun_port (s : State) (d : Nat) (q : Port) : (s.stopRun d).ports.get q
    = { s.ports.get q with
        alerts := (s.ports.get q).alerts.captureTold (decide (s.engine.originator.map Originator.toPort = some q)) } := by
  rw [State.stopRun, State.endRun, State.alertOrigin_port]
  by_cases told : s.engine.originator.map Originator.toPort = some q
  · rw [if_pos (by exact told), decide_eq_true told]
    simp [Alerts.captureTold, addAlert, State.closePass]
  · rw [if_neg (by exact told), decide_eq_false told]
    simp [Alerts.captureTold, State.closePass]

theorem State.stopAny_port (s : State) (q : Port) : s.stopAny.ports.get q
    = { s.ports.get q with alerts := (s.ports.get q).alerts.captureTold (s.engine.stopTells q) } := by
  have untold : ∀ x : Alerts, x.captureTold false = x := fun x => by simp [Alerts.captureTold]
  cases active : s.engine.isActive with
  | false => rw [s.stopAny_idle active, Engine.stopTells, active, Bool.false_and, Bool.false_and, untold]
  | true =>
    cases current : s.engine.current with
    | none =>
      rw [s.stopAny_of_no_pass current, Engine.stopTells, current, Option.isSome_none, Bool.and_false, Bool.false_and,
        untold]
    | some d =>
      rw [s.stopAny_active active current, State.stopRun_port, Engine.stopTells, active, current, Option.isSome_some,
        Bool.and_self, Bool.true_and]

theorem State.tripCleared_port (s : State) (p q : Port) : (s.tripCleared p).ports.get q
    = { s.ports.get q with alerts := (s.endedAlerts q).tripTold (s.trip.state == .normal) } := by
  have entered : ∀ (u : State) (x : TripUnit), (((u.setTrip x).parkFrames).alertBoth .trip).ports.get q
      = { u.ports.get q with alerts := addAlert (u.ports.get q).alerts .trip } := fun u x => State.alertBoth_get _ _ q
  have recorded : ∀ (u : State) (x : TripUnit), (u.setTrip x).ports = u.ports := fun _ _ => rfl
  have told : ∀ x : Alerts, x.tripTold true = addAlert x .trip := fun x => by simp [Alerts.tripTold, addAlert]
  have untold : ∀ x : Alerts, x.tripTold false = x := fun x => by simp [Alerts.tripTold]
  cases state : s.trip.state with
  | normal =>
    rw [State.tripCleared_of_normal state, entered, State.endLanes_port, ← told]
    rfl
  | tripped =>
    have normal : (TripState.tripped == TripState.normal) = false := rfl
    rw [State.tripCleared_of_tripped state, recorded, State.endLanes_port, normal, untold]

/-! ### The block after MASTER_CLEAR (R183) -/

/-- The block as MASTER_CLEAR leaves it, before its answer. -/
def State.cleared (s : State) (p : Port) : State := (s.masterClear p).1

/-- The answer names the lanes that ran, the run that was stopped and the entry made (R183). -/
theorem exec_masterClear (p : Port) (s : State) : exec (.masterClear p) s = .next ((s.cleared p).answered p 0x0F .ok
    [BitVec.ofNat 8 (laneBits ⟨(s.lanes.n0.state != .idle), (s.lanes.n1.state != .idle), (s.lanes.n2.state != .idle)⟩),
     if s.engine.isActive then 1#8 else 0#8, if s.trip.state = .normal then 1#8 else 0#8]) := by
  have answer : exec (.masterClear p) s = .next ((s.cleared p).answered p 0x0F .ok
      (byteItem (laneBits s.runningLanes) ++ flagItem s.engine.isActive ++ flagItem (s.trip.state == .normal))) := rfl
  rw [answer]
  cases s.trip.state <;> rfl

section

variable (s : State) (p : Port)

theorem State.cleared_eq : s.cleared p = ((s.tripCleared p).stopAny).emptyLoading.clearLines := rfl

theorem State.tripCleared_capture : (s.tripCleared p).engine = s.engine ∧ (s.tripCleared p).comps = s.comps := by
  rw [State.tripCleared_frame]
  exact ⟨rfl, rfl⟩

/-- What the endings and the entry leave of the lanes, the channels, the trip unit and the links reaches the end. -/
theorem State.cleared_stands : (s.tripCleared p).EntryStands (s.cleared p) := by
  have lines : ∀ u : State, u.EntryStands u.emptyLoading.clearLines := fun _ => ⟨rfl, rfl, rfl, rfl⟩
  exact (State.stopAny_stands _).trans (lines _)

theorem State.cleared_lane (l : LaneId) : (s.cleared p).lanes.get l = (s.lanes.get l).ended .cleared := by
  rw [(s.cleared_stands p).lanes, (State.tripCleared_ends).1, State.endLanes_get, State.endLane_lane]

theorem State.cleared_chan (c : Channel) : (s.cleared p).chans.get c = s.endedChan c := by
  rw [(s.cleared_stands p).chans, (State.tripCleared_ends).2, State.endLanes_chan]

theorem State.cleared_tableState (n : Nat) : (s.cleared p).tableState n = s.emptyLoading.tableState n := by
  have lines : ∀ u v : State, u.tables = v.tables →
      u.emptyLoading.clearLines.tableState n = v.emptyLoading.tableState n := fun u v same => by
    unfold State.tableState State.clearLines State.emptyLoading
    rw [same]
  have entry : (s.tripCleared p).tables = s.tables := by rw [State.tripCleared_frame]
  exact lines _ _ ((State.stopAny_tables _).trans entry)

theorem State.cleared_port (q : Port) : (s.cleared p).ports.get q = { s.ports.get q with
    alerts := ((s.endedAlerts q).tripTold (s.trip.state == .normal)).captureTold (s.engine.stopTells q) } := by
  have ports : ∀ u : State, u.emptyLoading.clearLines.ports = u.ports := fun _ => rfl
  rw [State.cleared_eq, ports, State.stopAny_port, State.tripCleared_port, (s.tripCleared_capture p).1]

theorem State.cleared_rest : s.RestStands (s.cleared p) := by
  have entry : s.RestStands (s.tripCleared p) := by
    rw [State.tripCleared_frame]
    exact ⟨rfl, rfl, rfl, rfl, rfl, rfl, rfl, rfl⟩
  have lines : ∀ u : State, u.RestStands u.emptyLoading.clearLines := fun _ => ⟨rfl, rfl, rfl, rfl, rfl, rfl, rfl, rfl⟩
  exact (entry.trans (State.stopAny_rest _)).trans (lines _)

/-- The capture engine and its completion records are those of the stop alone. -/
theorem State.cleared_capture : (s.cleared p).engine = s.stopAny.engine ∧ (s.cleared p).comps = s.stopAny.comps := by
  have lines : ∀ u : State, u.emptyLoading.clearLines.engine = u.engine ∧ u.emptyLoading.clearLines.comps = u.comps :=
    fun _ => ⟨rfl, rfl⟩
  obtain ⟨engine, comps⟩ := s.tripCleared_capture p
  rw [State.cleared_eq, (lines _).1, (lines _).2]
  exact State.stopAny_capture engine comps

theorem State.cleared_trip_of_normal (normal : s.trip.state = .normal) : (s.cleared p).trip = { s.trip with
    state := .tripped, causes := { CauseSet.empty with masterClear := true }, first := ⟨.masterClear, some p⟩,
    outputs := ⟨.parked, .parked, .parked⟩ } := by
  rw [(s.cleared_stands p).trip, State.tripCleared_of_normal normal]
  rfl

theorem State.cleared_trip_of_tripped (tripped : s.trip.state = .tripped) : (s.cleared p).trip
    = { s.trip with causes := { s.trip.causes with masterClear := true } } := by
  rw [(s.cleared_stands p).trip, State.tripCleared_of_tripped tripped]
  rfl

/-- In either trip state the block is TRIPPED with the cause, and the active sources stand (R146, R152). -/
theorem State.cleared_trip : (s.cleared p).trip.state = .tripped ∧ (s.cleared p).trip.causes.masterClear = true
    ∧ (s.cleared p).trip.active = s.trip.active := by
  cases state : s.trip.state with
  | normal => rw [State.cleared_trip_of_normal s p state]; exact ⟨rfl, rfl, rfl⟩
  | tripped => rw [State.cleared_trip_of_tripped s p state]; exact ⟨state, rfl, rfl⟩

theorem State.cleared_links_of_tripped (tripped : s.trip.state = .tripped) : (s.cleared p).links = s.links := by
  rw [(s.cleared_stands p).links, State.tripCleared_of_tripped tripped, State.links_setTrip, State.endLanes_frame]

/-- An entry parks the frames that have not started (R160; log 4). -/
theorem State.cleared_links_of_normal (normal : s.trip.state = .normal) : s.framesParked (s.cleared p) := by
  have entered : ∀ (u : State) (x : TripUnit),
      (((u.setTrip x).parkFrames).alertBoth .trip).links = u.parkFrames.links := fun _ _ => rfl
  have links : (s.cleared p).links = s.parkFrames.links := by
    rw [(s.cleared_stands p).links, State.tripCleared_of_normal normal, entered, State.parkFrames, State.parkFrames,
      State.endLanes_frame]
  intro k
  rw [links]
  exact s.framesParked_parkFrames k

/-- What the ports gain: LANE_ENDED of the lanes each had started, TRIP of an entry, CAPTURE_ENDED of its run. -/
theorem State.cleared_alerts (q : Port) : ∃ (kinds : AlertKinds) (lanes : LaneSet),
    (s.cleared p).ports.get q
      = { s.ports.get q with alerts := { (s.ports.get q).alerts with kinds := kinds, ended := lanes } }
    ∧ (∀ l : LaneId, lanes.get l = true ↔ (s.ports.get q).alerts.ended.get l = true
        ∨ ((s.lanes.get l).state ≠ .idle ∧ (s.lanes.get l).origin = some q))
    ∧ (kinds.laneEnded = true ↔ (s.ports.get q).alerts.kinds.laneEnded = true
        ∨ ∃ l : LaneId, (s.lanes.get l).state ≠ .idle ∧ (s.lanes.get l).origin = some q)
    ∧ (kinds.trip = true ↔ (s.ports.get q).alerts.kinds.trip = true ∨ s.trip.state = .normal)
    ∧ (kinds.captureEnded = true ↔ (s.ports.get q).alerts.kinds.captureEnded = true
        ∨ (s.engine.isActive = true ∧ s.engine.current ≠ none
            ∧ ∃ o : Originator, s.engine.originator = some o ∧ o.toPort = q))
    ∧ kinds.laneHeld = (s.ports.get q).alerts.kinds.laneHeld
    ∧ kinds.captureMissed = (s.ports.get q).alerts.kinds.captureMissed
    ∧ kinds.clipping = (s.ports.get q).alerts.kinds.clipping := by
  refine ⟨_, _, s.cleared_port p q, fun l => ?_, ?_, ?_, ?_, rfl, rfl, rfl⟩
  · rw [← Lane.tells_iff]
    cases l <;> simp [State.endedAlerts, Alerts.tripTold, Alerts.laneOver, PerLane.get, PerLane.set]
  · rw [LaneId.exists_iff, ← Lane.tells_iff, ← Lane.tells_iff, ← Lane.tells_iff]
    simp [State.endedAlerts, Alerts.tripTold, Alerts.laneOver, or_assoc]
  · simp [State.endedAlerts, Alerts.tripTold, Alerts.laneOver]
  · rw [← Engine.stopTells_iff]
    simp [State.endedAlerts, Alerts.tripTold, Alerts.laneOver]

end

/-- Settles O40: field by field of the block that MASTER_CLEAR leaves. -/
theorem masterClearEndsActivity : Obligations.MasterClearEndsActivity := by
  intro p s
  have rest := s.cleared_rest p
  obtain ⟨tripped, cause, active⟩ := s.cleared_trip p
  obtain ⟨engine, comps⟩ := s.cleared_capture p
  refine ⟨s.cleared p, exec_masterClear p s, fun l => ?_, rfl, rfl, rfl, rfl, fun n ready => ?_, fun n q cov => ?_,
    fun canonical n unready => ?_, rest.wave, rest.overlays, rest.steps, rest.programs, rest.descs, rest.mem, rest.sense,
    rest.pending, tripped, cause, active, fun normal => ?_, fun before => ?_, fun idle => ?_, fun d runs current => ?_,
    fun l running => ?_, fun l idle => ?_, fun c leaves => ?_, fun sound c l q bound unreverted snapshot => ?_,
    s.cleared_links_of_tripped p, s.cleared_links_of_normal p, s.cleared_alerts p⟩
  · rw [s.cleared_lane, Lane.ended_state]
  · rw [s.cleared_tableState, State.emptyLoading_of_ready ready]
  · rw [s.cleared_tableState]
    exact s.emptyLoading_ne_loading n q cov
  · rw [s.cleared_tableState, State.emptyLoading_of_not_ready canonical unready]
  · rw [s.cleared_trip_of_normal p normal]
    exact ⟨rfl, rfl, rfl⟩
  · rw [s.cleared_trip_of_tripped p before]
    exact ⟨rfl, rfl, rfl⟩
  · rw [engine, comps, s.stopAny_idle idle]
    exact ⟨rfl, rfl⟩
  · obtain ⟨stopped, record⟩ := s.stopRun_capture d
    rw [engine, comps, s.stopAny_active runs current, stopped, record]
    exact ⟨rfl, Store.get_put_self _ _ _, fun e other => Store.get_put_ne _ _ other⟩
  · rw [s.cleared_lane, Lane.ended_of_running running]
  · rw [s.cleared_lane, Lane.ended_of_idle idle]
  · rw [s.cleared_chan, State.endedChan_of_leaves leaves]
  · rw [s.cleared_chan, State.endedChan_reverts sound bound unreverted snapshot]
    rfl

end Sys2Proof.Machine
end

section
/-! PROOF. What one step does, by the queue it finds: an equation of `step` for each of the queue's two forms (log 5). -/

namespace Sys2Proof.Machine

theorem step_of_empty_queue {s : State} (empty : s.pending = []) : step s = .next s := by
  rw [step, empty]

theorem step_of_queue_cons {s : State} {i : Instr} {rest : List Instr} (queue : s.pending = i :: rest) :
    step s = exec i { s with pending := rest } := by
  rw [step, queue]

/-- Settles O1: one equation of `step` for each form of the queue; the queue that was put in front is overwritten by its
rest. -/
theorem stepTakesFrontCommand : Obligations.StepTakesFrontCommand :=
  ⟨fun _ _ _ => step_of_queue_cons rfl, fun _ empty => step_of_empty_queue empty⟩

end Sys2Proof.Machine
end
